-- ==== Sys2Proof/Word.lean ====
section
/-! DEFINITION. The byte type and the timer type used throughout the model. -/

namespace Sys2Proof

/-- A byte on the host line, in storage or in calibration RAM. -/
abbrev Byte := BitVec 8

/-- A timer of the part: `none` is stopped, `some d` is running and expires when the
microsecond clock reaches `d` (00_scope.md, "Events and time"). -/
abbrev Timer := Option Nat

end Sys2Proof
end

