-- ==== Sys2Proof/Config.lean ====
section
/-! DEFINITION. The free values: constants the manual leaves open. They have no body, so no
proof can see what they are, and a statement that mentions one holds whatever it is. -/

namespace Sys2Proof

/-- The design revision number of the IDENTIFY reply. R195 names the field and gives no
number. Log 11. -/
opaque Config.designRevision : Byte

/-- Whether a remaining time of the given number of microseconds, which is no whole multiple
of 100 ms, is sent rounded up. Section 11.5 gives the unit of a remaining time and no rounding.
Log 12. -/
opaque Config.remainingRoundsUp : Nat → Bool

/-- What a flag byte of the calibration image other than 0 or 1 means. Section 11.9 gives the
flags as bytes and R157 does not check them. Log 13. -/
opaque Config.flagByte : Byte → Bool

/-- The KIND byte of the reply to a request whose KIND is 0x80 or above: R185 and R186 add 0x80
to it, which passes one byte. Log 14. -/
opaque Config.highReplyKind : Byte → Byte

/-- Which of the ring slots that share the highest sequence is taken as the newest: a number
reduced modulo how many there are. R48 takes "the valid slot with the highest sequence".
Log 15. -/
opaque Config.ringTie : List Nat → Nat

/-- The sequence a write carries after one with sequence 4,294,967,295: R51 asks for one higher, which
32 bits do not hold. Log 41. -/
opaque Config.sequenceAfterLast : BitVec 32

/-- Which severity, counted from MINOR 0 and reduced modulo 3, a severity byte other than 0-2 in a stored
fault slot with a good CRC is: R147 loads the field as stored and section 11.5 codes three. Log 42. -/
opaque Config.severityByte : Byte → Nat

end Sys2Proof
end

