-- ==== Sys2Proof/Syntax.lean ====
section
/-! DEFINITION. The commands of the part: one constructor for each row of
spec/opcode_table.json, with the operands the rule of the row gives it. -/

namespace Sys2Proof

/-- The three timed scan classes (section 1.3). -/
inductive ScanClass where
  | fast | medium | slow
deriving DecidableEq, Repr, Inhabited

/-- The two pulse inputs: PI0 is road, PI1 is engine (section 3.1). -/
inductive PulseInput where
  | road | engine
deriving DecidableEq, Repr, Inhabited

/-- The two coils of a gauge movement (chapter 4). -/
inductive Coil where
  | sin | cos
deriving DecidableEq, Repr, Inhabited

/-- What a lamp output senses (section 5.5): its load current, or the level of its pin. -/
inductive LampSense where
  | current (milliamps : Nat)
  | readback (high : Bool)
deriving DecidableEq, Repr, Inhabited

/-- How a storage read job ended: with the bytes read, or failed (R150). -/
inductive ReadEnd where
  | delivered (data : List Byte)
  | failed
deriving DecidableEq, Repr, Inhabited

/-- The commands. The events of the part come first, then the requests of the host in the order
of the catalogue (R195). A request carries the TAG byte of its frame and the payload bytes; where
a row is one action, scope or item type of a request kind, the payload is the bytes named in the
constructor's comment, the row's own selector byte among them. -/
inductive Instr where
  /-- POWER_ON_RESET (R172): the level of the IGN pin at the reset. -/
  | powerOnReset (ignition : Bool)
  /-- IGN_PIN_CHANGE (R170): the new level of the pin. -/
  | ignPinChange (level : Bool)
  /-- IGNITION_DEBOUNCE_EXPIRY (R170). -/
  | ignitionDebounceExpiry
  /-- BULB_CHECK_EXPIRY (R174). -/
  | bulbCheckExpiry
  /-- FLUSH_TIMER_EXPIRY (R175). -/
  | flushTimerExpiry
  /-- UNDERVOLTAGE_TIMER_EXPIRY (R180). -/
  | undervoltageTimerExpiry
  /-- SCAN_PERIOD_EXPIRY (R5): the class whose period timer expires. -/
  | scanPeriodExpiry (cls : ScanClass)
  /-- SETTLE_TIMER_EXPIRY (R9). -/
  | settleTimerExpiry
  /-- CONVERSION_COMPLETE (R9): the quantity sampled, in microvolts (for DIET in thousandths of
  a degree Celsius), and the highest voltage on the pin since it was selected, in microvolts. -/
  | conversionComplete (sample peak : Int)
  /-- RECOVERY_GAP_EXPIRY (R11). -/
  | recoveryGapExpiry
  /-- PULSE_EDGE (R42): the input and the reading of the microsecond counter at the edge. -/
  | pulseEdge (input : PulseInput) (stamp : BitVec 32)
  /-- PULSE_UPDATE (R43): the input whose update timer expires. -/
  | pulseUpdate (input : PulseInput)
  /-- GAUGE_UPDATE (R56). -/
  | gaugeUpdate
  /-- PWM_PERIOD_END (R62): the gauge whose period ends. -/
  | pwmPeriodEnd (g : Fin 6)
  /-- COIL_CURRENT_LIMIT (R62): the gauge, the coil, the current sensed in milliamperes, and the
  counts of 50 ns since the start of the pulse. -/
  | coilCurrentLimit (g : Fin 6) (coil : Coil) (milliamps counts : Nat)
  /-- RESTART_TIMER_EXPIRY (R64). -/
  | restartTimerExpiry (g : Fin 6)
  /-- HOLD_TIMER_EXPIRY (R67). -/
  | holdTimerExpiry (g : Fin 6)
  /-- WARNING_DELAY_EXPIRY (R84). -/
  | warningDelayExpiry (w : Fin 64)
  /-- FLASH_PHASE_EXPIRY (R90). -/
  | flashPhaseExpiry
  /-- DIAGNOSIS_TIMER_EXPIRY (R91). -/
  | diagnosisTimerExpiry (l : Fin 24)
  /-- LAMP_OVERCURRENT (R93): the lamp, the current sensed in milliamperes, and the microseconds
  since the output was switched on. -/
  | lampOvercurrent (l : Fin 24) (milliamps sinceOn : Nat)
  /-- RETRY_TIMER_EXPIRY (R93). -/
  | retryTimerExpiry (l : Fin 24)
  /-- CHIME_PLAYER_STEP (R100). -/
  | chimePlayerStep
  /-- CHIME_SILENCE_END (R99). -/
  | chimeSilenceEnd
  /-- DOOR_HOLD_TIMER_EXPIRY (R114). -/
  | doorHoldTimerExpiry (d : Fin 4)
  /-- CLOSE_TIMEOUT (R117). -/
  | closeTimeout (d : Fin 4)
  /-- BRAKE_DELAY_EXPIRY (R124). -/
  | brakeDelayExpiry
  /-- STORAGE_POLL_TICK (R151): the status byte the further status read brings. -/
  | storagePollTick (status : Byte)
  /-- READ_JOB_COMPLETE (R150). -/
  | readJobComplete (result : ReadEnd)
  /-- WRITE_JOB_COMPLETE (R151): whether the job ended successfully. -/
  | writeJobComplete (ok : Bool)
  /-- PROBE_COMPLETE (R155): the status byte of the probe. -/
  | probeComplete (status : Byte)
  /-- RX_BYTE (R184): the byte and whether its stop bit was there. -/
  | rxByte (b : Byte) (stopBit : Bool)
  /-- GAP_TIMER_EXPIRY (R184). -/
  | gapTimerExpiry
  /-- KEEP_ALIVE (R185): a valid frame with tag 0, of any KIND and payload. -/
  | keepAlive (kind : Byte) (payload : List Byte)
  /-- UNKNOWN_KIND (R186): a valid frame that no other row spells. Its KIND is not in the
  catalogue, or its payload names no action, scope or item type that a row stands for. -/
  | unknownKind (kind tag : Byte) (payload : List Byte)
  /-- LINK_TIMER_EXPIRY (R192). -/
  | linkTimerExpiry
  /-- TRANSMIT_COMPLETE (R189). -/
  | transmitComplete
  /-- IDENTIFY, 0x01 (R195). -/
  | identify (tag : Byte) (payload : List Byte)
  /-- STATUS, 0x02 (R195). -/
  | status (tag : Byte) (payload : List Byte)
  /-- SUBSCRIBE, 0x03 (R191). -/
  | subscribe (tag : Byte) (payload : List Byte)
  /-- READ_CHANNELS, 0x04 (R195). -/
  | readChannels (tag : Byte) (payload : List Byte)
  /-- SAMPLE_NOW, 0x05 (R13). -/
  | sampleNow (tag : Byte) (payload : List Byte)
  /-- READ_WARNINGS, 0x06 (R107). -/
  | readWarnings (tag : Byte) (payload : List Byte)
  /-- ACK_WARNINGS, 0x07 (R88). -/
  | ackWarnings (tag : Byte) (payload : List Byte)
  /-- SET_LAMPS, 0x08 (R89). -/
  | setLamps (tag : Byte) (payload : List Byte)
  /-- DOOR_COMMAND, 0x09, action RELEASE (R118): payload `door :: 0 :: rest`. -/
  | doorCommandRelease (tag door : Byte) (rest : List Byte)
  /-- DOOR_COMMAND, 0x09, action CLOSE (R118): payload `door :: 1 :: rest`. -/
  | doorCommandClose (tag door : Byte) (rest : List Byte)
  /-- READ_DOORS, 0x0A (R129). -/
  | readDoors (tag : Byte) (payload : List Byte)
  /-- READ_GAUGES, 0x0B (R76). -/
  | readGauges (tag : Byte) (payload : List Byte)
  /-- READ_ODOMETER, 0x0C (R54). -/
  | readOdometer (tag : Byte) (payload : List Byte)
  /-- FAULT_LIST, 0x0D (R145). -/
  | faultList (tag : Byte) (payload : List Byte)
  /-- FAULT_READ, 0x0E (R146). -/
  | faultRead (tag : Byte) (payload : List Byte)
  /-- FAULT_CLEAR, 0x0F, scope ALL (R144): payload `0 :: rest`. -/
  | faultClearAll (tag : Byte) (rest : List Byte)
  /-- FAULT_CLEAR, 0x0F, scope ONE (R144): payload `1 :: rest`. -/
  | faultClearOne (tag : Byte) (rest : List Byte)
  /-- SERVICE_ENTER, 0x10 (R176). -/
  | serviceEnter (tag : Byte) (payload : List Byte)
  /-- SERVICE_EXIT, 0x11 (R177). -/
  | serviceExit (tag : Byte) (payload : List Byte)
  /-- OUTPUT_TEST, 0x12, gauge item (R71): payload `0 :: rest`. -/
  | outputTestGauge (tag : Byte) (rest : List Byte)
  /-- OUTPUT_TEST, 0x12, lamp item (R96): payload `1 :: rest`. -/
  | outputTestLamp (tag : Byte) (rest : List Byte)
  /-- OUTPUT_TEST, 0x12, chime item (R104): payload `2 :: rest`. -/
  | outputTestChime (tag : Byte) (rest : List Byte)
  /-- CAL_BEGIN, 0x13 (R160). -/
  | calBegin (tag : Byte) (payload : List Byte)
  /-- CAL_WRITE, 0x14 (R161). -/
  | calWrite (tag : Byte) (payload : List Byte)
  /-- CAL_COMMIT, 0x15 (R162). -/
  | calCommit (tag : Byte) (payload : List Byte)
  /-- CAL_ABORT, 0x16 (R165). -/
  | calAbort (tag : Byte) (payload : List Byte)
  /-- CAL_READ, 0x17 (R161). -/
  | calRead (tag : Byte) (payload : List Byte)
  /-- RESTORE_OUTPUTS, 0x18 (R182). -/
  | restoreOutputs (tag : Byte) (payload : List Byte)
  /-- RESET, 0x19 (R178). -/
  | reset (tag : Byte) (payload : List Byte)
  /-- READ_LAMPS, 0x1A (R107). -/
  | readLamps (tag : Byte) (payload : List Byte)
  /-- LAMP_SENSE_CHANGE (R91): the lamp and what it senses now. -/
  | lampSenseChange (l : Fin 24) (sense : LampSense)
deriving DecidableEq, Repr

end Sys2Proof
end

