-- ==== Sys2Proof/WellFormed.lean ====
section
/-! DEFINITION. Which commands can come about at all: the checks on a command's operands that the
manual's formats and the physics of the inputs give, and that the types do not. -/

namespace Sys2Proof

/-- The greatest LEN of a frame (R184). -/
def maxPayload : Nat := 240

/-- A request's tag is 1 to 255 and its payload fits a frame (R184, R185). -/
def requestOk (tag : Byte) (len : Nat) : Bool :=
  tag != 0#8 && decide (len ≤ maxPayload)

/-- Whether a row other than UNKNOWN_KIND stands for a frame of this KIND and payload: the kinds of
the catalogue (R195), and for DOOR_COMMAND, FAULT_CLEAR and OUTPUT_TEST those whose action, scope or
item type is one that has a row. -/
def hasRow (kind : Byte) (payload : List Byte) : Bool :=
  match kind.toNat, payload with
  | 0x09, _ :: action :: _ => action == 0#8 || action == 1#8
  | 0x09, _ => false
  | 0x0F, scope :: _ => scope == 0#8 || scope == 1#8
  | 0x0F, [] => false
  | 0x12, item :: _ => item == 0#8 || item == 1#8 || item == 2#8
  | 0x12, [] => false
  | k, _ => decide (1 ≤ k) && decide (k ≤ 0x1A)

/-- The well-formedness check of a command. -/
def WellFormed : Instr → Bool
  | .conversionComplete sample peak => decide (sample ≤ peak)
  | .readJobComplete (.delivered data) => decide (data.length ≤ 128)
  | .keepAlive _ payload => decide (payload.length ≤ maxPayload)
  | .unknownKind kind tag payload => requestOk tag payload.length && !hasRow kind payload
  | .identify tag p | .status tag p | .subscribe tag p | .readChannels tag p | .sampleNow tag p
  | .readWarnings tag p | .ackWarnings tag p | .setLamps tag p | .readDoors tag p
  | .readGauges tag p | .readOdometer tag p | .faultList tag p | .faultRead tag p
  | .serviceEnter tag p | .serviceExit tag p | .calBegin tag p | .calWrite tag p
  | .calCommit tag p | .calAbort tag p | .calRead tag p | .restoreOutputs tag p
  | .reset tag p | .readLamps tag p => requestOk tag p.length
  | .doorCommandRelease tag _ rest | .doorCommandClose tag _ rest => requestOk tag (rest.length + 2)
  | .faultClearAll tag rest | .faultClearOne tag rest | .outputTestGauge tag rest
  | .outputTestLamp tag rest | .outputTestChime tag rest => requestOk tag (rest.length + 1)
  | .powerOnReset _ | .ignPinChange _ | .ignitionDebounceExpiry | .bulbCheckExpiry
  | .flushTimerExpiry | .undervoltageTimerExpiry | .scanPeriodExpiry _ | .settleTimerExpiry
  | .recoveryGapExpiry | .pulseEdge _ _ | .pulseUpdate _ | .gaugeUpdate | .pwmPeriodEnd _
  | .coilCurrentLimit _ _ _ _ | .restartTimerExpiry _ | .holdTimerExpiry _
  | .warningDelayExpiry _ | .flashPhaseExpiry | .diagnosisTimerExpiry _
  | .lampOvercurrent _ _ _ | .retryTimerExpiry _ | .chimePlayerStep | .chimeSilenceEnd
  | .doorHoldTimerExpiry _ | .closeTimeout _ | .brakeDelayExpiry | .storagePollTick _
  | .readJobComplete .failed | .writeJobComplete _ | .probeComplete _ | .rxByte _ _
  | .gapTimerExpiry | .linkTimerExpiry | .transmitComplete | .lampSenseChange _ _ => true

end Sys2Proof
end

