-- ==== Sys2Proof/Decode.lean ====
section
/-! DEFINITION. From a valid frame of the host line to the command it is, and back. The rows of
spec/opcode_table.json give no bits, so `decodeTableWord` reads nothing; the requests among them are
spelled by frames (section 11.2), and that reading is here. -/

namespace Sys2Proof

/-- A valid frame: KIND, TAG and payload (section 11.2), its SYNC, LEN and CRC checked. -/
structure Frame where
  kind : Byte
  tag : Byte
  payload : List Byte
deriving DecidableEq, Repr, Inhabited

/-- The command a row's word spells. No row of the table gives bits. -/
def decodeTableWord (_nbits _w : Nat) : Option Instr := none

/-- The command a valid frame is. A frame with tag 0 is a keep-alive whatever its KIND (R185); a
frame with another tag is the request its KIND names in the catalogue (R195), and for
DOOR_COMMAND, FAULT_CLEAR and OUTPUT_TEST the row of its action, scope or item type. Every other
frame is the UNKNOWN_KIND row. Log 4. -/
def decodeFrame (f : Frame) : Instr :=
  if f.tag = 0#8 then .keepAlive f.kind f.payload
  else
    match f.kind.toNat with
    | 0x01 => .identify f.tag f.payload
    | 0x02 => .status f.tag f.payload
    | 0x03 => .subscribe f.tag f.payload
    | 0x04 => .readChannels f.tag f.payload
    | 0x05 => .sampleNow f.tag f.payload
    | 0x06 => .readWarnings f.tag f.payload
    | 0x07 => .ackWarnings f.tag f.payload
    | 0x08 => .setLamps f.tag f.payload
    | 0x09 =>
      match f.payload with
      | door :: action :: rest =>
        if action = 0#8 then .doorCommandRelease f.tag door rest
        else if action = 1#8 then .doorCommandClose f.tag door rest
        else .unknownKind f.kind f.tag f.payload
      | _ => .unknownKind f.kind f.tag f.payload
    | 0x0A => .readDoors f.tag f.payload
    | 0x0B => .readGauges f.tag f.payload
    | 0x0C => .readOdometer f.tag f.payload
    | 0x0D => .faultList f.tag f.payload
    | 0x0E => .faultRead f.tag f.payload
    | 0x0F =>
      match f.payload with
      | scope :: rest =>
        if scope = 0#8 then .faultClearAll f.tag rest
        else if scope = 1#8 then .faultClearOne f.tag rest
        else .unknownKind f.kind f.tag f.payload
      | [] => .unknownKind f.kind f.tag f.payload
    | 0x10 => .serviceEnter f.tag f.payload
    | 0x11 => .serviceExit f.tag f.payload
    | 0x12 =>
      match f.payload with
      | item :: rest =>
        if item = 0#8 then .outputTestGauge f.tag rest
        else if item = 1#8 then .outputTestLamp f.tag rest
        else if item = 2#8 then .outputTestChime f.tag rest
        else .unknownKind f.kind f.tag f.payload
      | [] => .unknownKind f.kind f.tag f.payload
    | 0x13 => .calBegin f.tag f.payload
    | 0x14 => .calWrite f.tag f.payload
    | 0x15 => .calCommit f.tag f.payload
    | 0x16 => .calAbort f.tag f.payload
    | 0x17 => .calRead f.tag f.payload
    | 0x18 => .restoreOutputs f.tag f.payload
    | 0x19 => .reset f.tag f.payload
    | 0x1A => .readLamps f.tag f.payload
    | _ => .unknownKind f.kind f.tag f.payload

/-- The frame a command is, where it is one (the catalogue of R195, the selectors of 11.3). -/
def encodeFrame : Instr → Option Frame
  | .keepAlive kind payload => some ⟨kind, 0#8, payload⟩
  | .unknownKind kind tag payload => some ⟨kind, tag, payload⟩
  | .identify tag p => some ⟨0x01#8, tag, p⟩
  | .status tag p => some ⟨0x02#8, tag, p⟩
  | .subscribe tag p => some ⟨0x03#8, tag, p⟩
  | .readChannels tag p => some ⟨0x04#8, tag, p⟩
  | .sampleNow tag p => some ⟨0x05#8, tag, p⟩
  | .readWarnings tag p => some ⟨0x06#8, tag, p⟩
  | .ackWarnings tag p => some ⟨0x07#8, tag, p⟩
  | .setLamps tag p => some ⟨0x08#8, tag, p⟩
  | .doorCommandRelease tag door rest => some ⟨0x09#8, tag, door :: 0#8 :: rest⟩
  | .doorCommandClose tag door rest => some ⟨0x09#8, tag, door :: 1#8 :: rest⟩
  | .readDoors tag p => some ⟨0x0A#8, tag, p⟩
  | .readGauges tag p => some ⟨0x0B#8, tag, p⟩
  | .readOdometer tag p => some ⟨0x0C#8, tag, p⟩
  | .faultList tag p => some ⟨0x0D#8, tag, p⟩
  | .faultRead tag p => some ⟨0x0E#8, tag, p⟩
  | .faultClearAll tag rest => some ⟨0x0F#8, tag, 0#8 :: rest⟩
  | .faultClearOne tag rest => some ⟨0x0F#8, tag, 1#8 :: rest⟩
  | .serviceEnter tag p => some ⟨0x10#8, tag, p⟩
  | .serviceExit tag p => some ⟨0x11#8, tag, p⟩
  | .outputTestGauge tag rest => some ⟨0x12#8, tag, 0#8 :: rest⟩
  | .outputTestLamp tag rest => some ⟨0x12#8, tag, 1#8 :: rest⟩
  | .outputTestChime tag rest => some ⟨0x12#8, tag, 2#8 :: rest⟩
  | .calBegin tag p => some ⟨0x13#8, tag, p⟩
  | .calWrite tag p => some ⟨0x14#8, tag, p⟩
  | .calCommit tag p => some ⟨0x15#8, tag, p⟩
  | .calAbort tag p => some ⟨0x16#8, tag, p⟩
  | .calRead tag p => some ⟨0x17#8, tag, p⟩
  | .restoreOutputs tag p => some ⟨0x18#8, tag, p⟩
  | .reset tag p => some ⟨0x19#8, tag, p⟩
  | .readLamps tag p => some ⟨0x1A#8, tag, p⟩
  | .powerOnReset _ | .ignPinChange _ | .ignitionDebounceExpiry | .bulbCheckExpiry
  | .flushTimerExpiry | .undervoltageTimerExpiry | .scanPeriodExpiry _ | .settleTimerExpiry
  | .conversionComplete _ _ | .recoveryGapExpiry | .pulseEdge _ _ | .pulseUpdate _ | .gaugeUpdate
  | .pwmPeriodEnd _ | .coilCurrentLimit _ _ _ _ | .restartTimerExpiry _ | .holdTimerExpiry _
  | .warningDelayExpiry _ | .flashPhaseExpiry | .diagnosisTimerExpiry _
  | .lampOvercurrent _ _ _ | .retryTimerExpiry _ | .chimePlayerStep | .chimeSilenceEnd
  | .doorHoldTimerExpiry _ | .closeTimeout _ | .brakeDelayExpiry | .storagePollTick _
  | .readJobComplete _ | .writeJobComplete _ | .probeComplete _ | .rxByte _ _
  | .gapTimerExpiry | .linkTimerExpiry | .transmitComplete | .lampSenseChange _ _ => none

end Sys2Proof
end

