-- ==== Sys2Proof/Machine/State.lean ====
section
/-! DEFINITION. The state of the part: what each of its ten blocks owns (00_scope.md, "Block
overview"), the commands that wait, and the state after a power-on reset. -/

namespace Sys2Proof.Machine

/-! ## Enumerations -/

/-- The operating modes (chapter 9). -/
inductive Mode where
  | standby | loading | awaitingImage | sweep | run | service | saving
deriving DecidableEq, Repr, Inhabited

/-- The causes of a mode change, in the order R169 lists them. -/
inductive ModeCause where
  | powerOn | hostRequest | ignitionOn | ignitionOff | imageLoaded | noImage | sweepDone
  | calBegin | calCommit | calAbort | flushDone | flushLimit | ignitionReturned
  | serviceRequest | serviceExit | standstillLost | parkingBrake
deriving DecidableEq, Repr, Inhabited

/-- The causes of a reset (section 9.1). -/
inductive ResetCause where
  | powerOn | hostRequest
deriving DecidableEq, Repr, Inhabited

/-- Published qualities (R20). -/
inductive Quality where
  | good | notYet | wireLow | wireHigh | shortSupply | undefinedLevel | supplyFault | adcFault | stale
deriving DecidableEq, Repr, Inhabited

/-- Wiring faults (section 2.4). -/
inductive WiringFault where
  | wireLow | wireHigh | shortSupply | undefinedLevel
deriving DecidableEq, Repr, Inhabited

/-- Channel kinds (R18). -/
inductive ChanKind where
  | analog | switch | supply | pulse
deriving DecidableEq, Repr, Inhabited

/-- The bias of a sense pin (section 1.1). -/
inductive Bias where
  | none | pullUp | pullDown
deriving DecidableEq, Repr, Inhabited

/-- The range of a sense pin (section 1.1). -/
inductive Range where
  | low | high
deriving DecidableEq, Repr, Inhabited

/-- What a conversion serves: a scan of a class, or the on-demand list (R8). -/
inductive Source where
  | scan (cls : ScanClass)
  | onDemand
deriving DecidableEq, Repr, Inhabited

/-- Gauge states (section 4.1). -/
inductive GaugeState where
  | off | sweep | tracking | invalid | shutdown | lockedOff | supplyOff | override
deriving DecidableEq, Repr, Inhabited

/-- Phases of a gauge's sweep (R67). -/
inductive SweepPhase where
  | rising | holding | falling | done
deriving DecidableEq, Repr, Inhabited

/-- Warning states (section 5.3). -/
inductive WarningState where
  | inactive | pendingOn | activeNew | activeAcked | pendingOff | clearedUnacked
deriving DecidableEq, Repr, Inhabited

/-- The state a warning in PENDING_OFF remembers (R85). -/
inductive Remembered where
  | activeNew | activeAcked
deriving DecidableEq, Repr, Inhabited

/-- Warning classes (section 5.1). -/
inductive WarningClass where
  | stop | caution | advisory
deriving DecidableEq, Repr, Inhabited

/-- Chime patterns; `none` is the calibrated setting NONE (section 5.6). -/
inductive Chime where
  | none | single | triple | continuous
deriving DecidableEq, Repr, Inhabited

/-- What a warning watches (section 5.1). -/
inductive SourceKind where
  | channel | door | interlock | gauge | lamp | system
deriving DecidableEq, Repr, Inhabited

/-- Warning conditions, in the order of their codes (section 11.9). -/
inductive Condition where
  | above | below | active | inactive | qualityBad | doorNotClosed | doorOpenMoving | doorStuck
  | doorEmergency | doorRequest | interlockBypass | gaugeFault | lampFault | linkLost
  | driverShutdown | storageFault | adcFault | calFromHost
deriving DecidableEq, Repr, Inhabited

/-- The policy of a CHANNEL condition while the source is not GOOD (R81). -/
inductive InvalidPolicy where
  | assert | clear | hold
deriving DecidableEq, Repr, Inhabited

/-- What a lamp's demand is (R89). -/
inductive Demand where
  | off | steady | flashing
deriving DecidableEq, Repr, Inhabited

/-- Lamp driver states (section 5.5). -/
inductive LampDriver where
  | ok | openLoad | shortToGround | overcurrentWait | lockedOff
deriving DecidableEq, Repr, Inhabited

/-- Door positions (R109). -/
inductive DoorPosition where
  | unknown | emergency | obstructed | opened | closed | closedLocked
deriving DecidableEq, Repr, Inhabited

/-- Door release states (section 6.3). -/
inductive ReleaseState where
  | held | pending | released | closing | stuck
deriving DecidableEq, Repr, Inhabited

/-- Causes of a DOOR_CHANGE notice, in the order R121 lists them. -/
inductive DoorCause where
  | releaseRequest | closeRequest | speedOk | releaseExpired | releaseWithdrawn | closeTimeout
  | obstruction | position | passengerRequest | opened
deriving DecidableEq, Repr, Inhabited

/-- Severities, from least to greatest (section 7.1). -/
inductive Severity where
  | minor | major | critical
deriving DecidableEq, Repr, Inhabited

/-- Where a fault record's freeze frame is (section 7.2). -/
inductive FrameRef where
  | absent
  | inPool (i : Fin 8)
  | stored
deriving DecidableEq, Repr, Inhabited

/-- The changed-in-flight mark (section 7.2). -/
inductive FlightMark where
  | clear | changed | renewed
deriving DecidableEq, Repr, Inhabited

/-- The storage state (R155). -/
inductive StorageState where
  | unprobed | present | absent
deriving DecidableEq, Repr, Inhabited

/-- The requesters of the storage port (section 8.3). -/
inductive Requester where
  | faultWriter | odometer | loader | hostRead | imageStore
deriving DecidableEq, Repr, Inhabited

/-- The loader's states, in the order section 8.6 lists them. -/
inductive LoaderState where
  | idle | probing | fetchingHeader | fetchingBody | readingRing | readingSlots | verifying
deriving DecidableEq, Repr, Inhabited

/-- Why the loader is being stopped (R159, R178). -/
inductive LoaderStop where
  | ignitionOff | reset
deriving DecidableEq, Repr, Inhabited

/-- The origin of the current AWAITING_IMAGE (R160). -/
inductive Origin where
  | loading | service
deriving DecidableEq, Repr, Inhabited

/-- The last validation result (R157). -/
inductive Validation where
  | none
  | pass
  | failure (sec entry : Nat)
deriving DecidableEq, Repr, Inhabited

/-- The flush of MOD (R175, R178). -/
inductive Flush where
  | none | saving | reset
deriving DecidableEq, Repr, Inhabited

/-- The driver supply state (R181). -/
inductive Supply where
  | on | off | waitingRestore
deriving DecidableEq, Repr, Inhabited

/-- The bulb-check timer (R174). -/
inductive BulbTimer where
  | stopped
  | running (deadline : Nat)
  | expired
deriving DecidableEq, Repr, Inhabited

/-- The state of the odometer job (R50). -/
inductive OdometerJob where
  | none | queued | inFlight
deriving DecidableEq, Repr, Inhabited

/-- The notice kinds (R196). -/
inductive NoticeKind where
  | channelQuality | switchChange | warningChange | doorChange | interlockChange | gaugeChange
  | faultChange | modeChange | systemChange
deriving DecidableEq, Repr, Inhabited

/-! ## SEQ, the conversion sequencer (chapter 1) -/

/-- What SEQ keeps for one scan class (section 1.3). -/
structure ClassState where
  timer : Timer
  request : Bool
  position : Option Nat
  late : Bool
  overruns : Nat
  onTime : Nat
  held : Bool
  set : List Nat
deriving DecidableEq, Repr, Inhabited

/-- One conversion: its channel, what it serves, and the bias and range connected (R1, R9). -/
structure Conversion where
  channel : Nat
  source : Source
  bias : Bias
  range : Range
deriving DecidableEq, Repr, Inhabited

/-- The converter (section 1.4); each number is the time its timer expires at. -/
inductive Converter where
  | idle
  | settling (c : Conversion) (deadline : Nat)
  | converting (c : Conversion) (deadline : Nat)
  | recovering (deadline : Nat)
deriving DecidableEq, Repr, Inhabited

/-- An entry of the on-demand list (section 1.7): the tag of its request, its channel and, once
converted, its raw code and over-voltage flag. -/
structure DemandEntry where
  tag : Byte
  channel : Nat
  result : Option (Nat × Bool)
deriving DecidableEq, Repr, Inhabited

structure SeqState where
  fast : ClassState
  medium : ClassState
  slow : ClassState
  converter : Converter
  onDemand : List DemandEntry
  adcFault : Bool
  goodRefs : Nat
deriving DecidableEq, Repr, Inhabited

/-! ## SIG, the signal conditioner (chapter 2) -/

/-- A channel record (section 2.1). The published quality is a function of its causes (R20). For a
SWITCH channel `value` is the switch state. -/
structure ChanRec where
  kind : ChanKind
  value : Int
  instant : Int
  raw : Nat
  corrected : Nat
  acc : Int
  primed : Bool
  debounce : Nat
  pendingFault : Option (WiringFault × Nat)
  heal : Option Nat
  age : Nat
  adcFault : Bool
  supplyFault : Bool
  wiring : Option WiringFault
  stale : Bool
  notYet : Bool
deriving DecidableEq, Repr, Inhabited

structure SigState where
  table : Vector ChanRec 46
  refSsup : Option Nat
  supplyFault : Bool
deriving DecidableEq, Repr, Inhabited

/-! ## PLS, the pulse unit (chapter 3) -/

/-- What PLS keeps for one input (section 3.1). -/
structure PulseState where
  lastEdge : Option (BitVec 32)
  count : Nat
  tLast : Option (BitVec 32)
  tRef : Option (BitVec 32)
  raw : Nat
  timer : Timer
deriving DecidableEq, Repr, Inhabited

structure PlsState where
  road : PulseState
  engine : PulseState
  standstill : Bool
  distance : Nat
  frac : Nat
  cycles : Nat
  cycleOwed : Bool
  ringTaken : Bool
  lastSlot : Nat
  lastSeq : Nat
  odoJob : OdometerJob
  writeOwed : Bool
deriving DecidableEq, Repr, Inhabited

/-! ## GAU, the gauge driver unit (chapter 4) -/

/-- A gauge record (section 4.1). `sweepDone` is what a gauge that is not driven remembers of its
sweep during the SWEEP mode. `pwm` holds the duties loaded for the running PWM period, `none` while
the bridges are off (R61); `sinEnded` and `cosEnded` say that the coil's pulse was ended early in
that period (R62). -/
structure GaugeRec where
  state : GaugeState
  position : Int
  target : Int
  phase : Option SweepPhase
  sweepDone : Option Bool
  overrideAngle : Option Int
  terminated : Nat
  clean : Option Nat
  restarts : Nat
  held : Bool
  sinDuty : Int
  cosDuty : Int
  holdTimer : Timer
  restartTimer : Timer
  pwm : Option (Int × Int)
  sinEnded : Bool
  cosEnded : Bool
deriving DecidableEq, Repr, Inhabited

structure GauState where
  gauges : Vector GaugeRec 6
  timer : Timer
deriving DecidableEq, Repr, Inhabited

/-! ## WRN, the warning unit (chapter 5) -/

/-- The settings of a warning (section 5.1). -/
structure WarningCfg where
  enabled : Bool
  kind : SourceKind
  index : Nat
  condition : Condition
  threshold : Int
  hysteresis : Int
  gate : Option Nat
  gateMin : Int
  onDelay : Nat
  offDelay : Nat
  cls : WarningClass
  latched : Bool
  lamp : Option Nat
  flash : Bool
  chime : Chime
  policy : InvalidPolicy
  faultReport : Bool
deriving DecidableEq, Repr, Inhabited

/-- A warning record (section 5.1). -/
structure WarningRec where
  state : WarningState
  condition : Bool
  remembered : Option Remembered
  timer : Timer
  held : Bool
deriving DecidableEq, Repr, Inhabited

/-- A lamp record (section 5.4). `onSince` is the time of the last switch-on while the output is on;
`currentOk` says that the sensed current is 5 mA or more, and `pinHigh` that the pin reads high. -/
structure LampRec where
  hostBit : Bool
  demand : Demand
  force : Option Bool
  output : Bool
  driver : LampDriver
  retries : Nat
  heldOpen : Bool
  heldShort : Bool
  heldOver : Bool
  diagTimer : Timer
  retryTimer : Timer
  onSince : Option Nat
  currentOk : Bool
  pinHigh : Bool
deriving DecidableEq, Repr, Inhabited

/-- A chime request (R98); `high` is the STOP group. -/
structure ChimeRequest where
  warning : Fin 64
  pattern : Chime
  high : Bool
deriving DecidableEq, Repr, Inhabited

/-- The test request of SERVICE (R104); `highTone` is 2.0 kHz. -/
structure ChimeTest where
  pattern : Chime
  highTone : Bool
deriving DecidableEq, Repr, Inhabited

/-- A play in progress (R100): the warning it plays or the test request (`none`), its pattern, its
group, its tone, the segment it is in, when that segment ends, and the low group's last grant as it
was before the grant (R101). -/
structure Play where
  warning : Option (Fin 64)
  pattern : Chime
  high : Bool
  highTone : Bool
  segment : Nat
  deadline : Nat
  lowBefore : Option (Fin 64)
deriving DecidableEq, Repr, Inhabited

/-- The chime player (section 5.6). -/
inductive Player where
  | idle
  | playing (p : Play)
  | silence (deadline : Nat)
deriving DecidableEq, Repr, Inhabited

/-- The flash phase (R90): the half it is in and when it ends. -/
structure Flash where
  on : Bool
  deadline : Nat
deriving DecidableEq, Repr, Inhabited

/-- The warning unit. WRN runs exactly while its flash phase runs (R78, R90). -/
structure WrnState where
  cfg : Vector WarningCfg 64
  ackChannel : Option Nat
  warnings : Vector WarningRec 64
  lamps : Vector LampRec 24
  requests : List ChimeRequest
  test : Option ChimeTest
  player : Player
  lastHigh : Option (Fin 64)
  lastLow : Option (Fin 64)
  flash : Option Flash
  linkLost : Bool
deriving DecidableEq, Repr, Inhabited

/-! ## DOR, the door supervisor (chapter 6) -/

/-- The settings of a door (section 6.1); times are in microseconds. -/
structure DoorCfg where
  closed : Nat
  locked : Option Nat
  obstruction : Option Nat
  emergency : Option Nat
  request : Option Nat
  openButton : Option Nat
  closeButton : Option Nat
  releaseSpeed : Nat
  holdTime : Nat
  closeTimeout : Nat
deriving DecidableEq, Repr, Inhabited

/-- The settings DOR takes at a start (R108). -/
structure DorCfg where
  count : Nat
  doors : Vector DoorCfg 4
  bypass : Option Nat
  kneel : Option Nat
  ramp : Option Nat
  brakeDelay : Nat
deriving DecidableEq, Repr, Inhabited

/-- A door record (section 6.1). -/
structure DoorRec where
  position : DoorPosition
  release : ReleaseState
  holdTimer : Timer
  closeTimer : Timer
  requestPending : Bool
  obstructions : Nat
  held : Bool
  line : Bool
deriving DecidableEq, Repr, Inhabited

/-- The interlock record (section 6.1). -/
structure Interlock where
  doorCondition : Bool
  bypass : Bool
  bypassHeld : Bool
  drivePermit : Bool
  brakePermit : Bool
  brakeTimer : Timer
deriving DecidableEq, Repr, Inhabited

structure DorState where
  running : Bool
  cfg : DorCfg
  doors : Vector DoorRec 4
  interlock : Interlock
  roadQuality : Quality
  roadInstant : Int
deriving DecidableEq, Repr, Inhabited

/-! ## FLT, the fault memory (chapter 7) -/

/-- A freeze frame (R135): the code, the four frame channels with quality and value, the road
instant, the battery value and quality, the distance, the mode and the four door positions. -/
structure FreezeFrame where
  code : BitVec 16
  channels : List (Nat × Quality × Int)
  roadInstant : Int
  battValue : Int
  battQuality : Quality
  distance : Nat
  mode : Mode
  doors : List DoorPosition
deriving DecidableEq, Repr, Inhabited

/-- A fault record (section 7.2); `active` is its status. -/
structure FaultRec where
  code : BitVec 16
  active : Bool
  severity : Severity
  occurrences : Nat
  firstDistance : Nat
  lastDistance : Nat
  firstCycle : Nat
  lastCycle : Nat
  aging : Nat
  frame : FrameRef
  frameLost : Bool
deriving DecidableEq, Repr, Inhabited

/-- A slot: free or a record, and whether its stored slot is behind it (R138). -/
structure FaultSlot where
  record : Option FaultRec
  dirty : Bool
deriving DecidableEq, Repr, Inhabited

/-- The fault write in flight (R139): its slot, the snapshot of the record and of its pool frame,
whether the record job is the one in flight, and the slot's changed-in-flight mark. -/
structure FaultWrite where
  slot : Fin 40
  record : Option FaultRec
  frame : Option (Fin 8 × FreezeFrame)
  recordStage : Bool
  mark : FlightMark
deriving DecidableEq, Repr, Inhabited

structure FltState where
  slots : Vector FaultSlot 40
  pool : Vector (Option FreezeFrame) 8
  queue : List (Fin 40)
  write : Option FaultWrite
  dropped : Nat
  persistent : Bool
  slotsTaken : Bool
  cycleAged : Option Nat
  agingLimit : Nat
  frameChannels : List Nat
deriving DecidableEq, Repr, Inhabited

/-! ## STO, the storage port and calibration loader (chapter 8) -/

/-- What a storage job does on the port (section 8.1). -/
inductive JobOp where
  | probe
  | read (address length : Nat)
  | write (address : Nat) (bytes : List Byte)
deriving DecidableEq, Repr, Inhabited

/-- How far a job is: waiting for the first status byte of an attempt, polling, past the ready check,
or ended by its polls with the outcome (R150, R151, R155). -/
inductive JobPhase where
  | started
  | polling (deadline : Nat)
  | transfer
  | ended (ok : Bool)
deriving DecidableEq, Repr, Inhabited

/-- A deferred FAULT_READ (R146): the tag of its request, the slot read and the code asked for. -/
structure HostRead where
  tag : Byte
  slot : Fin 40
  code : BitVec 16
deriving DecidableEq, Repr, Inhabited

/-- The job in flight (section 8.1). `page` is the image page an image store job writes, and
`hostRead` the request a host read serves. -/
structure Job where
  requester : Requester
  op : JobOp
  attempt : Nat
  polls : Nat
  phase : JobPhase
  hostRead : Option HostRead
  page : Nat
deriving DecidableEq, Repr, Inhabited

/-- The calibration loader (section 8.6). `index` is the number of the read within its state,
`abortTag` the CAL_ABORT it serves, `stop` that it is being stopped, `queued` its one queued job,
`crc` and `header` what a verify has read so far, and `slots` the fault slots read so far, `none`
for a slot of a failed read. -/
structure Loader where
  state : LoaderState
  index : Nat
  abortTag : Option Byte
  stop : Option LoaderStop
  queued : Option JobOp
  crc : BitVec 16
  header : List Byte
  slots : List (Option (List Byte))
deriving DecidableEq, Repr, Inhabited

/-- Calibration RAM and what STO keeps about it (section 8.1, R160, R168). -/
structure CalState where
  ram : List Host.Cell
  valid : Bool
  origin : Origin
  validation : Validation
  calId : Option Nat
deriving DecidableEq, Repr, Inhabited

structure StoState where
  storage : StorageState
  job : Option Job
  hostReads : List HostRead
  storePage : Option Nat
  storeQueued : Bool
  lastHigh : Option Requester
  lastLow : Option Requester
  highWhileLow : Nat
  loader : Loader
  absentCond : Bool
  writeFailedCond : Bool
  unstoredCond : Bool
  absentHeld : Bool
  writeFailedHeld : Bool
  unstoredHeld : Bool
deriving DecidableEq, Repr, Inhabited

/-! ## MOD, the mode and driver-supply controller (chapter 9) -/

structure ModState where
  mode : Mode
  previous : Option Mode
  cause : ModeCause
  resetCause : ResetCause
  ignPin : Bool
  ignition : Bool
  debounceTimer : Timer
  bulb : BulbTimer
  flush : Flush
  flushTimer : Timer
  returned : Bool
  resetPending : Bool
  supply : Supply
  undervolt : Bool
  overvolt : Bool
  overtemp : Bool
  uvTimer : Timer
  undervoltHeld : Bool
  overvoltHeld : Bool
  overtempHeld : Bool
deriving DecidableEq, Repr, Inhabited

/-! ## LNK, the host link controller (chapter 10) -/

/-- A request in the request list (R186). -/
structure Request where
  tag : Byte
  kind : Byte
  deferred : Bool
deriving DecidableEq, Repr, Inhabited

/-- An entry of the reply queue: a reply, or a rejection (R185). -/
structure Reply where
  kind : Byte
  tag : Byte
  payload : List Byte
  rejection : Bool
deriving DecidableEq, Repr, Inhabited

/-- An entry of the notice queue (R190). -/
structure Notice where
  kind : NoticeKind
  subject : Nat
  content : List Byte
  marker : Bool
deriving DecidableEq, Repr, Inhabited

/-- The frame in transmission (R189): its bytes, and the request it replies to, if any. -/
structure Transmission where
  bytes : List Byte
  answers : Option Byte
deriving DecidableEq, Repr, Inhabited

structure LnkState where
  assembly : Option (List Byte)
  gapTimer : Timer
  requests : List Request
  replies : List Reply
  notices : List Notice
  overflow : Bool
  tx : Option Transmission
  mask : BitVec 8
  timer : Timer
  lost : Bool
  held : Bool
  rxErrors : Nat
  rejectionDrops : Nat
deriving DecidableEq, Repr, Inhabited

/-! ## The whole part -/

/-- The ten blocks and the clock: microseconds since power-on, whose low 32 bits are the
microsecond counter of section 3.1. -/
structure Dev where
  clock : Nat
  seq : SeqState
  sig : SigState
  pls : PlsState
  gau : GauState
  wrn : WrnState
  dor : DorState
  flt : FltState
  sto : StoState
  cal : CalState
  mod : ModState
  lnk : LnkState
deriving DecidableEq, Repr, Inhabited

/-- The state of the machine: the part, and the commands that wait, first in, first out. -/
structure State where
  dev : Dev
  pending : List Instr
deriving DecidableEq, Repr

/-- The faults that stop the machine. The spec gives every command an effect on every state, so no
meaning raises one (INVENTORY.md, Faults). -/
inductive Fault where
  /-- Raised by no meaning; it is here because the host's interface asks for a type of faults. Safe:
  nothing stops. -/
  | unspecified
deriving DecidableEq, Repr

/-- The refusals. -/
inductive Refusal where
  /-- Raised by an arm of `exec` whose command has no meaning yet; no arm is such an arm. Safe: the
  machine stops where the part goes on. -/
  | notModelled (mnemonic : String)
deriving DecidableEq, Repr

/-! ## Reset values -/

/-- A scan class after a reset (R17). -/
def ClassState.resetValue : ClassState where
  timer := none
  request := false
  position := none
  late := false
  overruns := 0
  onTime := 0
  held := false
  set := []

/-- SEQ after a reset at the given time: RECOVERING with the 50 µs gap timer started (R17). -/
def SeqState.resetAt (clock : Nat) : SeqState where
  fast := ClassState.resetValue
  medium := ClassState.resetValue
  slow := ClassState.resetValue
  converter := .recovering (clock + 50)
  onDemand := []
  adcFault := false
  goodRefs := 0

/-- A channel record after a reset (R41, R53). -/
def ChanRec.resetValue (kind : ChanKind) : ChanRec where
  kind := kind
  value := 0
  instant := 0
  raw := 0
  corrected := 0
  acc := 0
  primed := false
  debounce := 0
  pendingFault := none
  heal := none
  age := 0
  adcFault := false
  supplyFault := false
  wiring := none
  stale := false
  notYet := true

/-- The kind a record has after a reset: ANALOG for 0-39, SUPPLY for 40-43 (R41), PULSE for 44 and
45 (R18). -/
def resetKind (channel : Nat) : ChanKind :=
  if channel < 40 then .analog else if channel < 44 then .supply else .pulse

def SigState.resetValue : SigState where
  table := ⟨((List.range 46).map fun i => ChanRec.resetValue (resetKind i)).toArray, by simp⟩
  refSsup := none
  supplyFault := false

def PulseState.resetValue : PulseState where
  lastEdge := none
  count := 0
  tLast := none
  tRef := none
  raw := 0
  timer := none

/-- PLS after a power-on reset (R53). -/
def PlsState.resetValue : PlsState where
  road := PulseState.resetValue
  engine := PulseState.resetValue
  standstill := true
  distance := 0
  frac := 0
  cycles := 0
  cycleOwed := false
  ringTaken := false
  lastSlot := 3
  lastSeq := 0
  odoJob := .none
  writeOwed := false

/-- A gauge record after a reset (R77). -/
def GaugeRec.resetValue : GaugeRec where
  state := .off
  position := 0
  target := 0
  phase := none
  sweepDone := none
  overrideAngle := none
  terminated := 0
  clean := none
  restarts := 0
  held := false
  sinDuty := 0
  cosDuty := 1000
  holdTimer := none
  restartTimer := none
  pwm := none
  sinEnded := false
  cosEnded := false

def GauState.resetValue : GauState where
  gauges := Vector.replicate 6 GaugeRec.resetValue
  timer := none

/-- The settings of a warning before the first start of WRN: disabled. Log 17. -/
def WarningCfg.resetValue : WarningCfg where
  enabled := false
  kind := .channel
  index := 0
  condition := .above
  threshold := 0
  hysteresis := 0
  gate := none
  gateMin := 0
  onDelay := 0
  offDelay := 0
  cls := .stop
  latched := false
  lamp := none
  flash := false
  chime := .none
  policy := .assert
  faultReport := false

/-- A warning record after a reset (R106). -/
def WarningRec.resetValue : WarningRec where
  state := .inactive
  condition := false
  remembered := none
  timer := none
  held := false

/-- A lamp record after a reset (R106). The sensed inputs have no stated reset value: no current, pin
high. Log 9. -/
def LampRec.resetValue : LampRec where
  hostBit := false
  demand := .off
  force := none
  output := false
  driver := .ok
  retries := 0
  heldOpen := false
  heldShort := false
  heldOver := false
  diagTimer := none
  retryTimer := none
  onSince := none
  currentOk := false
  pinHigh := true

def WrnState.resetValue : WrnState where
  cfg := Vector.replicate 64 WarningCfg.resetValue
  ackChannel := none
  warnings := Vector.replicate 64 WarningRec.resetValue
  lamps := Vector.replicate 24 LampRec.resetValue
  requests := []
  test := none
  player := .idle
  lastHigh := none
  lastLow := none
  flash := none
  linkLost := false

/-- The settings of a door before the first start of DOR: nothing named, nothing granted. Log 17. -/
def DoorCfg.resetValue : DoorCfg where
  closed := 0
  locked := none
  obstruction := none
  emergency := none
  request := none
  openButton := none
  closeButton := none
  releaseSpeed := 0
  holdTime := 0
  closeTimeout := 1000000

def DorCfg.resetValue : DorCfg where
  count := 0
  doors := Vector.replicate 4 DoorCfg.resetValue
  bypass := none
  kneel := none
  ramp := none
  brakeDelay := 0

/-- A door record after a reset (R128). -/
def DoorRec.resetValue : DoorRec where
  position := .unknown
  release := .held
  holdTimer := none
  closeTimer := none
  requestPending := false
  obstructions := 0
  held := false
  line := false

/-- The interlock record after a reset (R128). -/
def Interlock.resetValue : Interlock where
  doorCondition := false
  bypass := false
  bypassHeld := false
  drivePermit := false
  brakePermit := false
  brakeTimer := none

def DorState.resetValue : DorState where
  running := false
  cfg := DorCfg.resetValue
  doors := Vector.replicate 4 DoorRec.resetValue
  interlock := Interlock.resetValue
  roadQuality := .notYet
  roadInstant := 0

/-- FLT after a power-on reset (R148). The aging limit is the default section 7.1 gives; the frame
channels have no stated reset value. Log 16. -/
def FltState.resetValue : FltState where
  slots := Vector.replicate 40 ⟨none, false⟩
  pool := Vector.replicate 8 none
  queue := []
  write := none
  dropped := 0
  persistent := false
  slotsTaken := false
  cycleAged := none
  agingLimit := 40
  frameChannels := [0, 0, 0, 0]

def Loader.resetValue : Loader where
  state := .idle
  index := 0
  abortTag := none
  stop := none
  queued := none
  crc := 0
  header := []
  slots := []

def StoState.resetValue : StoState where
  storage := .unprobed
  job := none
  hostReads := []
  storePage := none
  storeQueued := false
  lastHigh := none
  lastLow := none
  highWhileLow := 0
  loader := Loader.resetValue
  absentCond := false
  writeFailedCond := false
  unstoredCond := false
  absentHeld := false
  writeFailedHeld := false
  unstoredHeld := false

/-- Calibration RAM after a reset (R168) that leaves the given bytes in it. -/
def CalState.resetWith (ram : List Host.Cell) : CalState where
  ram := ram
  valid := false
  origin := .loading
  validation := .none
  calId := none

/-- MOD after a power-on reset that finds the IGN pin at the given level, before it enters LOADING or
STANDBY (R170, R183). -/
def ModState.resetWith (pin : Bool) : ModState where
  mode := .standby
  previous := none
  cause := .powerOn
  resetCause := .powerOn
  ignPin := pin
  ignition := pin
  debounceTimer := none
  bulb := .stopped
  flush := .none
  flushTimer := none
  returned := false
  resetPending := false
  supply := .on
  undervolt := false
  overvolt := false
  overtemp := false
  uvTimer := none
  undervoltHeld := false
  overvoltHeld := false
  overtempHeld := false

def LnkState.resetValue : LnkState where
  assembly := none
  gapTimer := none
  requests := []
  replies := []
  notices := []
  overflow := false
  tx := none
  mask := 0#8
  timer := none
  lost := false
  held := false
  rxErrors := 0
  rejectionDrops := 0

/-- The part after a power-on reset with the IGN pin at the given level, in STANDBY; with the pin on,
the entry to LOADING follows (`powerOn` in Machine/Modes.lean). -/
def Dev.resetWith (pin : Bool) : Dev where
  clock := 0
  seq := SeqState.resetAt 0
  sig := SigState.resetValue
  pls := PlsState.resetValue
  gau := GauState.resetValue
  wrn := WrnState.resetValue
  dor := DorState.resetValue
  flt := FltState.resetValue
  sto := StoState.resetValue
  cal := CalState.resetWith []
  mod := ModState.resetWith pin
  lnk := LnkState.resetValue

/-- The machine right after a power-on reset with the IGN pin off: STANDBY, no command waiting.
The level of the pin is the model's choice, Log 8. -/
def State.reset : State where
  dev := Dev.resetWith false
  pending := []

end Sys2Proof.Machine
end

