-- ==== Sys2Proof/Machine/Arith.lean ====
section
/-! DEFINITION. The arithmetic the manual fixes: rounding (00_scope.md, "Rounding"), the curve (R32),
the first-order filter (R33), the bytes of multi-byte fields and the CRC-16 (R197). -/

namespace Sys2Proof.Machine

/-- The quotient `n / d` rounded to the nearest whole number, half away from zero, for `d > 0`. -/
def roundDiv (n d : Int) : Int :=
  if 0 ≤ n then (2 * n + d) / (2 * d) else -((2 * (-n) + d) / (2 * d))

/-- The quotient of naturals rounded to the nearest, half upward. -/
def roundDivNat (n d : Nat) : Nat := (2 * n + d) / (2 * d)

/-- The quotient of naturals rounded toward plus infinity. -/
def ceilDiv (n d : Nat) : Nat := (n + (d - 1)) / d

/-- `v` limited to `lo`-`hi`. -/
def clamp (lo hi v : Int) : Int := max lo (min hi v)

/-- `n + 1`, stopping at `cap`. -/
def bump (cap n : Nat) : Nat := min cap (n + 1)

/-- The curve from the point `p` on: at or below `p` its y, between two points the rounded
interpolation, beyond the last point its y (R32). -/
def curveFrom (p : Int × Int) : List (Int × Int) → Int → Int
  | [], _ => p.2
  | q :: rest, c =>
    if c ≤ p.1 then p.2
    else if c < q.1 then p.2 + roundDiv ((c - p.1) * (q.2 - p.2)) (q.1 - p.1)
    else curveFrom q rest c

/-- The value of a curve of points at `c` (R32). A calibrated curve has at least two points. -/
def curve (points : List (Int × Int)) (c : Int) : Int :=
  match points with
  | [] => 0
  | p :: rest => curveFrom p rest c

/-- One step of the first-order filter: the new accumulator (R33). -/
def filterAcc (primed : Bool) (k : Nat) (acc y : Int) : Int :=
  if primed then acc + (y * 256 - acc) / (2 ^ k : Nat) else y * 256

/-- The published value of an accumulator (R33). -/
def filterValue (acc : Int) : Int := (acc + 128) / 256

/-! ## Bytes -/

/-- The low byte of a number. -/
def byte (n : Nat) : Byte := BitVec.ofNat 8 n

/-- A two-byte field, high byte first. -/
def be16 (n : Nat) : List Byte := [byte (n / 256), byte n]

/-- A four-byte field, high byte first. -/
def be32 (n : Nat) : List Byte := be16 (n / 65536) ++ be16 n

/-- A signed value as the 16-bit two's complement it is sent in. -/
def twos16 (v : Int) : Nat := (v % 65536).toNat

/-- A signed two-byte field. -/
def beInt16 (v : Int) : List Byte := be16 (twos16 v)

/-- The signed value of a 16-bit field. -/
def signed16 (n : Nat) : Int := if n % 65536 < 32768 then (n % 65536 : Nat) else (n % 65536 : Nat) - 65536

/-- A flag byte as the part sends it. -/
def flagByte (b : Bool) : Byte := if b then 1#8 else 0#8

/-- The byte at an offset of an item, 0 beyond its end. -/
def byteAt (bs : List Byte) (i : Nat) : Nat := (bs.getD i 0#8).toNat

/-- The two-byte field at an offset. -/
def be16At (bs : List Byte) (i : Nat) : Nat := byteAt bs i * 256 + byteAt bs (i + 1)

/-- The four-byte field at an offset. -/
def be32At (bs : List Byte) (i : Nat) : Nat := be16At bs i * 65536 + be16At bs (i + 2)

/-- The first `n` bytes of an item, zero bytes standing for those it lacks. -/
def fitBytes (n : Nat) (bs : List Byte) : List Byte :=
  bs.take n ++ List.replicate (n - bs.length) 0#8

/-! ## CRC-16 (R197) -/

/-- One bit of the register, most significant bit first. -/
def crcBit (r : BitVec 16) : BitVec 16 :=
  if r.msb then (r <<< 1) ^^^ 0x1021#16 else r <<< 1

/-- One byte, its most significant bit first. -/
def crcByte (r : BitVec 16) (b : Byte) : BitVec 16 :=
  crcBit <| crcBit <| crcBit <| crcBit <| crcBit <| crcBit <| crcBit <| crcBit <|
    r ^^^ (b.setWidth 16 <<< 8)

/-- The register after more bytes. -/
def crcFrom (r : BitVec 16) (bs : List Byte) : BitVec 16 := bs.foldl crcByte r

/-- The CRC-16 of an item: the register starts at 0xFFFF. -/
def crc16 (bs : List Byte) : BitVec 16 := crcFrom 0xFFFF#16 bs

/-- The two bytes a CRC is written in. -/
def crcField (bs : List Byte) : List Byte := be16 (crc16 bs).toNat

end Sys2Proof.Machine
end

