-- ==== Sys2Proof/Machine/Ops.lean ====
section
/-! DEFINITION. The named operations everything else is written over: time and timers, the channel
table, calibration RAM as addressed memory, and the codes of the enumerations (section 11.5). -/

namespace Sys2Proof.Machine

/-! ## Time -/

/-- Milliseconds in microseconds. -/
def ms (n : Nat) : Nat := n * 1000

/-- A timer started now with a time in microseconds. -/
def Dev.timerIn (d : Dev) (us : Nat) : Timer := some (d.clock + us)

/-- The clock moved on to a time, if that time is still to come. Log 2. -/
def Dev.advanceTo (d : Dev) (t : Nat) : Dev := { d with clock := max d.clock t }

/-- What a timer's expiry does: nothing when it is stopped; otherwise the clock stands at the expiry
time and the effect follows (00_scope.md, "Events and time"). Log 2. -/
def onExpiry (t : Timer) (effect : Dev → Dev) (d : Dev) : Dev :=
  match t with
  | none => d
  | some at_ => effect (d.advanceTo at_)

/-- The 32-bit microsecond counter (section 3.1). -/
def Dev.counter (d : Dev) : BitVec 32 := BitVec.ofNat 32 d.clock

/-- The part one microsecond later, nothing else changed. -/
def Dev.tick (d : Dev) : Dev := { d with clock := d.clock + 1 }

/-- The clock moved on until the microsecond counter reads `stamp`. -/
def Dev.advanceCounter (d : Dev) (stamp : BitVec 32) : Dev :=
  { d with clock := d.clock + (stamp - d.counter).toNat }

/-- The time a timer still runs, in 100 ms, as the replies carry it; a part of 100 ms is rounded up
or down as `Config.remainingRoundsUp` has it. Log 12. -/
def Dev.remaining (d : Dev) (t : Timer) : Option Nat :=
  t.map fun deadline =>
    let us := deadline - d.clock
    if us % 100000 = 0 then us / 100000
    else if Config.remainingRoundsUp us then us / 100000 + 1 else us / 100000

/-! ## Running effects over an index range -/

/-- The effects for 0, 1, ... of a fixed number of items, in ascending index. -/
def forEach (n : Nat) (f : Fin n → Dev → Dev) (d : Dev) : Dev :=
  (List.finRange n).foldl (fun d i => f i d) d

/-- The effect for an index that may lie outside the range: none there. -/
def withIndex (n i : Nat) (f : Fin n → Dev → Dev) (d : Dev) : Dev :=
  if h : i < n then f ⟨i, h⟩ d else d

/-! ## The channel table -/

/-- The record of a channel; a number above 45 names none and reads as a record never sampled. -/
def Dev.chan (d : Dev) (c : Nat) : ChanRec :=
  if h : c < 46 then d.sig.table[c] else ChanRec.resetValue .analog

/-- Write the record of a channel. -/
def Dev.setChan (d : Dev) (c : Nat) (r : ChanRec) : Dev :=
  if h : c < 46 then { d with sig := { d.sig with table := d.sig.table.set c r } } else d

/-! ## Calibration RAM as memory -/

/-- The bytes of calibration RAM (section 8.5). -/
def imageSize : Nat := 5008

/-- What an offset that the list does not name reads as: 0. R168 gives no bytes after power-on.
Log 7. -/
def Memory.unlisted : Byte := 0#8

/-- The byte at an offset. -/
def Memory.read : List Host.Cell → Nat → Byte
  | [], _ => Memory.unlisted
  | (x, v) :: t, a => if x = a then v else if a < x then Memory.unlisted else Memory.read t a

/-- Write one byte, keeping offsets strictly rising and unlisted what reads as unlisted. -/
def Memory.write : List Host.Cell → Nat → Byte → List Host.Cell
  | [], a, b => if b = Memory.unlisted then [] else [(a, b)]
  | (x, v) :: t, a, b =>
    if a < x then (if b = Memory.unlisted then (x, v) :: t else (a, b) :: (x, v) :: t)
    else if x = a then (if b = Memory.unlisted then t else (a, b) :: t)
    else (x, v) :: Memory.write t a b

/-- Write bytes from an offset upward. -/
def Memory.writeAll (m : List Host.Cell) (a : Nat) : List Byte → List Host.Cell
  | [] => m
  | b :: bs => Memory.writeAll (Memory.write m a b) (a + 1) bs

/-- The cells from an offset on. -/
def Memory.from : List Host.Cell → Nat → List Host.Cell
  | [], _ => []
  | (x, v) :: t, a => if x < a then Memory.from t a else (x, v) :: t

/-- `n` bytes from an offset upward, of cells that hold none below it. -/
def Memory.take : List Host.Cell → Nat → Nat → List Byte
  | _, _, 0 => []
  | [], a, n + 1 => Memory.unlisted :: Memory.take [] (a + 1) n
  | (x, v) :: t, a, n + 1 =>
    if x = a then v :: Memory.take t (a + 1) n
    else Memory.unlisted :: Memory.take ((x, v) :: t) (a + 1) n

/-- `n` bytes from an offset upward. -/
def Memory.readAll (m : List Host.Cell) (a n : Nat) : List Byte := Memory.take (Memory.from m a) a n

/-- Whether offsets rise strictly from `lo` on, none is `imageSize` or above, and no cell holds what an
unlisted offset reads as. -/
def Memory.wfFrom : Nat → List Host.Cell → Bool
  | _, [] => true
  | lo, (x, v) :: t =>
    decide (lo ≤ x) && decide (x < imageSize) && (v != Memory.unlisted) && Memory.wfFrom (x + 1) t

/-- The canonical form of calibration RAM. -/
def Memory.wf (m : List Host.Cell) : Bool := Memory.wfFrom 0 m

/-- Write bytes into calibration RAM. Every caller keeps offset plus length within the image (R161,
R158); what would lie beyond its end is not written. -/
def Dev.writeRam (d : Dev) (a : Nat) (bs : List Byte) : Dev :=
  { d with cal := { d.cal with ram := Memory.writeAll d.cal.ram a (bs.take (imageSize - a)) } }

/-! ## Codes of the enumerations (section 11.5 and the orders of listing) -/

def Mode.code : Mode → Nat
  | .standby => 0 | .loading => 1 | .awaitingImage => 2 | .sweep => 3 | .run => 4 | .service => 5
  | .saving => 6

def ModeCause.code : ModeCause → Nat
  | .powerOn => 0 | .hostRequest => 1 | .ignitionOn => 2 | .ignitionOff => 3 | .imageLoaded => 4
  | .noImage => 5 | .sweepDone => 6 | .calBegin => 7 | .calCommit => 8 | .calAbort => 9
  | .flushDone => 10 | .flushLimit => 11 | .ignitionReturned => 12 | .serviceRequest => 13
  | .serviceExit => 14 | .standstillLost => 15 | .parkingBrake => 16

def ResetCause.code : ResetCause → Nat
  | .powerOn => 0 | .hostRequest => 1

def Quality.code : Quality → Nat
  | .good => 0 | .notYet => 1 | .wireLow => 2 | .wireHigh => 3 | .shortSupply => 4
  | .undefinedLevel => 5 | .supplyFault => 6 | .adcFault => 7 | .stale => 8

def ChanKind.code : ChanKind → Nat
  | .analog => 0 | .switch => 1 | .supply => 2 | .pulse => 3

def WarningState.code : WarningState → Nat
  | .inactive => 0 | .pendingOn => 1 | .activeNew => 2 | .activeAcked => 3 | .pendingOff => 4
  | .clearedUnacked => 5

/-- A remembered state is sent as the warning state it is. -/
def Remembered.code : Remembered → Nat
  | .activeNew => 2 | .activeAcked => 3

def WarningClass.code : WarningClass → Nat
  | .stop => 0 | .caution => 1 | .advisory => 2

def Chime.code : Chime → Nat
  | .none => 0 | .single => 1 | .triple => 2 | .continuous => 3

def DoorPosition.code : DoorPosition → Nat
  | .unknown => 0 | .emergency => 1 | .obstructed => 2 | .opened => 3 | .closed => 4
  | .closedLocked => 5

def ReleaseState.code : ReleaseState → Nat
  | .held => 0 | .pending => 1 | .released => 2 | .closing => 3 | .stuck => 4

def DoorCause.code : DoorCause → Nat
  | .releaseRequest => 0 | .closeRequest => 1 | .speedOk => 2 | .releaseExpired => 3
  | .releaseWithdrawn => 4 | .closeTimeout => 5 | .obstruction => 6 | .position => 7
  | .passengerRequest => 8 | .opened => 9

def GaugeState.code : GaugeState → Nat
  | .off => 0 | .sweep => 1 | .tracking => 2 | .invalid => 3 | .shutdown => 4 | .lockedOff => 5
  | .supplyOff => 6 | .override => 7

def LampDriver.code : LampDriver → Nat
  | .ok => 0 | .openLoad => 1 | .shortToGround => 2 | .overcurrentWait => 3 | .lockedOff => 4

def Demand.code : Demand → Nat
  | .off => 0 | .steady => 1 | .flashing => 2

def Severity.code : Severity → Nat
  | .minor => 0 | .major => 1 | .critical => 2

def FrameRef.code : FrameRef → Nat
  | .absent => 0 | .inPool _ => 1 | .stored => 2

def StorageState.code : StorageState → Nat
  | .unprobed => 0 | .present => 1 | .absent => 2

def LoaderState.code : LoaderState → Nat
  | .idle => 0 | .probing => 1 | .fetchingHeader => 2 | .fetchingBody => 3 | .readingRing => 4
  | .readingSlots => 5 | .verifying => 6

def Flush.code : Flush → Nat
  | .none => 0 | .saving => 1 | .reset => 2

def Supply.code : Supply → Nat
  | .on => 0 | .off => 1 | .waitingRestore => 2

def OdometerJob.code : OdometerJob → Nat
  | .none => 0 | .queued => 1 | .inFlight => 2

/-- The KIND bytes of the notices (R196). -/
def NoticeKind.code : NoticeKind → Nat
  | .channelQuality => 0x70 | .switchChange => 0x71 | .warningChange => 0x72 | .doorChange => 0x73
  | .interlockChange => 0x74 | .gaugeChange => 0x75 | .faultChange => 0x76 | .modeChange => 0x77
  | .systemChange => 0x78

/-- The subscription group of a notice (section 10.3). -/
def NoticeKind.group : NoticeKind → Nat
  | .channelQuality => 0 | .switchChange => 1 | .warningChange => 2 | .doorChange => 3
  | .interlockChange => 3 | .gaugeChange => 4 | .faultChange => 5 | .modeChange => 6
  | .systemChange => 7

/-- A fault code: its group in the high byte, its index in the low byte (00_scope.md). -/
def faultCode (group index : Nat) : BitVec 16 := BitVec.ofNat 16 (group * 256 + index)

end Sys2Proof.Machine
end

