-- ==== Sys2Proof/Machine/Flags.lean ====
section
/-! DEFINITION. What is computed from flags and states and held nowhere: the published quality, and
the words the manual defines over the states (driven, shown, unacknowledged, sounding). -/

namespace Sys2Proof.Machine

/-- The quality a wiring fault publishes. -/
def WiringFault.quality : WiringFault → Quality
  | .wireLow => .wireLow
  | .wireHigh => .wireHigh
  | .shortSupply => .shortSupply
  | .undefinedLevel => .undefinedLevel

/-- The fault group of a wiring fault (R29). -/
def WiringFault.group : WiringFault → Nat
  | .wireLow => 0x01
  | .wireHigh => 0x02
  | .shortSupply => 0x03
  | .undefinedLevel => 0x04

/-- The published quality: the first cause that holds (R20). -/
def ChanRec.quality (r : ChanRec) : Quality :=
  if r.adcFault then .adcFault
  else if r.supplyFault then .supplyFault
  else match r.wiring with
    | some f => f.quality
    | none => if r.stale then .stale else if r.notYet then .notYet else .good

/-- Whether the quality is GOOD. -/
def ChanRec.isGood (r : ChanRec) : Bool := r.quality == .good

/-- A channel is active when its quality is GOOD and its value is 1 (R109). -/
def ChanRec.isActive (r : ChanRec) : Bool := r.isGood && r.value == 1

/-- A channel is inactive when its quality is GOOD and its value is 0 (R109). -/
def ChanRec.isInactive (r : ChanRec) : Bool := r.isGood && r.value == 0

/-- A gauge is driven while it is in SWEEP, TRACKING, INVALID or OVERRIDE (section 4.1). -/
def GaugeState.driven : GaugeState → Bool
  | .sweep | .tracking | .invalid | .override => true
  | .off | .shutdown | .lockedOff | .supplyOff => false

/-- A warning is shown in these states (section 5.1). -/
def WarningState.shown : WarningState → Bool
  | .activeNew | .activeAcked | .pendingOff | .clearedUnacked => true
  | .inactive | .pendingOn => false

/-- A warning is unacknowledged in these states (section 5.1). -/
def WarningState.unacknowledged : WarningState → Bool
  | .activeNew | .clearedUnacked => true
  | .inactive | .pendingOn | .activeAcked | .pendingOff => false

/-- Whether a lamp's driver state lets its output be on (R90). -/
def LampDriver.lets : LampDriver → Bool
  | .ok | .openLoad | .shortToGround => true
  | .overcurrentWait | .lockedOff => false

/-- The door is shut by its switches (R122). -/
def DoorPosition.shut : DoorPosition → Bool
  | .closed | .closedLocked => true
  | .unknown | .emergency | .obstructed | .opened => false

/-- SEQ, SIG and DOR run in these modes (section 9.1). -/
def Mode.active : Mode → Bool
  | .sweep | .run | .service => true
  | .standby | .loading | .awaitingImage | .saving => false

/-- The modes of DRIVE_PERMIT, BRAKE_RELEASE_PERMIT and the chime (R103, R123, R124). -/
def Mode.drives : Mode → Bool
  | .run | .service => true
  | .standby | .loading | .awaitingImage | .sweep | .saving => false

/-- PLS takes edges in these modes (R42). -/
def Mode.takesEdges : Mode → Bool
  | .sweep | .run | .service | .saving => true
  | .standby | .loading | .awaitingImage => false

/-- The receiver is on in every mode but STANDBY (R184). -/
def Mode.receives : Mode → Bool
  | .standby => false
  | .loading | .awaitingImage | .sweep | .run | .service | .saving => true

/-- The driver rail switch: closed in ON, and open in STANDBY, LOADING and AWAITING_IMAGE whatever the
state (R181). -/
def driverRail (d : Dev) : Bool :=
  d.mod.supply == .on && d.mod.mode.takesEdges

/-- WRN runs exactly while its flash phase runs (R78, R90). -/
def wrnRunning (d : Dev) : Bool := d.wrn.flash.isSome

/-- The chime is enabled in RUN and SERVICE with the driver supply on (R103). -/
def chimeEnabled (d : Dev) : Bool := d.mod.mode.drives && d.mod.supply == .on

/-- The segments of a pattern: sounding or not, and how long (R100). -/
def Chime.segments : Chime → List (Bool × Nat)
  | .none => []
  | .single => [(true, ms 300)]
  | .triple => [(true, ms 200), (false, ms 200), (true, ms 200), (false, ms 200), (true, ms 200)]
  | .continuous => [(true, ms 500), (false, ms 500)]

/-- Whether the segment a play is in sounds. -/
def Play.beeping (p : Play) : Bool := (p.pattern.segments.getD p.segment (false, 0)).1

/-- The chime output: sounding with the tone 2.0 kHz (`true`) or 1.2 kHz, or off. -/
def chimeSounding (d : Dev) : Option Bool :=
  match d.wrn.player with
  | .playing p => if p.beeping then some p.highTone else none
  | .idle | .silence _ => none

/-- The bias connected to a sense pin: that of the conversion in progress on it, and none else (R1). -/
def biasAt (d : Dev) (pin : Nat) : Bias :=
  match d.seq.converter with
  | .settling c _ | .converting c _ => if c.channel = pin then c.bias else .none
  | .idle | .recovering _ => .none

end Sys2Proof.Machine
end

