-- ==== Sys2Proof/Machine/Operands.lean ====
section
/-! DEFINITION. How the operands of a command are read: the converter's code of a sampled quantity and
the over-voltage flag (R1-R3), and the fields of a request's payload (section 11.3). -/

namespace Sys2Proof.Machine

/-! ## The sense front end -/

/-- The converter saturates at 0 and 4095 and does not wrap (R1). -/
def saturate (code : Int) : Nat := (clamp 0 4095 code).toNat

/-- The code of a voltage in microvolts: 1.25 mV per code in the LOW range, 10 mV per code in the HIGH
range, rounded down (R1). -/
def pinCode (range : Range) (microvolts : Int) : Nat :=
  match range with
  | .low => saturate (microvolts / 1250)
  | .high => saturate (microvolts / 10000)

/-- The over-voltage comparator: 5.20 V in the LOW range, 41.0 V in the HIGH range, against the highest
voltage since selection (R2). The voltage sampled is one of those. -/
def overVoltage (range : Range) (sample peak : Int) : Bool :=
  match range with
  | .low => decide (5200000 < max sample peak)
  | .high => decide (41000000 < max sample peak)

/-- The code of an internal channel: BATT at 10 mV per code, DIET at 1000 plus four times the degrees
rounded to the nearest code, SSUP and REFCHK at 1.25 mV per code (R3). A voltage between two codes gives the lower
one, as R1 has it for a pin. Log 33. -/
def internalCode (channel : Nat) (sample : Int) : Nat :=
  if channel = 40 then saturate (sample / 10000)
  else if channel = 42 then saturate (roundDiv (1000000 + 4 * sample) 1000)
  else saturate (sample / 1250)

/-- The result of a conversion: its raw code and over-voltage flag. Internal channels always carry the
flag clear (R2). -/
def conversionResult (c : Conversion) (sample peak : Int) : Nat × Bool :=
  if c.channel < 40 then (pinCode c.range sample, overVoltage c.range sample peak)
  else (internalCode c.channel sample, false)

/-! ## Payload fields -/

/-- The one-byte field at an offset of a payload. -/
def field8 (payload : List Byte) (i : Nat) : Nat := byteAt payload i

/-- The two-byte field at an offset of a payload. -/
def field16 (payload : List Byte) (i : Nat) : Nat := be16At payload i

/-- A one-byte index as it is sent, 0xFF where there is none (R198). -/
def index8 (o : Option Nat) : Byte :=
  match o with
  | some n => byte n
  | none => 0xFF#8

/-- A two-byte field as it is sent, 0xFFFF where there is none (R198). -/
def field16Opt (o : Option Nat) : List Byte :=
  match o with
  | some n => be16 n
  | none => be16 0xFFFF

/-! ## Reply statuses (R198) -/

inductive Status where
  | ok | busy | tagInUse | unknownKind | badLength | badArgument | refusedMode | refusedCondition
  | storageFailed | imageRejected
deriving DecidableEq, Repr, Inhabited

def Status.code : Status → Byte
  | .ok => 0x00#8 | .busy => 0x01#8 | .tagInUse => 0x02#8 | .unknownKind => 0x03#8
  | .badLength => 0x04#8 | .badArgument => 0x05#8 | .refusedMode => 0x06#8
  | .refusedCondition => 0x07#8 | .storageFailed => 0x08#8 | .imageRejected => 0x09#8

/-- A reply with status OK and the fields of its kind. -/
def okReply (fields : List Byte) : List Byte := Status.ok.code :: fields

/-- A reply that is its status byte alone. -/
def statusReply (s : Status) : List Byte := [s.code]

/-- A reply IMAGE_REJECTED with the section and entry of the failing validation. -/
def rejectedReply (sec entry : Nat) : List Byte := [Status.imageRejected.code, byte sec, byte entry]

end Sys2Proof.Machine
end

