-- ==== Sys2Proof/Machine/Calibration.lean ====
section
/-! DEFINITION. The settings in calibration RAM (section 11.9) as the blocks read them, and the
validation of an image (R157). -/

namespace Sys2Proof.Machine

/-! ## Reading fields -/

def Dev.ram8 (d : Dev) (a : Nat) : Nat := (Memory.read d.cal.ram a).toNat
def Dev.ram16 (d : Dev) (a : Nat) : Nat := d.ram8 a * 256 + d.ram8 (a + 1)
def Dev.ramInt16 (d : Dev) (a : Nat) : Int := signed16 (d.ram16 a)

/-- A flag byte: 0 clear, 1 set; any other byte is left open. Log 13. -/
def flagOf (n : Nat) : Bool :=
  if n = 0 then false else if n = 1 then true else Config.flagByte (byte n)

def Dev.ramFlag (d : Dev) (a : Nat) : Bool := flagOf (d.ram8 a)

/-- A channel reference, 0xFF standing for absent (section 11.9). -/
def Dev.ramChannel (d : Dev) (a : Nat) : Option Nat :=
  if d.ram8 a = 0xFF then none else some (d.ram8 a)

/-- The points of a curve of `n` points from an offset on: two-byte x and signed two-byte y. -/
def Dev.ramPoints (d : Dev) (signedX : Bool) (signedY : Bool) (a : Nat) : Nat → List (Int × Int)
  | 0 => []
  | n + 1 =>
    ((if signedX then d.ramInt16 a else (d.ram16 a : Int)),
      (if signedY then d.ramInt16 (a + 2) else (d.ram16 (a + 2) : Int))) ::
      d.ramPoints signedX signedY (a + 4) n

/-! ## SYSTEM (offset 16) -/

def Dev.doorCount (d : Dev) : Nat := d.ram8 16
def Dev.bypassChannel (d : Dev) : Option Nat := d.ramChannel 17
def Dev.kneelChannel (d : Dev) : Option Nat := d.ramChannel 18
def Dev.rampChannel (d : Dev) : Option Nat := d.ramChannel 19
def Dev.parkingChannel (d : Dev) : Option Nat := d.ramChannel 20
def Dev.ackChannel (d : Dev) : Option Nat := d.ramChannel 21
/-- The brake release delay in microseconds; the byte is in 100 ms. -/
def Dev.brakeDelay (d : Dev) : Nat := ms (100 * d.ram8 22)
/-- The bulb-check time in microseconds. -/
def Dev.bulbTime (d : Dev) : Nat := ms (d.ram16 23)
/-- The link timeout in microseconds. -/
def Dev.linkTimeout (d : Dev) : Nat := ms (d.ram16 25)
def Dev.agingSetting (d : Dev) : Nat := d.ram8 27
def Dev.frameChannelSettings (d : Dev) : List Nat := [d.ram8 28, d.ram8 29, d.ram8 30, d.ram8 31]
def Dev.autoRestore (d : Dev) : Bool := d.ramFlag 32

/-! ## CHANNELS (offset 80, 64 bytes an entry) -/

def chanBase (c : Nat) : Nat := 80 + 64 * c

/-- The settings SIG takes of a sense pin (section 2.1). -/
structure PinCfg where
  switch : Bool
  ratiometric : Bool
  invert : Bool
  t1 : Nat
  t2 : Nat
  t3 : Nat
  t4 : Nat
  setCount : Nat
  healLimit : Nat
  substitute : Bool
  default : Int
  points : List (Int × Int)
  k : Nat
  debounce : Nat
deriving DecidableEq, Repr, Inhabited

/-- Entry `c` of the channel section, 0-39. A SWITCH channel's default is the low byte of its field. -/
def Dev.pinCfg (d : Dev) (c : Nat) : PinCfg :=
  let b := chanBase c
  let sw := d.ram8 b == 1
  { switch := sw
    ratiometric := d.ramFlag (b + 6)
    invert := d.ramFlag (b + 7)
    t1 := d.ram16 (b + 8)
    t2 := d.ram16 (b + 10)
    t3 := d.ram16 (b + 12)
    t4 := d.ram16 (b + 14)
    setCount := d.ram8 (b + 16)
    healLimit := d.ram8 (b + 17)
    substitute := d.ram8 (b + 18) == 1
    default := if sw then (d.ram8 (b + 20) : Int) else d.ramInt16 (b + 19)
    points := d.ramPoints false true (b + 24) (min 8 (d.ram8 (b + 23)))
    k := d.ram8 (b + 21)
    debounce := d.ram8 (b + 22) }

def biasOf (n : Nat) : Bias := if n = 1 then .pullUp else if n = 2 then .pullDown else .none
def rangeOf (n : Nat) : Range := if n = 1 then .high else .low

/-- The bias of a channel: calibrated for a pin, none for an internal channel (R3). -/
def Dev.chanBias (d : Dev) (c : Nat) : Bias := if c < 40 then biasOf (d.ram8 (chanBase c + 1)) else .none
/-- The range of a pin; the scale of an internal channel is fixed (R3) and needs none. -/
def Dev.chanRange (d : Dev) (c : Nat) : Range := if c < 40 then rangeOf (d.ram8 (chanBase c + 2)) else .low
/-- The settle time in microseconds: calibrated for a pin, 20 for an internal channel (R3). -/
def Dev.settleTime (d : Dev) (c : Nat) : Nat := if c < 40 then d.ram16 (chanBase c + 4) else 20

/-- The scan class of a channel, none for OFF: BATT and SSUP are FAST, DIET and REFCHK SLOW, whatever
the calibration says (R3). -/
def Dev.scanClass (d : Dev) (c : Nat) : Option ScanClass :=
  if c = 40 ∨ c = 41 then some .fast
  else if c = 42 ∨ c = 43 then some .slow
  else if c < 40 then
    match d.ram8 (chanBase c + 3) with
    | 0 => some .fast
    | 1 => some .medium
    | 2 => some .slow
    | _ => none
  else none

/-- The scan set of a class: its channels in ascending number (R4). -/
def Dev.scanSet (d : Dev) (cls : ScanClass) : List Nat :=
  (List.range 44).filter fun c => d.scanClass c == some cls

/-- The settings of a pulse input (section 3.1): minPeriod in microseconds, standstillTime in
microseconds, the filter constant, and ppk or ppr. -/
structure PulseCfg where
  minPeriod : Nat
  standstill : Nat
  k : Nat
  perUnit : Nat
deriving DecidableEq, Repr, Inhabited

def pulseChannel : PulseInput → Nat
  | .road => 44
  | .engine => 45

def Dev.pulseCfg (d : Dev) (i : PulseInput) : PulseCfg :=
  let b := chanBase (pulseChannel i)
  { minPeriod := d.ram16 b, standstill := ms (d.ram16 (b + 2)), k := d.ram8 (b + 4),
    perUnit := d.ram16 (b + 5) }

/-! ## GAUGES (offset 3,024, 48 bytes an entry) -/

/-- The settings of a gauge (section 4.1); `holdPolicy` is the invalid policy HOLD. -/
structure GaugeCfg where
  enabled : Bool
  source : Nat
  points : List (Int × Int)
  full : Int
  rest : Int
  slew : Int
  deadBand : Int
  holdPolicy : Bool
  autoRestart : Bool
deriving DecidableEq, Repr, Inhabited

def Dev.gaugeCfg (d : Dev) (g : Fin 6) : GaugeCfg :=
  let b := 3024 + 48 * g.val
  { enabled := d.ramFlag b
    source := d.ram8 (b + 1)
    points := d.ramPoints true false (b + 3) (min 6 (d.ram8 (b + 2)))
    full := d.ram16 (b + 27)
    rest := d.ram16 (b + 29)
    slew := d.ram16 (b + 31)
    deadBand := d.ram8 (b + 33)
    holdPolicy := d.ram8 (b + 34) == 1
    autoRestart := d.ramFlag (b + 35) }

/-! ## WARNINGS (offset 3,312, 24 bytes an entry) -/

def sourceKindOf (n : Nat) : SourceKind :=
  match n with
  | 0 => .channel | 1 => .door | 2 => .interlock | 3 => .gauge | 4 => .lamp | _ => .system

def conditionOf (n : Nat) : Condition :=
  match n with
  | 0 => .above | 1 => .below | 2 => .active | 3 => .inactive | 4 => .qualityBad
  | 5 => .doorNotClosed | 6 => .doorOpenMoving | 7 => .doorStuck | 8 => .doorEmergency
  | 9 => .doorRequest | 10 => .interlockBypass | 11 => .gaugeFault | 12 => .lampFault
  | 13 => .linkLost | 14 => .driverShutdown | 15 => .storageFault | 16 => .adcFault
  | _ => .calFromHost

def classOf (n : Nat) : WarningClass :=
  match n with
  | 0 => .stop | 1 => .caution | _ => .advisory

def chimeOf (n : Nat) : Chime :=
  match n with
  | 1 => .single | 2 => .triple | 3 => .continuous | _ => .none

def policyOf (n : Nat) : InvalidPolicy :=
  match n with
  | 0 => .assert | 1 => .clear | _ => .hold

/-- Entry `w` of the warning section. -/
def Dev.warningCfg (d : Dev) (w : Nat) : WarningCfg :=
  let b := 3312 + 24 * w
  if d.ramFlag b then
    { enabled := true
      kind := sourceKindOf (d.ram8 (b + 1))
      index := d.ram8 (b + 2)
      condition := conditionOf (d.ram8 (b + 3))
      threshold := d.ramInt16 (b + 4)
      hysteresis := d.ram16 (b + 6)
      gate := d.ramChannel (b + 8)
      gateMin := d.ramInt16 (b + 9)
      onDelay := ms (100 * d.ram8 (b + 11))
      offDelay := ms (100 * d.ram8 (b + 12))
      cls := classOf (d.ram8 (b + 13))
      latched := d.ramFlag (b + 14)
      lamp := if d.ram8 (b + 15) = 0xFF then none else some (d.ram8 (b + 15))
      flash := d.ramFlag (b + 16)
      chime := chimeOf (d.ram8 (b + 17))
      policy := policyOf (d.ram8 (b + 18))
      faultReport := d.ramFlag (b + 19) }
  else WarningCfg.resetValue

/-! ## DOORS (offset 4,848, 24 bytes an entry) -/

/-- Entry `i` of the door section; times in microseconds. -/
def Dev.doorCfg (d : Dev) (i : Nat) : DoorCfg :=
  let b := 4848 + 24 * i
  { closed := d.ram8 b
    locked := d.ramChannel (b + 1)
    obstruction := d.ramChannel (b + 2)
    emergency := d.ramChannel (b + 3)
    request := d.ramChannel (b + 4)
    openButton := d.ramChannel (b + 5)
    closeButton := d.ramChannel (b + 6)
    releaseSpeed := d.ram8 (b + 7)
    holdTime := ms (100 * d.ram8 (b + 8))
    closeTimeout := ms (1000 * d.ram8 (b + 9)) }

/-- The settings DOR takes at a start (R108). -/
def Dev.dorCfg (d : Dev) : DorCfg where
  count := d.doorCount
  doors := #v[d.doorCfg 0, d.doorCfg 1, d.doorCfg 2, d.doorCfg 3]
  bypass := d.bypassChannel
  kneel := d.kneelChannel
  ramp := d.rampChannel
  brakeDelay := d.brakeDelay

/-! ## FAULT_GROUPS (offset 4,944, 2 bytes an entry) -/

def severityOf3 (n : Nat) : Severity :=
  match n with
  | 0 => .minor | 1 => .major | _ => .critical

/-- A severity byte (section 11.5); a byte that codes none is left open. Log 42. -/
def severityOf (n : Nat) : Severity :=
  if n ≤ 2 then severityOf3 n else severityOf3 (Config.severityByte (byte n) % 3)

/-- The entry of a fault group, for the groups that have one (section 7.1). -/
def groupEntry (group : Nat) : Option Nat :=
  match group with
  | 0x01 => some 0 | 0x02 => some 1 | 0x03 => some 2 | 0x04 => some 3 | 0x10 => some 4
  | 0x20 => some 5 | 0x21 => some 6 | 0x22 => some 7 | 0x30 => some 8 | 0x31 => some 9
  | 0x40 => some 10 | 0x41 => some 11 | 0x42 => some 12 | 0x43 => some 13 | 0x44 => some 14
  | 0x50 => some 15 | 0x51 => some 16 | 0x52 => some 17 | 0x60 => some 18 | 0x61 => some 19
  | 0x70 => some 20 | _ => none

/-- The mask and severity of an entry: from the active image, and no group masked and every group MAJOR
while there is no valid image (R130). -/
def Dev.groupSetting (d : Dev) (entry : Nat) : Bool × Severity :=
  if d.cal.valid then (d.ramFlag (4944 + 2 * entry), severityOf (d.ram8 (4945 + 2 * entry)))
  else (false, .major)

/-! ## Validation (R157) -/

/-- Whether a header of 16 bytes has the magic, the format version and the body length. -/
def headerHolds (h : List Byte) : Bool :=
  byteAt h 0 == 0x4D && byteAt h 1 == 0x4E && byteAt h 2 == 0x43 && byteAt h 3 == 0x42 &&
    be16At h 4 == 1 && be16At h 6 == 4992

/-- Whether the two final bytes of a header are zero. -/
def headerZeros (h : List Byte) : Bool := byteAt h 14 == 0 && byteAt h 15 == 0

/-- The CRC field of a header. -/
def headerCrc (h : List Byte) : Nat := be16At h 12

/-- The header in calibration RAM. -/
def Dev.header (d : Dev) : List Byte := Memory.readAll d.cal.ram 0 16

/-- Whether the CRC-16 of the body in RAM equals the header's field (R157, R158). -/
def Dev.bodyCrcOk (d : Dev) : Bool :=
  (crc16 (Memory.readAll d.cal.ram 16 4992)).toNat == headerCrc d.header

def Dev.headerOk (d : Dev) : Bool := headerHolds d.header && headerZeros d.header && d.bodyCrcOk

/-- A channel that is one of 0-39 with kind SWITCH in the same image. -/
def Dev.isSwitchChannel (d : Dev) (c : Nat) : Bool := decide (c < 40) && d.ram8 (chanBase c) == 1

/-- A reference that is absent or a SWITCH channel. -/
def Dev.switchOrAbsent (d : Dev) (a : Nat) : Bool :=
  d.ram8 a == 0xFF || d.isSwitchChannel (d.ram8 a)

def within (lo hi n : Nat) : Bool := decide (lo ≤ n) && decide (n ≤ hi)

def Dev.systemOk (d : Dev) : Bool :=
  within 1 4 (d.ram8 16) && d.switchOrAbsent 17 && d.switchOrAbsent 18 && d.switchOrAbsent 19 &&
    d.switchOrAbsent 20 && d.switchOrAbsent 21 && within 0 20 (d.ram8 22) &&
    within 1000 5000 (d.ram16 23) && within 200 2000 (d.ram16 25) && within 1 255 (d.ram8 27) &&
    within 0 45 (d.ram8 28) && within 0 45 (d.ram8 29) && within 0 45 (d.ram8 30) &&
    within 0 45 (d.ram8 31)

/-- Whether the x of the points rise strictly. -/
def rising : List (Int × Int) → Bool
  | [] => true
  | [_] => true
  | p :: q :: rest => decide (p.1 < q.1) && rising (q :: rest)

/-- Whether `v` lies within the least and greatest y of the points. -/
def withinSpan (points : List (Int × Int)) (v : Int) : Bool :=
  points.any (fun p => decide (p.2 ≤ v)) && points.any (fun p => decide (v ≤ p.2))

def Dev.pinOk (d : Dev) (c : Nat) : Bool :=
  let b := chanBase c
  let cfg := d.pinCfg c
  within 0 1 (d.ram8 b) && within 0 2 (d.ram8 (b + 1)) && within 0 1 (d.ram8 (b + 2)) &&
    within 0 3 (d.ram8 (b + 3)) && within 20 640 (d.ram16 (b + 4)) && d.ram16 (b + 4) % 20 == 0 &&
    decide (cfg.t1 ≤ cfg.t2) && decide (cfg.t2 ≤ cfg.t3) && decide (cfg.t3 ≤ cfg.t4) &&
    decide (cfg.t4 ≤ 4096) && within 1 255 cfg.setCount && within 1 255 cfg.healLimit &&
    within 0 1 (d.ram8 (b + 18)) &&
    if cfg.switch then within 1 15 cfg.debounce && within 0 1 (d.ram8 (b + 20))
    else
      within 2 8 (d.ram8 (b + 23)) && rising cfg.points &&
        cfg.points.all (fun p => decide (p.1 ≤ 4095)) && within 0 7 cfg.k &&
        withinSpan cfg.points cfg.default

def Dev.pulseOk (d : Dev) (i : PulseInput) : Bool :=
  let b := chanBase (pulseChannel i)
  within 50 5000 (d.ram16 b) && within 200 3000 (d.ram16 (b + 2)) && within 0 7 (d.ram8 (b + 4)) &&
    match i with
    | .road => within 1000 65000 (d.ram16 (b + 5))
    | .engine => within 1 255 (d.ram16 (b + 5))

def Dev.gaugeOk (d : Dev) (g : Fin 6) : Bool :=
  let b := 3024 + 48 * g.val
  let cfg := d.gaugeCfg g
  !cfg.enabled ||
    (within 0 45 cfg.source && within 2 6 (d.ram8 (b + 2)) && rising cfg.points &&
      cfg.points.all (fun p => decide (0 ≤ p.2) && decide (p.2 ≤ 2700)) &&
      within 1 2700 (d.ram16 (b + 27)) && decide (cfg.rest ≤ cfg.full) &&
      within 1 450 (d.ram16 (b + 31)) && within 0 50 (d.ram8 (b + 33)) &&
      within 0 1 (d.ram8 (b + 34)))

/-- The source index range of the kinds that have one. -/
def sourceIndexOk (kind index : Nat) : Bool :=
  match kind with
  | 0 => within 0 45 index
  | 1 => within 0 3 index
  | 3 => within 0 5 index
  | 4 => within 0 23 index
  | _ => true

def Dev.warningOk (d : Dev) (w : Nat) : Bool :=
  let b := 3312 + 24 * w
  !d.ramFlag b ||
    (within 0 5 (d.ram8 (b + 1)) && sourceIndexOk (d.ram8 (b + 1)) (d.ram8 (b + 2)) &&
      within 0 17 (d.ram8 (b + 3)) && (d.ram8 (b + 8) == 0xFF || within 0 45 (d.ram8 (b + 8))) &&
      within 0 32767 (d.ram16 (b + 6)) && within 0 2 (d.ram8 (b + 13)) &&
      within 0 3 (d.ram8 (b + 17)) && within 0 2 (d.ram8 (b + 18)) &&
      (d.ram8 (b + 15) == 0xFF || within 0 23 (d.ram8 (b + 15))))

def Dev.doorOk (d : Dev) (i : Nat) : Bool :=
  let b := 4848 + 24 * i
  !decide (i < d.doorCount) ||
    (d.isSwitchChannel (d.ram8 b) && d.switchOrAbsent (b + 1) && d.switchOrAbsent (b + 2) &&
      d.switchOrAbsent (b + 3) && d.switchOrAbsent (b + 4) && d.switchOrAbsent (b + 5) &&
      d.switchOrAbsent (b + 6) && within 0 100 (d.ram8 (b + 7)) && within 0 100 (d.ram8 (b + 8)) &&
      within 1 60 (d.ram8 (b + 9)))

def Dev.groupOk (d : Dev) (entry : Nat) : Bool :=
  !decide (entry ≤ 20) || within 0 2 (d.ram8 (4945 + 2 * entry))

/-- Whether an entry of a section passes its checks (the table of section 8.5). Entries that are not
checked pass. -/
def Dev.entryOk (d : Dev) (sec entry : Nat) : Bool :=
  match sec with
  | 0 => d.headerOk
  | 1 => d.systemOk
  | 2 =>
    if entry < 40 then d.pinOk entry
    else if entry = 44 then d.pulseOk .road
    else if entry = 45 then d.pulseOk .engine
    else true
  | 3 => if h : entry < 6 then d.gaugeOk ⟨entry, h⟩ else true
  | 4 => d.warningOk entry
  | 5 => d.doorOk entry
  | 6 => d.groupOk entry
  | _ => true

/-- The sections with their numbers of entries, in ascending number (section 8.5). -/
def sections : List (Nat × Nat) := [(0, 1), (1, 1), (2, 46), (3, 6), (4, 64), (5, 4), (6, 32)]

/-- Validation: the header first, then each section and each entry in ascending order, ending at the
first that fails. -/
def Dev.validate (d : Dev) : Validation :=
  match (sections.flatMap fun s => (List.range s.2).map fun e => (s.1, e)).find?
      (fun e => !d.entryOk e.1 e.2) with
  | some e => .failure e.1 e.2
  | none => .pass

/-- The calibration id in the header in RAM. -/
def Dev.headerId (d : Dev) : Nat := be32At d.header 8

/-- The calibration id of the active image, none while RAM is not valid. Log 23. -/
def Dev.activeId (d : Dev) : Option Nat := if d.cal.valid then d.cal.calId else none

end Sys2Proof.Machine
end

