-- ==== Sys2Proof/Machine/Link.lean ====
section
/-! DEFINITION. What the link does for the other blocks (chapter 10): posting notices, giving replies,
rejections, and starting the transmitter. -/

namespace Sys2Proof.Machine

/-! ## Notices (R190) -/

/-- Whether the notice's group is subscribed. -/
def subscribed (d : Dev) (kind : NoticeKind) : Bool := d.lnk.mask.getLsbD kind.group

/-- The same kind and subject. -/
def Notice.sameAs (n : Notice) (kind : NoticeKind) (subject : Nat) : Bool :=
  n.kind == kind && n.subject == subject

/-- The queue with the entry of this kind and subject given new content; it takes the marker when the
overflow flag is set, and keeps one it has. -/
def replaceNotice (kind : NoticeKind) (subject : Nat) (content : List Byte) (overflow : Bool)
    (queue : List Notice) : List Notice :=
  queue.map fun n =>
    if n.sameAs kind subject then { n with content := content, marker := n.marker || overflow } else n

/-- Posting a notice (R190): discarded, coalesced, queued, or dropped with the overflow flag set. -/
def lnkPost (kind : NoticeKind) (subject : Nat) (content : List Byte) (d : Dev) : Dev :=
  if !subscribed d kind then d
  else if d.lnk.notices.any (·.sameAs kind subject) then
    { d with lnk := { d.lnk with
        notices := replaceNotice kind subject content d.lnk.overflow d.lnk.notices
        overflow := false } }
  else if d.lnk.notices.length < 32 then
    { d with lnk := { d.lnk with
        notices := d.lnk.notices ++ [⟨kind, subject, content, d.lnk.overflow⟩]
        overflow := false } }
  else { d with lnk := { d.lnk with overflow := true } }

/-- The content of a SYSTEM_CHANGE notice: the system state as it stands (section 10.3). -/
def systemContent (d : Dev) : List Byte :=
  [flagByte d.seq.adcFault, flagByte d.sig.supplyFault, flagByte d.pls.standstill,
    flagByte d.mod.ignition, byte d.mod.supply.code, flagByte d.mod.undervolt,
    flagByte d.mod.overvolt, flagByte d.mod.overtemp, flagByte d.sto.absentCond,
    flagByte d.sto.writeFailedCond, flagByte d.sto.unstoredCond, flagByte d.lnk.lost]

/-- Posting a SYSTEM_CHANGE. -/
def postSystem (d : Dev) : Dev := lnkPost .systemChange 0 (systemContent d) d

/-! ## Replies (R186, R188) and rejections (R185) -/

/-- The KIND of a reply: the request's with 0x80 added. Log 14. -/
def replyKind (kind : Byte) : Byte :=
  if kind.toNat < 0x80 then kind + 0x80#8 else Config.highReplyKind kind

/-- The request in the list that carries a tag. -/
def findRequest (d : Dev) (tag : Byte) : Option Request := d.lnk.requests.find? (·.tag == tag)

/-- Answering an outstanding request: the reply joins the tail of the reply queue and the deferred flag
clears (R186, R188). A tag that no request carries answers nothing (R166). -/
def lnkAnswer (tag : Byte) (payload : List Byte) (d : Dev) : Dev :=
  match findRequest d tag with
  | none => d
  | some r =>
    { d with lnk := { d.lnk with
        requests := d.lnk.requests.map fun q => if q.tag == tag then { q with deferred := false } else q
        replies := d.lnk.replies ++ [⟨replyKind r.kind, tag, payload, false⟩] } }

/-- Setting the deferred flag of a request (R188). -/
def lnkDefer (tag : Byte) (d : Dev) : Dev :=
  { d with lnk := { d.lnk with
      requests := d.lnk.requests.map fun q => if q.tag == tag then { q with deferred := true } else q } }

/-- A taken request enters the list (R186). -/
def lnkTake (kind tag : Byte) (d : Dev) : Dev :=
  { d with lnk := { d.lnk with requests := d.lnk.requests ++ [⟨tag, kind, false⟩] } }

/-- A rejection joins the reply queue while it holds fewer than 4, and is dropped and counted otherwise
(R185). -/
def lnkReject (kind tag : Byte) (s : Status) (d : Dev) : Dev :=
  if (d.lnk.replies.filter (·.rejection)).length < 4 then
    { d with lnk := { d.lnk with
        replies := d.lnk.replies ++ [⟨replyKind kind, tag, statusReply s, true⟩] } }
  else { d with lnk := { d.lnk with rejectionDrops := bump 65535 d.lnk.rejectionDrops } }

/-! ## The transmitter (R189) -/

/-- The bytes of a frame (section 11.2). -/
def frameBytes (kind tag : Byte) (payload : List Byte) : List Byte :=
  let covered := byte payload.length :: kind :: tag :: payload
  0xA5#8 :: covered ++ crcField covered

/-- The payload of a notice: the overflow marker and the content (R198). -/
def Notice.payload (n : Notice) : List Byte := flagByte n.marker :: n.content

/-- An idle transmitter starts the head of the reply queue, else the head of the notice queue; the entry
leaves its queue and its content is fixed (R189). Log 6. -/
def txStart (d : Dev) : Dev :=
  match d.lnk.tx with
  | some _ => d
  | none =>
    match d.lnk.replies with
    | r :: rest =>
      { d with lnk := { d.lnk with
          replies := rest
          tx := some ⟨frameBytes r.kind r.tag r.payload, if r.rejection then none else some r.tag⟩ } }
    | [] =>
      match d.lnk.notices with
      | n :: rest =>
        { d with lnk := { d.lnk with
            notices := rest
            tx := some ⟨frameBytes (byte n.kind.code) 0#8 n.payload, none⟩ } }
      | [] => d

/-- The frame in transmission has been sent: a reply ends its request's place in the list (R189). -/
def txEnd (d : Dev) : Dev :=
  match d.lnk.tx with
  | none => d
  | some t =>
    let requests := match t.answers with
      | some tag => d.lnk.requests.filter (·.tag != tag)
      | none => d.lnk.requests
    { d with lnk := { d.lnk with tx := none, requests := requests } }

/-! ## The link timer (R192, R194) -/

/-- Start the link timer at the calibrated link timeout. -/
def lnkStartTimer (d : Dev) : Dev :=
  { d with lnk := { d.lnk with timer := d.timerIn d.linkTimeout } }

/-- Stop the link timer. -/
def lnkStopTimer (d : Dev) : Dev := { d with lnk := { d.lnk with timer := none } }

end Sys2Proof.Machine
end

