-- ==== Sys2Proof/Machine/Grant.lean ====
section
/-! DEFINITION. The arbiter of the storage port (R153, R154), and what each requester composes at its
grant: the fault slot and frame slot (R139), the odometer slot (R51), an image page (R163). -/

namespace Sys2Proof.Machine

/-! ## Stored records (section 11.8) -/

/-- A stored item: its covered bytes and their CRC-16. -/
def withCrc (covered : List Byte) : List Byte := covered ++ crcField covered

/-- `n` zero bytes. -/
def zeros (n : Nat) : List Byte := List.replicate n 0#8

/-- Fault status codes (section 11.5). -/
def statusCode (active : Bool) : Nat := if active then 0 else 1

/-- The stored value of a record's frame: IN_POOL and STORED are written STORED (R139). -/
def storedFrameCode : FrameRef → Nat
  | .absent => 0
  | .inPool _ | .stored => 2

/-- Offsets 0-19 of a fault slot, with the frame byte given. -/
def recordBytes (r : FaultRec) (frameByte : Nat) : List Byte :=
  be16 r.code.toNat ++ [byte (statusCode r.active), byte r.severity.code, byte r.occurrences,
    byte r.aging] ++ be32 r.firstDistance ++ be32 r.lastDistance ++ be16 r.firstCycle ++
    be16 r.lastCycle ++ [byte frameByte, flagByte r.frameLost]

/-- A fault slot: the record, or an empty slot (R139). -/
def faultSlotBytes : Option FaultRec → List Byte
  | some r => withCrc (recordBytes r (storedFrameCode r.frame) ++ zeros 10)
  | none => withCrc (zeros 30)

/-- Offsets 0-31 of a frame slot. -/
def frameBytes32 (f : FreezeFrame) : List Byte :=
  be16 f.code.toNat ++
    f.channels.flatMap (fun c => byte c.1 :: byte c.2.1.code :: beInt16 c.2.2) ++
    beInt16 f.roadInstant ++ beInt16 f.battValue ++ [byte f.battQuality.code] ++
    be32 f.distance ++ [byte f.mode.code] ++ f.doors.map (fun p => byte p.code)

/-- A frame slot. -/
def frameSlotBytes (f : FreezeFrame) : List Byte := withCrc (frameBytes32 f ++ zeros 30)

/-- The sequence after a sequence. Log 41. -/
def nextSequence (n : Nat) : Nat :=
  if n < 4294967295 then n + 1 else Config.sequenceAfterLast.toNat

/-- An odometer slot: sequence, distance, cycles and CRC-16. -/
def odometerSlotBytes (seqNo distance cycles : Nat) : List Byte :=
  withCrc (be32 seqNo ++ be32 distance ++ be16 cycles ++ zeros 4)

/-- The bytes of image page `p` in calibration RAM: 128, and 16 for page 39 (R163). -/
def imagePage (d : Dev) (p : Nat) : List Byte :=
  Memory.readAll d.cal.ram (128 * p) (if p = 39 then 16 else 128)

/-! ## Arbitration (R154) -/

/-- Whether a requester's queue holds a job (section 8.3). -/
def holdsJob (d : Dev) : Requester → Bool
  | .faultWriter => !d.flt.queue.isEmpty
  | .odometer => d.pls.odoJob == .queued
  | .loader => d.sto.loader.queued.isSome
  | .hostRead => !d.sto.hostReads.isEmpty
  | .imageStore => d.sto.storeQueued

def highOrder : List Requester := [.faultWriter, .odometer, .loader]
def lowOrder : List Requester := [.hostRead, .imageStore]

/-- Whether a group holds a job. -/
def groupHolds (d : Dev) (order : List Requester) : Bool := order.any (holdsJob d)

/-- The requesters of a group in the order they are looked at: from the one after the last grant on,
wrapping; from the start when there is no last grant (R154). -/
def afterGrant (order : List Requester) : Option Requester → List Requester
  | none => order
  | some last => (order.dropWhile (· != last)).drop 1 ++ order.takeWhile (· != last) ++ [last]

/-- The requester an arbitrated grant chooses (R154). -/
def arbitrate (d : Dev) : Option Requester :=
  let low := (afterGrant lowOrder d.sto.lastLow).find? (holdsJob d)
  let high := (afterGrant highOrder d.sto.lastHigh).find? (holdsJob d)
  if groupHolds d lowOrder && d.sto.highWhileLow == 4 then low
  else if groupHolds d highOrder then high
  else low

/-- The high group. -/
def Requester.isHigh : Requester → Bool
  | .faultWriter | .odometer | .loader => true
  | .hostRead | .imageStore => false

/-- The last grants and the count after a grant (R154). -/
def countGrant (r : Requester) (d : Dev) : Dev :=
  if r.isHigh then
    { d with sto := { d.sto with
        lastHigh := some r
        highWhileLow := if groupHolds d lowOrder then d.sto.highWhileLow + 1 else 0 } }
  else { d with sto := { d.sto with lastLow := some r, highWhileLow := 0 } }

/-! ## The jobs granted -/

/-- How a job begins: a read and a probe with a status read at once, a write with its polls, the first
1 ms after it (R150, R151, R155). -/
def startPhase (clock : Nat) : JobOp → JobPhase
  | .write _ _ => .polling (clock + ms 1)
  | .probe | .read _ _ => .started

/-- Put a job in flight. -/
def startJob (r : Requester) (op : JobOp) (hostRead : Option HostRead) (page : Nat) (d : Dev) : Dev :=
  { d with sto := { d.sto with
      job := some ⟨r, op, 1, 0, startPhase d.clock op, hostRead, page⟩ } }

/-- The snapshot the fault writer takes of a slot at its grant (R139). -/
def takeSnapshot (d : Dev) (i : Fin 40) : FaultWrite :=
  let record := d.flt.slots[i].record
  let frame := match record with
    | some r => match r.frame with
      | .inPool p => d.flt.pool[p].map fun f => (p, f)
      | .absent | .stored => none
    | none => none
  { slot := i, record := record, frame := frame, recordStage := frame.isNone, mark := .clear }

/-- The job of a fault write: the frame job, or the record job (R139). -/
def faultWriteOp (w : FaultWrite) : JobOp :=
  match w.recordStage, w.frame with
  | false, some f => .write (0x4600 + 64 * w.slot.val) (frameSlotBytes f.2)
  | _, _ => .write (0x4100 + 32 * w.slot.val) (faultSlotBytes w.record)

/-- The grant to a requester that holds a job. -/
def grantTo (r : Requester) (d : Dev) : Dev :=
  match r with
  | .faultWriter =>
    match d.flt.queue with
    | i :: rest =>
      let w := takeSnapshot d i
      startJob .faultWriter (faultWriteOp w) none 0
        { d with flt := { d.flt with queue := rest, write := some w } }
    | [] => d
  | .odometer =>
    startJob .odometer
      (.write (0x4000 + 16 * ((d.pls.lastSlot + 1) % 4))
        (odometerSlotBytes (nextSequence d.pls.lastSeq) d.pls.distance d.pls.cycles)) none 0
      { d with pls := { d.pls with odoJob := .inFlight } }
  | .loader =>
    match d.sto.loader.queued with
    | some op =>
      startJob .loader op none 0
        { d with sto := { d.sto with loader := { d.sto.loader with queued := none } } }
    | none => d
  | .hostRead =>
    match d.sto.hostReads with
    | h :: rest =>
      startJob .hostRead (.read (0x4600 + 64 * h.slot.val) 64) (some h) 0
        { d with sto := { d.sto with hostReads := rest } }
    | [] => d
  | .imageStore =>
    match d.sto.storePage with
    | some p =>
      startJob .imageStore (.write (128 * p) (imagePage d p)) none p
        { d with sto := { d.sto with storeQueued := false } }
    | none => d

/-- A grant point with no continuation (R153): nothing while a job is in flight, nothing while storage is
absent (R155), and otherwise the grant arbitration chooses, if any queue holds a job. -/
def stoGrant (d : Dev) : Dev :=
  if d.sto.job.isSome || d.sto.storage == .absent then d
  else match arbitrate d with
    | some r => grantTo r (countGrant r d)
    | none => d

/-! ## Joining the queues -/

/-- PLS asks for an odometer write (R50). -/
def plsAskWrite (d : Dev) : Dev :=
  if !d.pls.ringTaken || d.sto.storage == .absent then d
  else match d.pls.odoJob with
    | .none => stoGrant { d with pls := { d.pls with odoJob := .queued } }
    | .queued => d
    | .inFlight => { d with pls := { d.pls with writeOwed := true } }

end Sys2Proof.Machine
end

