-- ==== Sys2Proof/Machine/Faults.lean ====
section
/-! DEFINITION. FLT, the fault memory (chapter 7): reports, replacement, freeze frames, the dirty queue,
aging and erasure. -/

namespace Sys2Proof.Machine

/-! ## Slots and the pool -/

def Dev.slot (d : Dev) (i : Fin 40) : FaultSlot := d.flt.slots[i]

def Dev.setSlot (d : Dev) (i : Fin 40) (s : FaultSlot) : Dev :=
  { d with flt := { d.flt with slots := d.flt.slots.set i s } }

/-- The record count: the occupied slots (section 7.2). -/
def recordCount (d : Dev) : Nat := (d.flt.slots.toList.filter (·.record.isSome)).length

/-- Whether a slot holds a code. -/
def FaultSlot.holds (s : FaultSlot) (code : BitVec 16) : Bool :=
  match s.record with
  | some r => r.code == code
  | none => false

/-- The slot that holds a code (R131). -/
def findCode (d : Dev) (code : BitVec 16) : Option (Fin 40) :=
  (List.finRange 40).find? fun i => (d.slot i).holds code

/-- The lowest free slot (R133). -/
def freeSlot (d : Dev) : Option (Fin 40) :=
  (List.finRange 40).find? fun i => (d.slot i).record.isNone

/-- The lowest free pool entry (R135). -/
def freePool (d : Dev) : Option (Fin 8) :=
  (List.finRange 8).find? fun i => d.flt.pool[i].isNone

/-- Free the pool entry a frame reference names. -/
def freeFrame (f : FrameRef) (d : Dev) : Dev :=
  match f with
  | .inPool p => { d with flt := { d.flt with pool := d.flt.pool.set p none } }
  | .absent | .stored => d

/-! ## Dirty slots (R138, R141) -/

/-- A slot becomes dirty; `renewed` when the change erases or replaces its record (R138). In flight it is
marked; queued it keeps its place; otherwise it joins the tail, but not while storage is absent or the
persistent flag is clear (R141). -/
def fltDirty (i : Fin 40) (renewed : Bool) (d : Dev) : Dev :=
  let d := d.setSlot i { d.slot i with dirty := true }
  match d.flt.write with
  | some w =>
    if w.slot = i then
      { d with flt := { d.flt with
          write := some { w with
            mark := if renewed || w.mark == .renewed then .renewed else .changed } } }
    else enqueue d
  | none => enqueue d
where
  enqueue (d : Dev) : Dev :=
    if !d.flt.persistent || d.sto.storage == .absent || d.flt.queue.contains i then d
    else stoGrant { d with flt := { d.flt with queue := d.flt.queue ++ [i] } }

/-! ## Notices (R137) -/

/-- The status codes ACTIVE 0, PASSIVE 1, ERASED 2. -/
def erasedCode : Nat := 2

/-- The content of a FAULT_CHANGE notice. -/
def faultContent (d : Dev) (i : Fin 40) (r : FaultRec) (status : Nat) : List Byte :=
  byte i.val :: be16 r.code.toNat ++ [byte status, byte r.severity.code, byte r.occurrences,
    byte r.frame.code, flagByte r.frameLost, byte d.flt.dropped]

def postFault (i : Fin 40) (r : FaultRec) (status : Nat) (d : Dev) : Dev :=
  lnkPost .faultChange i.val (faultContent d i r status) d

/-- A record written into its slot, the slot made dirty and its notice posted, in that order (R137). -/
def commitRecord (i : Fin 40) (r : FaultRec) (renewed : Bool) (d : Dev) : Dev :=
  postFault i r (statusCode r.active)
    (fltDirty i renewed (d.setSlot i { d.slot i with record := some r }))

/-! ## Freeze frames (R135) -/

/-- The vehicle as the other blocks left it. -/
def freezeFrame (d : Dev) (code : BitVec 16) : FreezeFrame where
  code := code
  channels := d.flt.frameChannels.map fun c => (c, (d.chan c).quality, (d.chan c).value)
  roadInstant := (d.chan 44).instant
  battValue := (d.chan 40).value
  battQuality := (d.chan 40).quality
  distance := d.pls.distance
  mode := d.mod.mode
  doors := (List.finRange 4).map fun i =>
    if i.val < d.dor.cfg.count then d.dor.doors[i].position else .unknown

/-- The frame a new record gets: the lowest free pool entry, or the frame-lost flag, or neither for a MINOR
record and for one created with no valid image (R135). -/
def takeFrame (code : BitVec 16) (sev : Severity) (d : Dev) : Dev × FrameRef × Bool :=
  if sev == .minor || !d.cal.valid then (d, .absent, false)
  else match freePool d with
    | some p =>
      ({ d with flt := { d.flt with pool := d.flt.pool.set p (some (freezeFrame d code)) } },
        .inPool p, false)
    | none => (d, .absent, true)

/-- A new record in a slot (R133). -/
def createRecord (i : Fin 40) (code : BitVec 16) (sev : Severity) (renewed : Bool) (d : Dev) : Dev :=
  let t := takeFrame code sev d
  commitRecord i
    { code := code, active := true, severity := sev, occurrences := 1
      firstDistance := d.pls.distance, lastDistance := d.pls.distance
      firstCycle := d.pls.cycles, lastCycle := d.pls.cycles
      aging := 0, frame := t.2.1, frameLost := t.2.2 } renewed t.1

/-! ## Replacement (R134) -/

/-- Whether candidate `a` (of a lower slot) is kept before `b`: lower severity, then higher aging, then
the lower slot. -/
def keepsCandidate (a b : FaultRec) : Bool :=
  decide (a.severity.code < b.severity.code) ||
    (a.severity.code == b.severity.code && decide (b.aging ≤ a.aging))

/-- The candidate among the PASSIVE records (R134). -/
def replaceCandidate (d : Dev) : Option (Fin 40 × FaultRec) :=
  (List.finRange 40).foldl (fun best i =>
    match (d.slot i).record with
    | some r =>
      if r.active then best
      else match best with
        | some b => if keepsCandidate b.2 r then best else some (i, r)
        | none => some (i, r)
    | none => best) none

/-- A new code with all slots occupied: the candidate is overwritten if its severity is at or below the new
fault's, and otherwise the fault is dropped and counted (R134). -/
def replaceRecord (code : BitVec 16) (sev : Severity) (d : Dev) : Dev :=
  match replaceCandidate d with
  | some (i, r) =>
    if r.severity.code ≤ sev.code then createRecord i code sev true (freeFrame r.frame d)
    else { d with flt := { d.flt with dropped := bump 255 d.flt.dropped } }
  | none => { d with flt := { d.flt with dropped := bump 255 d.flt.dropped } }

/-! ## Reports -/

/-- A PASSIVE record is active again (R132). -/
def reactivate (i : Fin 40) (r : FaultRec) (sev : Severity) (d : Dev) : Dev :=
  commitRecord i
    { r with active := true, occurrences := bump 255 r.occurrences
             lastDistance := d.pls.distance, lastCycle := d.pls.cycles, aging := 0, severity := sev }
    false d

/-- A present report (R130, R132-R134). -/
def fltPresent (code : BitVec 16) (d : Dev) : Dev :=
  match groupEntry (code.toNat / 256) with
  | none => d
  | some e =>
    let setting := d.groupSetting e
    if setting.1 then d
    else match findCode d code with
      | some i =>
        match (d.slot i).record with
        | some r => if r.active then d else reactivate i r setting.2 d
        | none => d
      | none =>
        match freeSlot d with
        | some i => createRecord i code setting.2 false d
        | none => replaceRecord code setting.2 d

/-- An absent report (R136). -/
def fltAbsent (code : BitVec 16) (d : Dev) : Dev :=
  match findCode d code with
  | some i =>
    match (d.slot i).record with
    | some r => if r.active then commitRecord i { r with active := false } false d else d
    | none => d
  | none => d

/-- A report of the fault of a group and index: present or absent. -/
def fltReport (group index : Nat) (present : Bool) (d : Dev) : Dev :=
  if present then fltPresent (faultCode group index) d else fltAbsent (faultCode group index) d

/-- A report made only under a condition. -/
def fltReportIf (cond : Bool) (group index : Nat) (present : Bool) (d : Dev) : Dev :=
  if cond then fltReport group index present d else d

/-! ## Erasure and aging -/

/-- Erasing the record of a slot (R143): its pool entry is freed, the slot becomes dirty and the notice
carries ERASED. Log 21. -/
def eraseSlot (i : Fin 40) (r : FaultRec) (d : Dev) : Dev :=
  let d := freeFrame r.frame d
  postFault i r erasedCode (fltDirty i true (d.setSlot i { d.slot i with record := none }))

/-- Whether a slot holds an ACTIVE record. -/
def FaultSlot.isActive (s : FaultSlot) : Bool :=
  match s.record with
  | some r => r.active
  | none => false

/-- The first pass of SAVING entry at one slot: an ACTIVE record becomes PASSIVE with aging 0 (R142). -/
def passivateSlot (i : Fin 40) (d : Dev) : Dev :=
  match (d.slot i).record with
  | none => d
  | some r => if r.active then commitRecord i { r with active := false, aging := 0 } false d else d

/-- The aging pass at one slot: a PASSIVE record whose last cycle is not the current one ages, and is erased at
the limit (R142). -/
def ageSlot (i : Fin 40) (d : Dev) : Dev :=
  match (d.slot i).record with
  | none => d
  | some r =>
    if r.active || r.lastCycle == d.pls.cycles then d
    else
      let r' := { r with aging := bump 255 r.aging }
      if d.flt.agingLimit ≤ r'.aging then eraseSlot i r' d else commitRecord i r' false d

/-- FLT at SAVING entry (R142): every ACTIVE record becomes PASSIVE, and then the aging pass runs, once in a
cycle, over the records this entry has not made PASSIVE, each in ascending slot order. Log 31. -/
def fltSaving (d : Dev) : Dev :=
  let start := d
  let d := forEach 40 passivateSlot d
  let d :=
    if start.flt.cycleAged == some start.pls.cycles then d
    else forEach 40 (fun i d => if (start.slot i).isActive then d else ageSlot i d) d
  { d with flt := { d.flt with cycleAged := some d.pls.cycles } }

/-- FLT reads the aging limit and the frame channels (R149). -/
def fltReadSettings (d : Dev) : Dev :=
  { d with flt := { d.flt with agingLimit := d.agingSetting, frameChannels := d.frameChannelSettings } }

end Sys2Proof.Machine
end

