-- ==== Sys2Proof/Machine/Chime.lean ====
section
/-! DEFINITION. The chime (section 5.6): the request list, the arbiter and the player. -/

namespace Sys2Proof.Machine

/-! ## The list -/

/-- The request of a warning. -/
def chimeRequest (d : Dev) (w : Fin 64) : Option ChimeRequest :=
  d.wrn.requests.find? (·.warning == w)

/-- The warnings listed in a group: high for STOP, low for CAUTION and ADVISORY (R98). -/
def chimeGroup (d : Dev) (high : Bool) : List ChimeRequest := d.wrn.requests.filter (·.high == high)

/-- The request of a group with the lowest warning number, among those a test selects. -/
def lowestRequest (rs : List ChimeRequest) : Option ChimeRequest :=
  rs.foldl (fun best r => match best with
    | some b => if r.warning < b.warning then some r else best
    | none => some r) none

/-- Round-robin within a group: the lowest number above the last grant, wrapping to the lowest (R99). -/
def chimeNext (rs : List ChimeRequest) (last : Option (Fin 64)) : Option ChimeRequest :=
  match last with
  | none => lowestRequest rs
  | some l =>
    match lowestRequest (rs.filter fun r => decide (l < r.warning)) with
    | some r => some r
    | none => lowestRequest rs

/-! ## The player -/

def setPlayer (p : Player) (d : Dev) : Dev := { d with wrn := { d.wrn with player := p } }

/-- How long the first segment of a pattern lasts. -/
def segmentTime (p : Chime) (i : Nat) : Nat := (p.segments.getD i (false, 0)).2

/-- A play ends and the silence of 200 ms follows (R100-R102). -/
def chimeSilence (d : Dev) : Dev := setPlayer (.silence (d.clock + ms 200)) d

/-- Start a play from its first segment. -/
def startPlay (warning : Option (Fin 64)) (pattern : Chime) (high highTone : Bool)
    (lowBefore : Option (Fin 64)) (d : Dev) : Dev :=
  setPlayer (.playing ⟨warning, pattern, high, highTone, 0, d.clock + segmentTime pattern 0, lowBefore⟩) d

/-- The grant of a listed request, which becomes its group's last grant. The tone is 2.0 kHz for STOP,
the high group (R99, R100). -/
def grantRequest (r : ChimeRequest) (d : Dev) : Dev :=
  let before := d.wrn.lastLow
  startPlay (some r.warning) r.pattern r.high r.high before
    (if r.high then { d with wrn := { d.wrn with lastHigh := some r.warning } }
     else { d with wrn := { d.wrn with lastLow := some r.warning } })

/-- The arbiter with the player free: the test request, else the high group, else the low group (R99). -/
def chimeArbitrate (d : Dev) : Dev :=
  match d.wrn.test with
  | some t => startPlay none t.pattern true t.highTone d.wrn.lastLow d
  | none =>
    match chimeNext (chimeGroup d true) d.wrn.lastHigh with
    | some r => grantRequest r d
    | none =>
      match chimeNext (chimeGroup d false) d.wrn.lastLow with
      | some r => grantRequest r d
      | none => d

/-- The arbiter grants when the player is idle and the chime is enabled (R99, R103). -/
def chimeGrant (d : Dev) : Dev :=
  if d.wrn.player == .idle && chimeEnabled d then chimeArbitrate d else d

/-- Whether a low play would be preempted: the high group holds a request or a test request waits
(R101). -/
def highWaits (d : Dev) : Bool := d.wrn.test.isSome || !(chimeGroup d true).isEmpty

/-- A low play ends preempted: the low group's last grant is set back and the request stays listed
(R101). -/
def preempt (p : Play) (d : Dev) : Dev :=
  chimeSilence { d with wrn := { d.wrn with lastLow := p.lowBefore } }

/-- What a joining request does at once: a grant to an idle player, or the end of a low play that is in a
gap (R99, R101). -/
def chimeArrival (d : Dev) : Dev :=
  match d.wrn.player with
  | .idle => chimeGrant d
  | .playing p => if !p.high && !p.beeping && highWaits d then preempt p d else d
  | .silence _ => d

/-- Whether the play in progress is of a warning's request. -/
def Play.plays (p : Play) (w : Fin 64) : Bool := p.warning == some w

/-! ## Joining, changing and leaving (R98, R102) -/

def chimeJoin (w : Fin 64) (pattern : Chime) (high : Bool) (d : Dev) : Dev :=
  chimeArrival { d with wrn := { d.wrn with requests := d.wrn.requests ++ [⟨w, pattern, high⟩] } }

def chimeChange (w : Fin 64) (pattern : Chime) (d : Dev) : Dev :=
  { d with wrn := { d.wrn with
      requests := d.wrn.requests.map fun r => if r.warning = w then { r with pattern := pattern } else r } }

/-- Take the request of a warning off the list. -/
def chimeRemove (w : Fin 64) (d : Dev) : Dev :=
  { d with wrn := { d.wrn with requests := d.wrn.requests.filter (·.warning != w) } }

/-- A request leaves; if it is being played, the play ends at once (R102). -/
def chimeLeave (w : Fin 64) (d : Dev) : Dev :=
  let d := chimeRemove w d
  match d.wrn.player with
  | .playing p => if p.plays w then chimeSilence d else d
  | .idle | .silence _ => d

/-- The effective chime of a warning (R97). -/
def effectiveChime (d : Dev) (w : Fin 64) : Chime :=
  let cfg := d.wrn.cfg[w]
  match d.wrn.warnings[w].state, cfg.lamp with
  | .activeNew, some l =>
    if h : l < 24 then
      match d.wrn.lamps[l].driver with
      | .openLoad | .overcurrentWait | .lockedOff => .continuous
      | .ok | .shortToGround => cfg.chime
    else cfg.chime
  | _, _ => cfg.chime

/-- The list brought up to date for a warning; `entered` when it has just entered ACTIVE_NEW (R98). A
warning in ACTIVE_NEW that is not listed joins when it enters with a chime, or at CONTINUOUS. -/
def chimeRefresh (w : Fin 64) (entered : Bool) (d : Dev) : Dev :=
  let eff := effectiveChime d w
  let high := d.wrn.cfg[w].cls == .stop
  match chimeRequest d w with
  | some r =>
    if d.wrn.warnings[w].state != .activeNew || eff == .none then chimeLeave w d
    else if r.pattern != eff then chimeChange w eff d
    else d
  | none =>
    if d.wrn.warnings[w].state == .activeNew && eff != .none && (entered || eff == .continuous) then
      chimeJoin w eff high d
    else d

/-! ## The player's events (R99-R101) -/

/-- The pattern has been played in full: the test request leaves; a SINGLE or TRIPLE whose request still
has that pattern leaves; then the silence (R100, R104). -/
def playEnd (p : Play) (d : Dev) : Dev :=
  match p.warning with
  | none => chimeSilence { d with wrn := { d.wrn with test := none } }
  | some w =>
    match chimeRequest d w with
    | some r =>
      if r.pattern == p.pattern && (p.pattern == .single || p.pattern == .triple) then
        chimeSilence (chimeRemove w d)
      else chimeSilence d
    | none => chimeSilence d

/-- A beep or gap ends (R100, R101). Log 24. -/
def playStep (p : Play) (d : Dev) : Dev :=
  if p.beeping && !p.high && highWaits d then preempt p d
  else if p.segment + 1 < p.pattern.segments.length then
    setPlayer (.playing { p with
      segment := p.segment + 1
      deadline := d.clock + segmentTime p.pattern (p.segment + 1) }) d
  else playEnd p d

/-- The silence ends: the arbiter grants afresh (R99). -/
def silenceEnd (d : Dev) : Dev := chimeGrant (setPlayer .idle d)

/-! ## The driver supply and SERVICE (R103, R104) -/

/-- Driver supply off: the player stops at once with no silence. Log 39. -/
def chimeSupplyOff (d : Dev) : Dev := setPlayer .idle d

/-- A test request is placed beside the list (R104). -/
def chimePlaceTest (t : ChimeTest) (d : Dev) : Dev :=
  chimeArrival { d with wrn := { d.wrn with test := some t } }

/-- The test request is removed at the end of SERVICE; its play ends at once (R104). -/
def chimeRemoveTest (d : Dev) : Dev :=
  match d.wrn.test with
  | none => d
  | some _ =>
    let d := { d with wrn := { d.wrn with test := none } }
    match d.wrn.player with
    | .playing p => if p.warning.isNone then chimeSilence d else d
    | .idle | .silence _ => d

end Sys2Proof.Machine
end

