-- ==== Sys2Proof/Machine/Warnings.lean ====
section
/-! DEFINITION. WRN, the warning unit (chapter 5): the lamps and their drivers, the conditions, the
warning state machine, starts and stops. -/

namespace Sys2Proof.Machine

/-! ## Lamps: demand, output and diagnosis -/

def Dev.lamp (d : Dev) (l : Fin 24) : LampRec := d.wrn.lamps[l]

def Dev.setLamp (d : Dev) (l : Fin 24) (r : LampRec) : Dev :=
  { d with wrn := { d.wrn with lamps := d.wrn.lamps.set l r } }

/-- Whether some enabled warning mapped to lamp `l` passes a test. -/
def anyMapped (d : Dev) (l : Fin 24) (p : WarningCfg → WarningRec → Bool) : Bool :=
  (List.finRange 64).any fun w =>
    d.wrn.cfg[w].enabled && d.wrn.cfg[w].lamp == some l.val && p d.wrn.cfg[w] d.wrn.warnings[w]

/-- The demand of a lamp (R89). -/
def lampDemand (d : Dev) (l : Fin 24) : Demand :=
  if anyMapped d l (fun c r => c.flash && r.state.unacknowledged) then .flashing
  else if (d.lamp l).hostBit || anyMapped d l (fun _ r => r.state.shown) then .steady
  else .off

/-- The on half of the flash phase. -/
def flashOn (d : Dev) : Bool :=
  match d.wrn.flash with
  | some f => f.on
  | none => false

/-- What the RUN rule gives for a demand (R90). -/
def demandOn (d : Dev) : Demand → Bool
  | .off => false
  | .steady => true
  | .flashing => flashOn d

/-- The mode rule of a lamp (R90). -/
def lampModeRule (d : Dev) (r : LampRec) : Bool :=
  match d.mod.mode with
  | .sweep => true
  | .run => demandOn d r.demand
  | .service =>
    match r.force with
    | some b => b
    | none => demandOn d r.demand
  | .standby | .loading | .awaitingImage | .saving => false

/-- Whether a lamp's output is on by R90. -/
def lampOn (d : Dev) (r : LampRec) : Bool :=
  wrnRunning d && d.mod.supply == .on && r.driver.lets && lampModeRule d r

/-- What the diagnosis timer of a lamp times (R91-R93). -/
inductive Judged where
  | openLoad | shortToGround | current | readback | clean
deriving DecidableEq, Repr, Inhabited

/-- The condition being judged, if any holds: open load, short, recovery of current or of readback, and the
clean 100 ms that clears a held over-current (R91-R93). -/
def lampJudged (d : Dev) (r : LampRec) : Option Judged :=
  if !wrnRunning d || d.mod.supply != .on then none
  else match r.driver with
    | .ok =>
      if r.output then
        if !r.currentOk then some .openLoad else if r.heldOver then some .clean else none
      else if !r.pinHigh then some .shortToGround else none
    | .openLoad => if r.output && r.currentOk then some .current else none
    | .shortToGround => if !r.output && r.pinHigh then some .readback else none
    | .overcurrentWait | .lockedOff => none

/-- The output switched to a level. At a switch-on the current is not yet there, and at a switch-off the
pin is still low, until LAMP_SENSE_CHANGE says otherwise. Log 9. -/
def switchOutput (clock : Nat) (on : Bool) (r : LampRec) : LampRec :=
  if on = r.output then r
  else if on then { r with output := true, onSince := some clock, currentOk := false }
  else { r with output := false, onSince := none, pinHigh := false }

/-- A change to a lamp record, completed: the output follows R90, and the diagnosis timer runs on only while
one condition is judged without interruption (R91). -/
def lampUpdate (l : Fin 24) (f : LampRec → LampRec) (d : Dev) : Dev :=
  let old := d.lamp l
  let new := switchOutput d.clock (lampOn d (f old)) (f old)
  let judged := lampJudged d new
  let timer :=
    if judged.isNone then none
    else if new.output == old.output && judged == lampJudged d old && old.diagTimer.isSome
      && (f old).diagTimer.isSome then old.diagTimer
    else d.timerIn (ms 100)
  d.setLamp l { new with diagTimer := timer }

/-- Every lamp's output and diagnosis brought up to date. -/
def lampsRefresh (d : Dev) : Dev := forEach 24 (fun l => lampUpdate l id) d

/-- A lamp's demand derived anew (R89). -/
def lampDemandRefresh (l : Fin 24) (d : Dev) : Dev :=
  lampUpdate l (fun r => { r with demand := lampDemand d l }) d

/-! ## Conditions (section 5.2) -/

def Dev.warning (d : Dev) (w : Fin 64) : WarningRec := d.wrn.warnings[w]

def Dev.setWarning (d : Dev) (w : Fin 64) (r : WarningRec) : Dev :=
  { d with wrn := { d.wrn with warnings := d.wrn.warnings.set w r } }

/-- The gate of a warning is open (R82); without a gate, always. -/
def gateOpen (d : Dev) (c : WarningCfg) : Bool :=
  match c.gate with
  | none => true
  | some g => (d.chan g).isGood && decide (c.gateMin ≤ (d.chan g).value)

/-- ABOVE with hysteresis (R80). -/
def aboveCond (t h v : Int) (stored : Bool) : Bool :=
  if t < v then true else if v ≤ t - h then false else stored

/-- BELOW with hysteresis (R80). -/
def belowCond (t h v : Int) (stored : Bool) : Bool :=
  if v < t then true else if t + h ≤ v then false else stored

/-- The invalid policy (R81). -/
def policyCond (p : InvalidPolicy) (stored : Bool) : Bool :=
  match p with
  | .assert => true
  | .clear => false
  | .hold => stored

/-- A CHANNEL condition (R80, R81). -/
def channelCond (d : Dev) (c : WarningCfg) (stored : Bool) : Bool :=
  let r := d.chan c.index
  let good (v : Bool) : Bool := if r.isGood then v else policyCond c.policy stored
  match c.condition with
  | .above => good (aboveCond c.threshold c.hysteresis r.value stored)
  | .below => good (belowCond c.threshold c.hysteresis r.value stored)
  | .active => good (r.value != 0)
  | .inactive => good (r.value == 0)
  | .qualityBad => !r.isGood
  | _ => false

/-- A DOOR condition; a door that is not configured gives false (R79, R83). -/
def doorCond (d : Dev) (c : WarningCfg) : Bool :=
  if h : c.index < 4 then
    if c.index < d.dor.cfg.count then
      let r := d.dor.doors[c.index]
      match c.condition with
      | .doorNotClosed => !r.position.shut
      | .doorOpenMoving =>
        !r.position.shut && decide ((d.dor.cfg.doors[c.index].releaseSpeed : Int) < (d.chan 44).value)
      | .doorStuck => r.release == .stuck
      | .doorEmergency => r.position == .emergency
      | .doorRequest => r.requestPending
      | _ => false
    else false
  else false

/-- A SYSTEM condition (R83). -/
def systemCond (d : Dev) (c : Condition) : Bool :=
  match c with
  | .linkLost => d.wrn.linkLost
  | .driverShutdown => d.mod.supply != .on
  | .storageFault => d.sto.absentHeld || d.sto.writeFailedHeld
  | .adcFault => d.seq.adcFault
  | .calFromHost => d.sto.unstoredHeld
  | _ => false

/-- The condition of a warning from its source as it stands; one that does not belong to its source kind is
false (R79), and so is every one while the gate is closed (R82). -/
def evalCondition (d : Dev) (c : WarningCfg) (stored : Bool) : Bool :=
  gateOpen d c &&
    match c.kind with
    | .channel => channelCond d c stored
    | .door => doorCond d c
    | .interlock => c.condition == .interlockBypass && d.dor.interlock.bypass
    | .gauge =>
      if h : c.index < 6 then c.condition == .gaugeFault && d.gau.gauges[c.index].held else false
    | .lamp =>
      if h : c.index < 24 then c.condition == .lampFault && d.wrn.lamps[c.index].driver != .ok
      else false
    | .system => systemCond d c.condition

/-! ## The state machine (section 5.3) -/

/-- The content of a WARNING_CHANGE notice (section 11.7). -/
def warningContent (d : Dev) (w : Fin 64) : List Byte :=
  let r := d.warning w
  [byte w.val, byte r.state.code, byte d.wrn.cfg[w].cls.code, flagByte r.condition,
    index8 (r.remembered.map Remembered.code)]

def postWarning (w : Fin 64) (d : Dev) : Dev :=
  lnkPost .warningChange w.val (warningContent d w) d

/-- The fault report of a change of state (R87). -/
def warningReport (w : Fin 64) (d : Dev) : Dev :=
  let r := d.warning w
  if r.state == .activeNew && d.wrn.cfg[w].faultReport && !r.held then
    fltReport 0x70 w.val true (d.setWarning w { r with held := true })
  else if r.state == .inactive && r.held then
    fltReport 0x70 w.val false (d.setWarning w { r with held := false })
  else d

/-- A change of a warning's state, completed in the order of R87: record, fault report, notice, lamp demand,
chime list. -/
def warningEnter (w : Fin 64) (st : WarningState) (rem : Option Remembered) (timer : Timer) (d : Dev) : Dev :=
  let d := d.setWarning w { d.warning w with state := st, remembered := rem, timer := timer }
  let d := postWarning w (warningReport w d)
  let d := match d.wrn.cfg[w].lamp with
    | some l => withIndex 24 l lampDemandRefresh d
    | none => d
  chimeRefresh w (st == .activeNew) d

/-- The PENDING_OFF exit (R85). -/
def warningExit (w : Fin 64) (rem : Remembered) (d : Dev) : Dev :=
  if d.wrn.cfg[w].latched && rem == .activeNew then warningEnter w .clearedUnacked none none d
  else warningEnter w .inactive none none d

/-- The end of an activation that stood in the given state (R85). -/
def warningEnding (w : Fin 64) (rem : Remembered) (d : Dev) : Dev :=
  if d.wrn.cfg[w].offDelay = 0 then warningExit w rem d
  else warningEnter w .pendingOff (some rem) (d.timerIn d.wrn.cfg[w].offDelay) d

/-- The state a remembered state is. -/
def Remembered.state : Remembered → WarningState
  | .activeNew => .activeNew
  | .activeAcked => .activeAcked

/-- A condition that has become true (section 5.3). -/
def conditionTrue (w : Fin 64) (d : Dev) : Dev :=
  let r := d.warning w
  match r.state with
  | .inactive =>
    if d.wrn.cfg[w].onDelay = 0 then warningEnter w .activeNew none none d
    else warningEnter w .pendingOn none (d.timerIn d.wrn.cfg[w].onDelay) d
  | .pendingOff =>
    match r.remembered with
    | some rem => warningEnter w rem.state none none d
    | none => d
  | .clearedUnacked => warningEnter w .activeNew none none d
  | .pendingOn | .activeNew | .activeAcked => d

/-- A condition that has become false (section 5.3). -/
def conditionFalse (w : Fin 64) (d : Dev) : Dev :=
  match (d.warning w).state with
  | .pendingOn => warningEnter w .inactive none none d
  | .activeNew => warningEnding w .activeNew d
  | .activeAcked => warningEnding w .activeAcked d
  | .inactive | .pendingOff | .clearedUnacked => d

/-- An evaluation (R79): only a change of the stored condition acts. -/
def evaluate (w : Fin 64) (d : Dev) : Dev :=
  if !wrnRunning d || !d.wrn.cfg[w].enabled then d
  else
    let r := d.warning w
    let c := evalCondition d d.wrn.cfg[w] r.condition
    if c = r.condition then d
    else
      let d := d.setWarning w { r with condition := c }
      if c then conditionTrue w d else conditionFalse w d

/-- Evaluate, in ascending number, the enabled warnings a test selects. -/
def evaluateWhere (p : WarningCfg → Bool) (d : Dev) : Dev :=
  forEach 64 (fun w d => if p d.wrn.cfg[w] then evaluate w d else d) d

/-- The delay timer of a warning expires (R84, R85). -/
def warningExpire (w : Fin 64) (d : Dev) : Dev :=
  let r := d.warning w
  match r.state with
  | .pendingOn => warningEnter w .activeNew none none d
  | .pendingOff =>
    match r.remembered with
    | some rem => warningExit w rem d
    | none => d
  | .inactive | .activeNew | .activeAcked | .clearedUnacked => d

/-! ## Acknowledge (R86, R88) -/

/-- Whether an acknowledge changes a warning's state or remembered state. -/
def ackChanges (r : WarningRec) : Bool :=
  match r.state with
  | .activeNew | .clearedUnacked => true
  | .pendingOff => r.remembered == some .activeNew
  | .inactive | .pendingOn | .activeAcked => false

/-- An acknowledge of one warning (R86). A change of the remembered state alone posts no notice.
Log 18. -/
def ackWarning (w : Fin 64) (d : Dev) : Dev :=
  let r := d.warning w
  match r.state with
  | .activeNew => warningEnter w .activeAcked none none d
  | .clearedUnacked => warningEnter w .inactive none none d
  | .pendingOff => d.setWarning w { r with remembered := some .activeAcked }
  | .inactive | .pendingOn | .activeAcked => d

/-- The enabled warnings a test selects. -/
def selectWarnings (d : Dev) (p : Fin 64 → WarningCfg → WarningRec → Bool) : List (Fin 64) :=
  (List.finRange 64).filter fun w => d.wrn.cfg[w].enabled && p w d.wrn.cfg[w] (d.warning w)

/-- Acknowledge a list of warnings in ascending number. -/
def ackAll (ws : List (Fin 64)) (d : Dev) : Dev := ws.foldl (fun d w => ackWarning w d) d

/-- The ack button: every enabled warning in ACTIVE_NEW or CLEARED_UNACKED (R88). -/
def ackButton (d : Dev) : Dev :=
  ackAll (selectWarnings d fun _ _ r => r.state.unacknowledged) d

/-! ## Updates from the other blocks (R79) -/

/-- Whether the channel update of `ch` is an evaluation event of a warning. -/
def watchesChannel (ch : Nat) (c : WarningCfg) : Bool :=
  (c.kind == .channel && c.index == ch) || c.gate == some ch ||
    (c.kind == .door && c.condition == .doorOpenMoving && ch == 44)

/-- WRN at a channel update; `flipOn` when it reports a flip to state 1. The ack button comes after the
evaluations. Log 38. -/
def wrnChannel (ch : Nat) (flipOn : Bool) (d : Dev) : Dev :=
  let d := evaluateWhere (watchesChannel ch) d
  if flipOn && wrnRunning d && d.wrn.ackChannel == some ch then ackButton d else d

def wrnDoor (i : Nat) (d : Dev) : Dev :=
  evaluateWhere (fun c => c.kind == .door && c.index == i) d

def wrnInterlock (d : Dev) : Dev := evaluateWhere (fun c => c.kind == .interlock) d

def wrnGauge (g : Nat) (d : Dev) : Dev :=
  evaluateWhere (fun c => c.kind == .gauge && c.index == g) d

def wrnSystem (item : Condition) (d : Dev) : Dev :=
  evaluateWhere (fun c => c.kind == .system && c.condition == item) d

/-! ## Lamp drivers (section 5.5) -/

/-- What follows a change of lamp driver states in the same event (R95): the LAMP_FAULT warnings on those lamps,
and the escalation check of the warnings shown by them, each in ascending warning number whatever lamp they are
of (R87). -/
def lampsDriverChanged (changed : Nat → Bool) (d : Dev) : Dev :=
  let d := evaluateWhere (fun c => c.kind == .lamp && changed c.index) d
  forEach 64 (fun w d => if d.wrn.cfg[w].lamp.any changed then chimeRefresh w false d else d) d

/-- What follows a change of one lamp's driver state (R95). -/
def lampDriverChanged (l : Fin 24) (d : Dev) : Dev := lampsDriverChanged (· == l.val) d

/-- Whether the lamp of a number passes a test. -/
def lampIs (d : Dev) (p : LampRec → Bool) (i : Nat) : Bool :=
  if h : i < 24 then p (d.lamp ⟨i, h⟩) else false

/-- The lamps in a driver state are OK again, all of them before anything that follows from it (R87, R94, R95). -/
def lampsToOk (was : LampDriver) (f : LampRec → LampRec) (d : Dev) : Dev :=
  lampsDriverChanged (lampIs d (·.driver == was)) (forEach 24 (fun l d =>
    if (d.lamp l).driver == was then lampUpdate l (fun r => f { r with driver := .ok }) d else d) d)

/-- What the diagnosis timer's expiry makes of the condition judged (R91-R93). -/
def lampDiagnose (l : Fin 24) (d : Dev) : Dev :=
  match lampJudged d (d.lamp l) with
  | some .openLoad =>
    lampDriverChanged l (fltReportIf (!(d.lamp l).heldOpen) 0x20 l.val true (lampUpdate l (fun r =>
      { r with driver := .openLoad, heldOpen := true, diagTimer := none }) d))
  | some .shortToGround =>
    lampDriverChanged l (fltReportIf (!(d.lamp l).heldShort) 0x21 l.val true (lampUpdate l (fun r =>
      { r with driver := .shortToGround, heldShort := true, diagTimer := none }) d))
  | some .current =>
    lampDriverChanged l (fltReport 0x20 l.val false (lampUpdate l (fun r =>
      { r with driver := .ok, heldOpen := false, diagTimer := none }) d))
  | some .readback =>
    lampDriverChanged l (fltReport 0x21 l.val false (lampUpdate l (fun r =>
      { r with driver := .ok, heldShort := false, diagTimer := none }) d))
  | some .clean =>
    fltReport 0x22 l.val false (lampUpdate l (fun r => { r with heldOver := false, diagTimer := none }) d)
  | none => d.setLamp l { d.lamp l with diagTimer := none }

/-- The over-current cut (R93). -/
def lampCut (l : Fin 24) (d : Dev) : Dev :=
  let r := d.lamp l
  let d := lampUpdate l (fun r => { r with
    driver := .overcurrentWait, heldOpen := false, heldShort := false, heldOver := true
    retryTimer := d.timerIn (ms 500) }) d
  let d := fltReportIf r.heldOpen 0x20 l.val false d
  let d := fltReportIf r.heldShort 0x21 l.val false d
  lampDriverChanged l (fltReportIf (!r.heldOver) 0x22 l.val true d)

/-- The retry timer's expiry (R93). -/
def lampRetry (l : Fin 24) (d : Dev) : Dev :=
  let r := d.lamp l
  if r.retries < 3 then
    lampDriverChanged l (lampUpdate l (fun r => { r with
      driver := .ok, retries := r.retries + 1, retryTimer := none }) d)
  else
    lampDriverChanged l (lampUpdate l (fun r => { r with driver := .lockedOff, retryTimer := none }) d)

/-- WRN at driver supply off (R94, R103); MOD has written the state. -/
def wrnSupplyOff (d : Dev) : Dev :=
  if !wrnRunning d then d
  else chimeSupplyOff (forEach 24 (fun l => lampUpdate l (fun r => { r with retryTimer := none })) d)

/-- WRN at driver supply on (R94, R103): the lamps first, then the chime's grant. Log 47. -/
def wrnSupplyOn (d : Dev) : Dev :=
  if !wrnRunning d then d else chimeGrant (lampsToOk .overcurrentWait id (lampsRefresh d))

/-- WRN frees every lamp in LOCKED_OFF (R95). -/
def wrnFree (d : Dev) : Dev := lampsToOk .lockedOff (fun r => { r with retries := 0 }) d

/-! ## Link loss, modes, starts and stops -/

/-- The link-lost state set by the link (R105). -/
def wrnLinkLost (d : Dev) : Dev :=
  let d := { d with wrn := { d.wrn with linkLost := true } }
  let d := forEach 24 (fun l d => lampDemandRefresh l (d.setLamp l { d.lamp l with hostBit := false })) d
  wrnSystem .linkLost d

/-- The link-lost state cleared by the link (R105). -/
def wrnLinkBack (d : Dev) : Dev :=
  wrnSystem .linkLost { d with wrn := { d.wrn with linkLost := false } }

/-- The settings taken at a start (R78). -/
def wrnTakeSettings (d : Dev) : Dev :=
  { d with wrn := { d.wrn with
      cfg := Vector.ofFn fun w : Fin 64 => d.warningCfg w.val
      ackChannel := d.ackChannel
      flash := some ⟨true, d.clock + ms 250⟩ } }

/-- WRN starts (R78): settings, flash phase, outputs, and the entry evaluation of every enabled
warning. -/
def wrnStart (d : Dev) : Dev := evaluateWhere (fun _ => true) (lampsRefresh (wrnTakeSettings d))

/-- A lamp record cleared by R106; what its pin senses is no state of WRN's and stays. Log 9. -/
def LampRec.cleared (r : LampRec) : LampRec :=
  { LampRec.resetValue with pinHigh := r.pinHigh && !r.output }

/-- The state R106 sets, the link-lost state and the settings kept. -/
def wrnCleared (s : WrnState) : WrnState :=
  { WrnState.resetValue with
    cfg := s.cfg, ackChannel := s.ackChannel, linkLost := s.linkLost
    lamps := s.lamps.map LampRec.cleared }

/-- The codes WRN holds present, reported absent (R106). -/
def wrnReportAbsent (d : Dev) : Dev :=
  let s := d.wrn
  let d := forEach 64 (fun w => fltReportIf s.warnings[w].held 0x70 w.val false) d
  forEach 24 (fun l d =>
    fltReportIf s.lamps[l].heldOver 0x22 l.val false
      (fltReportIf s.lamps[l].heldShort 0x21 l.val false
        (fltReportIf s.lamps[l].heldOpen 0x20 l.val false d))) d

/-- WRN stops on entry to SAVING and AWAITING_IMAGE (R106). -/
def wrnStop (d : Dev) : Dev :=
  let d := wrnReportAbsent d
  { d with wrn := wrnCleared d.wrn }

/-- WRN at the move from SWEEP to RUN: the mode rule of the lamps and the chime's enabling. -/
def wrnEnterRun (d : Dev) : Dev := chimeGrant (lampsRefresh d)

/-- WRN at the end of SERVICE into RUN: forces and the test request are removed (R96, R104). -/
def wrnLeaveService (d : Dev) : Dev :=
  chimeRemoveTest (forEach 24 (fun l => lampUpdate l (fun r => { r with force := none })) d)

end Sys2Proof.Machine
end

