-- ==== Sys2Proof/Machine/Gauges.lean ====
section
/-! DEFINITION. GAU, the gauge driver unit (chapter 4). -/

namespace Sys2Proof.Machine

/-! ## Coil drive (R60) -/

/-- The quarter-wave table Q[d], round(1,000 sin d°) for d = 0 to 90 (R60). -/
def quarterWave : List Int :=
  [0, 17, 35, 52, 70, 87, 105, 122, 139, 156, 174, 191, 208,
    225, 242, 259, 276, 292, 309, 326, 342, 358, 375, 391, 407, 423,
    438, 454, 469, 485, 500, 515, 530, 545, 559, 574, 588, 602, 616,
    629, 643, 656, 669, 682, 695, 707, 719, 731, 743, 755, 766, 777,
    788, 799, 809, 819, 829, 839, 848, 857, 866, 875, 883, 891, 899,
    906, 914, 921, 927, 934, 940, 946, 951, 956, 961, 966, 970, 974,
    978, 982, 985, 988, 990, 993, 995, 996, 998, 999, 999, 1000, 1000]

def quarterAt (d : Nat) : Int := quarterWave.getD d 0

/-- The quarter-wave value S(a) for an angle of 0-900 (R60). -/
def quarterValue (a : Nat) : Int :=
  quarterAt (a / 10) +
    (if a % 10 = 0 then 0
     else roundDiv ((quarterAt (a / 10 + 1) - quarterAt (a / 10)) * (a % 10 : Nat)) 10)

/-- The SIN duty of a position (R60). -/
def sinDuty (p : Nat) : Int :=
  if p ≤ 900 then quarterValue p
  else if p ≤ 1800 then quarterValue (1800 - p)
  else -quarterValue (p - 1800)

/-- The COS duty of a position (R60). -/
def cosDuty (p : Nat) : Int :=
  if p ≤ 900 then quarterValue (900 - p)
  else if p ≤ 1800 then -quarterValue (p - 900)
  else -quarterValue (2700 - p)

/-! ## Gauge records -/

def Dev.gauge (d : Dev) (g : Fin 6) : GaugeRec := d.gau.gauges[g]

/-- Write a gauge record. A gauge that is not driven has its bridges off. -/
def Dev.setGauge (d : Dev) (g : Fin 6) (r : GaugeRec) : Dev :=
  let r := if r.state.driven then r else { r with pwm := none, sinEnded := false, cosEnded := false }
  { d with gau := { d.gau with gauges := d.gau.gauges.set g r } }

/-- The position set, with its duties (R60, R61). -/
def GaugeRec.at (r : GaugeRec) (p : Int) : GaugeRec :=
  { r with position := p, sinDuty := Machine.sinDuty p.toNat, cosDuty := Machine.cosDuty p.toNat }

/-- The content of a GAUGE_CHANGE notice (section 11.7). -/
def gaugeContent (d : Dev) (g : Fin 6) : List Byte :=
  let r := d.gauge g
  [byte g.val, byte r.state.code] ++ beInt16 r.position ++ beInt16 r.target ++
    [byte r.restarts, flagByte r.held]

def postGauge (g : Fin 6) (d : Dev) : Dev := lnkPost .gaugeChange g.val (gaugeContent d g) d

/-- What follows a change of a gauge from an earlier record: the notice of a change of state, and the gauge
update for WRN at a change of state or of fault held (R76). -/
def gaugeTell (g : Fin 6) (old : GaugeRec) (d : Dev) : Dev :=
  let new := d.gauge g
  let d := if new.state != old.state then postGauge g d else d
  if new.state != old.state || new.held != old.held then wrnGauge g.val d else d

/-- A change of a gauge record during operation, with what follows it. -/
def gaugeChange (g : Fin 6) (f : GaugeRec → GaugeRec) (d : Dev) : Dev :=
  gaugeTell g (d.gauge g) (d.setGauge g (f (d.gauge g)))

/-! ## Targets (R57, R58) -/

/-- The angle of a source value (R57). -/
def gaugeAngle (c : GaugeCfg) (v : Int) : Int := clamp 0 c.full (curve c.points v)

/-- Target and state derived from the source record (R58). -/
def deriveTarget (d : Dev) (c : GaugeCfg) (r : GaugeRec) : GaugeRec :=
  if (d.chan c.source).isGood then
    { r with state := .tracking, target := gaugeAngle c (d.chan c.source).value }
  else { r with state := .invalid, target := if c.holdPolicy then r.target else c.rest }

/-- GAU at a channel update (R58); in SAVING no target is derived (R73). -/
def gauChannel (ch : Nat) (d : Dev) : Dev :=
  if d.mod.mode == .saving then d
  else forEach 6 (fun g d =>
    let c := d.gaugeCfg g
    let r := d.gauge g
    if c.source == ch && (r.state == .tracking || r.state == .invalid) then
      gaugeChange g (deriveTarget d c) d
    else d) d

/-! ## Initialisation (R55) -/

/-- The record of an enabled gauge set to its rest angle. -/
def initGauge (c : GaugeCfg) (restarts : Nat) : GaugeRec :=
  { GaugeRec.resetValue with target := c.rest, restarts := restarts }.at c.rest

/-- GAU initialises its records (R55): at SWEEP entry, or at RUN entry after a committed download. A gauge whose
fault is not held, a disabled one too, has no clean-period count. Log 55. -/
def gauInit (sweep : Bool) (d : Dev) : Dev :=
  let d := { d with gau := { d.gau with timer := d.timerIn (ms 10) } }
  forEach 6 (fun g d =>
    let c := d.gaugeCfg g
    let restarts := if sweep then (d.gauge g).restarts else 0
    if !c.enabled then d.setGauge g { GaugeRec.resetValue with restarts := restarts }
    else if sweep then
      d.setGauge g { initGauge c restarts with state := .sweep, phase := some .rising }
    else d.setGauge g (deriveTarget d c (initGauge c restarts))) d

/-! ## Movement (R59, R67, R73) -/

/-- The position moved toward a target by at most a step. -/
def approach (position target step : Int) : Int :=
  if position ≤ target then position + min (target - position) step
  else position - min (position - target) step

/-- Pursuit: kept within the dead band, moved by at most the slew beyond it (R59). -/
def pursue (c : GaugeCfg) (r : GaugeRec) : Int :=
  if (max (r.target - r.position) (r.position - r.target)) ≤ c.deadBand then r.position
  else approach r.position r.target c.slew

/-- The sweep rate: ceil(full angle / 100) (R67). -/
def sweepRate (c : GaugeCfg) : Int := (ceilDiv c.full.toNat 100 : Nat)

/-- One update of a gauge in SWEEP (R67). -/
def sweepMove (clock : Nat) (c : GaugeCfg) (r : GaugeRec) : GaugeRec :=
  match r.phase with
  | some .rising =>
    let p := min (r.position + sweepRate c) c.full
    if p = c.full then
      { r.at p with phase := some .holding, holdTimer := some (clock + ms 200) }
    else r.at p
  | some .falling =>
    let p := max (r.position - sweepRate c) c.rest
    if p = c.rest then { r.at p with phase := some .done } else r.at p
  | some .holding | some .done | none => r

/-- One update of a gauge making for rest in SAVING; it goes OFF on arrival (R73). -/
def savingMove (c : GaugeCfg) (r : GaugeRec) : GaugeRec :=
  let p := approach r.position c.rest c.slew
  if p = c.rest then { r.at p with state := .off } else r.at p

/-- One gauge update of one gauge (R56). -/
def gaugeMove (d : Dev) (c : GaugeCfg) (r : GaugeRec) : GaugeRec :=
  match r.state with
  | .sweep => sweepMove d.clock c r
  | .tracking | .invalid | .override =>
    if d.mod.mode == .saving then savingMove c r else r.at (pursue c r)
  | .off | .shutdown | .lockedOff | .supplyOff => r

/-- The gauge update (R56): the timer restarts and each driven gauge moves. -/
def gauUpdate (d : Dev) : Dev :=
  let d := { d with gau := { d.gau with timer := d.timerIn (ms 10) } }
  forEach 6 (fun g d =>
    if (d.gauge g).state.driven then gaugeChange g (gaugeMove d (d.gaugeCfg g)) d else d) d

/-- The hold timer expires: FALLING begins (R67). -/
def gaugeHoldEnd (g : Fin 6) (d : Dev) : Dev :=
  d.setGauge g { d.gauge g with phase := some .falling, holdTimer := none }

/-- Every enabled gauge is in DONE or LOCKED_OFF (R67, R174). -/
def sweepComplete (d : Dev) : Bool :=
  (List.finRange 6).all fun g =>
    !(d.gaugeCfg g).enabled || (d.gauge g).phase == some .done || (d.gauge g).state == .lockedOff

/-! ## Starting to drive again (R64, R66, R70) -/

/-- The state the mode gives a gauge that starts again from its stop (R64, R70). -/
def resumeRecord (d : Dev) (c : GaugeCfg) (r : GaugeRec) : GaugeRec :=
  let r := { r.at c.rest with
    terminated := 0, clean := if r.held then some 0 else none, restartTimer := none, holdTimer := none }
  match d.mod.mode with
  | .run | .service =>
    match r.overrideAngle with
    | some a => { r with state := .override, target := a, sweepDone := none }
    | none => deriveTarget d c { r with sweepDone := none }
  | .sweep =>
    { r with
      state := .sweep
      phase := some (if r.sweepDone == some true then .done else .rising)
      sweepDone := none }
  | .saving | .standby | .loading | .awaitingImage => { r with state := .off, sweepDone := none }

/-- A restart from SHUTDOWN or LOCKED_OFF, or a resumption. -/
def gaugeResume (g : Fin 6) (d : Dev) : Dev := gaugeChange g (resumeRecord d (d.gaugeCfg g)) d

/-- The restart timer's expiry (R64). -/
def gaugeRestart (g : Fin 6) (d : Dev) : Dev :=
  let r := d.gauge g
  if (d.gaugeCfg g).autoRestart && decide (r.restarts < 3) then
    gaugeChange g (fun r =>
      resumeRecord d (d.gaugeCfg g) { r with restarts := r.restarts + 1 }) d
  else gaugeChange g (fun r => { r with state := .lockedOff, restartTimer := none }) d

/-- GAU frees every gauge in LOCKED_OFF (R66). -/
def gauFree (d : Dev) : Dev :=
  forEach 6 (fun g d =>
    if (d.gauge g).state == .lockedOff then
      gaugeChange g (fun r => resumeRecord d (d.gaugeCfg g) { r with restarts := 0 }) d
    else d) d

/-! ## Current limit and over-current (R62, R63, R65) -/

/-- What a gauge remembers of its sweep when it stops being driven. -/
def GaugeRec.sweepMemory (r : GaugeRec) : Option Bool :=
  if r.state == .sweep then some (r.phase == some .done) else r.sweepDone

/-- Over-current confirmed: SHUTDOWN (R63). -/
def gaugeShutdown (g : Fin 6) (d : Dev) : Dev :=
  let old := d.gauge g
  let d := d.setGauge g { old with
    state := .shutdown, restartTimer := d.timerIn (ms 1000), holdTimer := none
    sweepDone := old.sweepMemory, phase := none, terminated := 0, clean := none, held := true }
  gaugeTell g old (fltReportIf (!old.held) 0x10 g.val true d)

/-- Load the duties of the position at the start of a period (R61). Log 27. -/
def loadDuties (g : Fin 6) (d : Dev) : Dev :=
  let r := d.gauge g
  if r.state.driven then
    d.setGauge g { r with pwm := some (r.sinDuty, r.cosDuty), sinEnded := false, cosEnded := false }
  else d

/-- The end of a terminated period (R62, R63, R65). -/
def periodTerminated (g : Fin 6) (d : Dev) : Dev :=
  let r := d.gauge g
  if 16 ≤ r.terminated + 1 then gaugeShutdown g d
  else d.setGauge g { r with terminated := r.terminated + 1, clean := r.clean.map fun _ => 0 }

/-- The end of a clean period (R62, R65). -/
def periodClean (g : Fin 6) (d : Dev) : Dev :=
  let r := d.gauge g
  match r.held, r.clean with
  | true, some n =>
    if 16 ≤ n + 1 then
      gaugeTell g r (fltReport 0x10 g.val false
        (d.setGauge g { r with terminated := 0, clean := none, held := false }))
    else d.setGauge g { r with terminated := 0, clean := some (n + 1) }
  | _, _ => d.setGauge g { r with terminated := 0 }

/-- The end of a PWM period of a driven gauge (R62); one of a gauge not driven is not counted. -/
def gaugePeriodEnd (g : Fin 6) (d : Dev) : Dev :=
  let r := d.gauge g
  if !r.state.driven then d
  else loadDuties g (if r.sinEnded || r.cosEnded then periodTerminated g d else periodClean g d)

/-- Whether a current ends the coil's pulse: a pulse still running past the 40 counts of blanking, and more
than 250 mA (R62). An excess at exactly 40 counts is still blanked. Log 52. -/
def endsPulse (r : GaugeRec) (coil : Coil) (milliamps counts : Nat) : Bool :=
  match r.pwm with
  | none => false
  | some (s, c) =>
    let duty := match coil with
      | .sin => s
      | .cos => c
    let ended := match coil with
      | .sin => r.sinEnded
      | .cos => r.cosEnded
    !ended && decide (40 < counts) && decide (counts < duty.natAbs) && decide (250 < milliamps)

/-- A pulse ended early (R62). -/
def endPulse (g : Fin 6) (coil : Coil) (d : Dev) : Dev :=
  match coil with
  | .sin => d.setGauge g { d.gauge g with sinEnded := true }
  | .cos => d.setGauge g { d.gauge g with cosEnded := true }

/-! ## Driver supply (R69, R70) -/

/-- The record of a gauge at driver supply off. -/
def supplyOffRecord (r : GaugeRec) : GaugeRec :=
  { r with
    state := .supplyOff, restartTimer := none, holdTimer := none, sweepDone := r.sweepMemory
    phase := none, terminated := 0, clean := r.clean.map fun _ => 0 }

def gauSupplyOff (d : Dev) : Dev :=
  forEach 6 (fun g d =>
    match (d.gauge g).state with
    | .sweep | .tracking | .invalid | .override | .shutdown => gaugeChange g supplyOffRecord d
    | .off | .lockedOff | .supplyOff => d) d

def gauSupplyOn (d : Dev) : Dev :=
  forEach 6 (fun g d => if (d.gauge g).state == .supplyOff then gaugeResume g d else d) d

/-! ## Overrides (R71, R72) -/

/-- An override set on a gauge in TRACKING, INVALID or OVERRIDE (R71). -/
def gaugeOverride (g : Fin 6) (angle : Int) (d : Dev) : Dev :=
  gaugeChange g (fun r => { r with overrideAngle := some angle, target := angle, state := .override }) d

/-- The end of an override (R72). -/
def endOverride (g : Fin 6) (d : Dev) : Dev :=
  gaugeChange g (fun r =>
    let r := { r with overrideAngle := none }
    if r.state == .override then deriveTarget d (d.gaugeCfg g) { r with target := r.position } else r) d

/-- Every override ends (R72). -/
def gauEndOverrides (d : Dev) : Dev :=
  forEach 6 (fun g d => if (d.gauge g).overrideAngle.isSome then endOverride g d else d) d

/-! ## Mode entries (R68, R73-R75) -/

/-- The mode leaves SWEEP for RUN (R68). -/
def gauEnterRun (d : Dev) : Dev :=
  forEach 6 (fun g d =>
    if (d.gauge g).state == .sweep then
      gaugeChange g (fun r =>
        deriveTarget d (d.gaugeCfg g) { r with phase := none, holdTimer := none }) d
    else d.setGauge g { d.gauge g with sweepDone := none }) d

/-- SAVING entry (R73). -/
def gauSaving (d : Dev) : Dev :=
  forEach 6 (fun g d =>
    if (d.gauge g).state.driven then
      gaugeChange g (fun r =>
        let c := d.gaugeCfg g
        { deriveTarget d c { r with phase := none, holdTimer := none, overrideAngle := none } with
          target := c.rest }) d
    else d.setGauge g { d.gauge g with sweepDone := none }) d

/-- Entry to RUN from SAVING (R74). -/
def gauReturn (d : Dev) : Dev :=
  let d := forEach 6 (fun g d => fltReportIf (d.gauge g).held 0x10 g.val true d) d
  forEach 6 (fun g d =>
    let c := d.gaugeCfg g
    match c.enabled, (d.gauge g).state with
    | true, .off | true, .tracking | true, .invalid =>
      gaugeChange g (fun r =>
        deriveTarget d c { r with clean := if r.held then some 0 else none }) d
    | _, _ => d) d

/-- STANDBY entry, and AWAITING_IMAGE entry with the restarts cleared (R75). -/
def gauStop (clearRestarts : Bool) (d : Dev) : Dev :=
  let d := forEach 6 (fun g d =>
    fltReportIf (d.gauge g).held 0x10 g.val false (d.setGauge g { d.gauge g with held := false })) d
  let stopped := d.gau.gauges.map fun r =>
    { GaugeRec.resetValue with
      position := r.position, target := r.target, sinDuty := r.sinDuty, cosDuty := r.cosDuty
      restarts := if clearRestarts then 0 else r.restarts }
  { d with gau := { gauges := stopped, timer := none } }

/-- A LOADING entry that begins an ignition cycle (R66). -/
def gauCycleBegin (d : Dev) : Dev :=
  { d with gau := { d.gau with gauges := d.gau.gauges.map fun r => { r with restarts := 0 } } }

end Sys2Proof.Machine
end

