-- ==== Sys2Proof/Machine/Doors.lean ====
section
/-! DEFINITION. DOR, the door supervisor (chapter 6): positions, release, the interlock and the
permits. -/

namespace Sys2Proof.Machine

/-! ## Position (R109) -/

def Dev.door (d : Dev) (i : Fin 4) : DoorRec := d.dor.doors[i]
def Dev.doorSettings (d : Dev) (i : Fin 4) : DoorCfg := d.dor.cfg.doors[i]

/-- Whether door `i` is configured (R108). -/
def configured (d : Dev) (i : Fin 4) : Bool := decide (i.val < d.dor.cfg.count)

/-- An optional channel that is configured and active. -/
def activeOpt (d : Dev) (c : Option Nat) : Bool :=
  match c with
  | some ch => (d.chan ch).isActive
  | none => false

/-- An optional channel that is absent, or GOOD and inactive: the kneel and ramp conditions (R123). -/
def inactiveOpt (d : Dev) (c : Option Nat) : Bool :=
  match c with
  | some ch => (d.chan ch).isInactive
  | none => true

/-- An optional channel that is configured and not GOOD. -/
def badOpt (d : Dev) (c : Option Nat) : Bool :=
  match c with
  | some ch => !(d.chan ch).isGood
  | none => false

/-- The position of a door from its member channels: the first line that holds (R109). -/
def derivePosition (d : Dev) (c : DoorCfg) : DoorPosition :=
  if !(d.chan c.closed).isGood || badOpt d c.emergency then .unknown
  else if activeOpt d c.emergency then .emergency
  else if activeOpt d c.obstruction && (d.chan c.closed).isInactive then .obstructed
  else if (d.chan c.closed).isInactive then .opened
  else if activeOpt d c.locked then .closedLocked
  else .closed

/-! ## Release (R111-R117) -/

/-- The door's speed is ok (R111). -/
def speedOk (d : Dev) (c : DoorCfg) : Bool :=
  d.dor.roadQuality == .good && decide (d.dor.roadInstant ≤ c.releaseSpeed)

/-- Entry to HELD: both timers stop, and a held fault clears when the door is shut (R117). -/
def enterHeld (r : DoorRec) : DoorRec :=
  { r with
    release := .held, holdTimer := none, closeTimer := none
    held := r.held && !r.position.shut }

/-- Entry to RELEASED. -/
def enterReleased (r : DoorRec) : DoorRec :=
  { r with release := .released, holdTimer := none, closeTimer := none }

/-- Entry to CLOSING: a door that is shut goes on at once to HELD (R116). -/
def enterClosing (d : Dev) (c : DoorCfg) (r : DoorRec) : DoorRec :=
  if r.position.shut then enterHeld r
  else { r with release := .closing, holdTimer := none, closeTimer := d.timerIn c.closeTimeout }

/-- A RELEASE request (R113-R117). -/
def releaseRequest (d : Dev) (c : DoorCfg) (r : DoorRec) : DoorRec :=
  match r.release with
  | .held =>
    if speedOk d c then enterReleased r
    else if 0 < c.holdTime then { r with release := .pending, holdTimer := d.timerIn c.holdTime }
    else r
  | .closing | .stuck => if speedOk d c then enterReleased r else r
  | .pending | .released => r

/-- A CLOSE request (R113-R117). -/
def closeRequest (d : Dev) (c : DoorCfg) (r : DoorRec) : DoorRec :=
  match r.release with
  | .pending => enterHeld r
  | .released => enterClosing d c r
  | .held | .closing | .stuck => r

/-- The road-speed response, with its cause (R114, R115). -/
def speedResponse (d : Dev) (c : DoorCfg) (r : DoorRec) : DoorRec × DoorCause :=
  match r.release with
  | .pending => if speedOk d c then (enterReleased r, .speedOk) else (r, .speedOk)
  | .released =>
    if speedOk d c then (r, .releaseWithdrawn) else (enterClosing d c r, .releaseWithdrawn)
  | .held | .closing | .stuck => (r, .speedOk)

/-- The release-state response to a position change already written (R116, R117). -/
def positionResponse (d : Dev) (c : DoorCfg) (r : DoorRec) : DoorRec :=
  match r.release with
  | .closing =>
    if r.position.shut then enterHeld r
    else if r.position == .obstructed then
      let r := { r with obstructions := bump 65535 r.obstructions }
      if speedOk d c then enterReleased r else r
    else r
  | .stuck => if r.position.shut then enterHeld r else r
  | .held | .pending | .released => r

/-- The positions that clear and refuse a passenger request (R120). -/
def DoorPosition.openToPassenger : DoorPosition → Bool
  | .opened | .obstructed => true
  | .unknown | .emergency | .closed | .closedLocked => false

/-- A derived position taken by a door, with the cause of the change (R110, R121). Log 19. -/
def takePosition (d : Dev) (c : DoorCfg) (r : DoorRec) : DoorRec × DoorCause :=
  let p := derivePosition d c
  if p = r.position then (r, .position)
  else
    let clears := p.openToPassenger && r.requestPending
    let r' := { r with position := p, requestPending := r.requestPending && !clears }
    (positionResponse d c r',
      if clears then .opened else if p == .obstructed then .obstruction else .position)

/-- A passenger request flip (R120). -/
def passengerRequest (r : DoorRec) : DoorRec :=
  if r.position.openToPassenger then r else { r with requestPending := true }

/-- Whether a channel is a member of a door: closed, locked, obstruction or emergency (R109). -/
def isMember (c : DoorCfg) (ch : Nat) : Bool :=
  c.closed == ch || c.locked == some ch || c.obstruction == some ch || c.emergency == some ch

/-- The later of two causes where the second step changed the record. -/
def thenCause (before after : DoorRec) (old new : DoorCause) : DoorCause :=
  if before = after then old else new

/-- What one channel update does to one door: position, close button, open button, passenger request, in
that order (R112). -/
def channelResponse (ch : Nat) (flipOn : Bool) (d : Dev) (c : DoorCfg) (r : DoorRec) :
    DoorRec × DoorCause :=
  let a := if isMember c ch then takePosition d c r else (r, .position)
  let b := if flipOn && c.closeButton == some ch then closeRequest d c a.1 else a.1
  let e := if flipOn && c.openButton == some ch then releaseRequest d c b else b
  let p := if flipOn && c.request == some ch then passengerRequest e else e
  (p, thenCause e p (thenCause b e (thenCause a.1 b a.2 .closeRequest) .releaseRequest)
    .passengerRequest)

/-! ## Completing a door change (R110, R121) -/

/-- The content of a DOOR_CHANGE notice (section 11.7). -/
def doorContent (d : Dev) (i : Fin 4) (cause : DoorCause) : List Byte :=
  let r := d.door i
  [byte i.val, byte r.position.code, byte r.release.code, flagByte r.requestPending] ++
    be16 r.obstructions ++ [flagByte r.held, byte cause.code]

def postDoor (i : Fin 4) (cause : DoorCause) (d : Dev) : Dev :=
  lnkPost .doorChange i.val (doorContent d i cause) d

/-- Write a door record, its RELEASE line with it: on while RELEASED in SWEEP, RUN or SERVICE (R119). -/
def Dev.setDoor (d : Dev) (i : Fin 4) (r : DoorRec) : Dev :=
  { d with dor := { d.dor with
      doors := d.dor.doors.set i { r with line := r.release == .released && d.mod.mode.active } } }

/-- Whether two records differ in what a DOOR_CHANGE notice is posted for (R121). -/
def doorDiffers (a b : DoorRec) : Bool :=
  a.position != b.position || a.release != b.release || a.requestPending != b.requestPending ||
    a.held != b.held

/-- A door's change completed: record, fault report, notice, door update (R110). -/
def doorComplete (i : Fin 4) (new : DoorRec) (cause : DoorCause) (d : Dev) : Dev :=
  let old := d.door i
  let d := d.setDoor i new
  let d := fltReportIf (new.held != old.held) 0x30 i.val new.held d
  if doorDiffers old new then wrnDoor i.val (postDoor i cause d) else d

/-! ## The interlock (R122-R125) -/

/-- The bypass channel is configured, GOOD and active. -/
def bypassActive (d : Dev) : Bool := activeOpt d d.dor.cfg.bypass

/-- A configured door meets the door condition (R122). -/
def doorShutAndHeld (d : Dev) (i : Fin 4) : Bool :=
  let r := d.door i
  (r.position.shut || (r.position == .unknown && bypassActive d)) && r.release == .held

/-- The door condition C (R122). -/
def doorCondition (d : Dev) : Bool :=
  (List.finRange 4).all fun i => !configured d i || doorShutAndHeld d i

/-- Bypass in use (R122). -/
def bypassInUse (d : Dev) : Bool :=
  bypassActive d && (List.finRange 4).any fun i => configured d i && (d.door i).position == .unknown

/-- What DRIVE_PERMIT is (R123). -/
def drivePermit (d : Dev) (c : Bool) : Bool :=
  c && d.mod.mode.drives && inactiveOpt d d.dor.cfg.kneel && inactiveOpt d d.dor.cfg.ramp

/-- The brake delay timer and BRAKE_RELEASE_PERMIT (R124): off without C or outside RUN and SERVICE; started
when C becomes true or RUN or SERVICE is entered from another mode; otherwise as they were. -/
def brakeStep (d : Dev) (c entered : Bool) (old : Interlock) : Timer × Bool :=
  if !(c && d.mod.mode.drives) then (none, false)
  else if old.doorCondition && !entered then (old.brakeTimer, old.brakePermit)
  else if d.dor.cfg.brakeDelay = 0 then (none, true)
  else (d.timerIn d.dor.cfg.brakeDelay, false)

/-- The content of an INTERLOCK_CHANGE notice (section 11.7). -/
def interlockContent (d : Dev) : List Byte :=
  let k := d.dor.interlock
  [flagByte k.doorCondition, flagByte k.drivePermit, flagByte k.brakePermit, flagByte k.bypass,
    flagByte k.brakeTimer.isSome]

def postInterlock (d : Dev) : Dev := lnkPost .interlockChange 0 (interlockContent d) d

/-- The interlock record as the doors, the channels and the mode give it. -/
def interlockNow (d : Dev) (entered : Bool) : Interlock :=
  let c := doorCondition d
  let b := brakeStep d c entered d.dor.interlock
  { doorCondition := c, bypass := bypassInUse d, bypassHeld := bypassInUse d
    drivePermit := drivePermit d c, brakePermit := b.2, brakeTimer := b.1 }

/-- Whether an interlock change is one that is told (R125). -/
def interlockDiffers (a b : Interlock) : Bool :=
  a.doorCondition != b.doorCondition || a.bypass != b.bypass || a.drivePermit != b.drivePermit ||
    a.brakePermit != b.brakePermit

def Dev.setInterlock (d : Dev) (k : Interlock) : Dev := { d with dor := { d.dor with interlock := k } }

/-- The interlock recomputed: record and outputs, report, notice, interlock update (R125). -/
def interlockRefresh (entered : Bool) (d : Dev) : Dev :=
  let old := d.dor.interlock
  let new := interlockNow d entered
  let d := d.setInterlock new
  let d := fltReportIf (new.bypassHeld != old.bypassHeld) 0x31 0 new.bypassHeld d
  if interlockDiffers old new then wrnInterlock (postInterlock d) else d

/-! ## Events at DOR -/

/-- Whether some door's position or release state differs between two states. -/
def doorsMoved (a b : Dev) : Bool :=
  (List.finRange 4).any fun i =>
    (a.door i).position != (b.door i).position || (a.door i).release != (b.door i).release

/-- An event at the configured doors, in ascending index, and at its end the interlock when a door moved
or the event bears on the interlock itself. -/
def doorEvent (interlock : Bool) (f : Fin 4 → DoorCfg → DoorRec → DoorRec × DoorCause) (d : Dev) : Dev :=
  let d' := forEach 4 (fun i e =>
    if configured e i then
      let t := f i (e.doorSettings i) (e.door i)
      if t.1 = e.door i then e else doorComplete i t.1 t.2 e
    else e) d
  if interlock || doorsMoved d d' then interlockRefresh false d' else d'

/-- An event at one door. -/
def doorEventAt (j : Fin 4) (f : DoorCfg → DoorRec → DoorRec × DoorCause) (d : Dev) : Dev :=
  doorEvent false (fun i c r => if i = j then f c r else (r, .position)) d

/-- DOR at a channel update; `flipOn` when it reports a flip to state 1. The update of channel 44 is the
road-speed update (R111). -/
def dorChannel (ch : Nat) (flipOn : Bool) (d : Dev) : Dev :=
  if ch = 44 then
    let d := { d with dor := { d.dor with
      roadQuality := (d.chan 44).quality, roadInstant := (d.chan 44).instant } }
    if d.dor.running then doorEvent false (fun _ c r => speedResponse d c r) d else d
  else if d.dor.running then
    let bears := d.dor.cfg.bypass == some ch || d.dor.cfg.kneel == some ch || d.dor.cfg.ramp == some ch
    doorEvent bears (fun _ c r => channelResponse ch flipOn d c r) d
  else d

/-- A RELEASE or CLOSE request for a door (R112). -/
def dorRelease (i : Fin 4) (d : Dev) : Dev :=
  doorEventAt i (fun c r => (releaseRequest d c r, .releaseRequest)) d

def dorClose (i : Fin 4) (d : Dev) : Dev :=
  doorEventAt i (fun c r => (closeRequest d c r, .closeRequest)) d

/-- The hold timer expires in PENDING (R114). -/
def dorHoldExpire (i : Fin 4) (d : Dev) : Dev :=
  doorEventAt i (fun _ r => (enterHeld r, .releaseExpired)) d

/-- The close timer expires in CLOSING (R117). -/
def dorCloseTimeout (i : Fin 4) (d : Dev) : Dev :=
  doorEventAt i (fun _ r =>
    ({ r with release := .stuck, closeTimer := none, held := true }, .closeTimeout)) d

/-- The brake delay timer expires: the permit goes high (R124). -/
def dorBrakeExpire (d : Dev) : Dev :=
  let d := d.setInterlock { d.dor.interlock with brakeTimer := none, brakePermit := true }
  wrnInterlock (postInterlock d)

/-! ## Starts, stops and mode entries (R126-R128) -/

/-- A configured door at a start, its position derived (R126). -/
def startDoor (d : Dev) (c : DoorCfg) (obstructions : Nat) : DoorRec :=
  { DoorRec.resetValue with position := derivePosition d c, obstructions := obstructions }

/-- DOR starts: settings, last road sample, doors and interlock, silently but for a permit that rises and
the updates for WRN (R126). -/
def dorStart (download : Bool) (d : Dev) : Dev :=
  let d := { d with dor := { d.dor with
    running := true, cfg := d.dorCfg, roadQuality := .notYet, roadInstant := 0 } }
  let d := forEach 4 (fun i e =>
    e.setDoor i (if configured e i then
      startDoor e (e.doorSettings i) (if download then 0 else (e.door i).obstructions)
    else DoorRec.resetValue)) d
  let d := d.setInterlock Interlock.resetValue
  let new := interlockNow d true
  let d := d.setInterlock new
  let d := fltReportIf new.bypassHeld 0x31 0 true d
  let d := if new.drivePermit || new.brakePermit then postInterlock d else d
  let d := forEach 4 (fun i e => if configured e i then wrnDoor i.val e else e) d
  wrnInterlock d

/-- The codes DOR holds present, reported absent (R127). -/
def dorReportAbsent (d : Dev) : Dev :=
  let s := d.dor
  let d := forEach 4 (fun i => fltReportIf s.doors[i].held 0x30 i.val false) d
  fltReportIf s.interlock.bypassHeld 0x31 0 false d

/-- A stopped door: HELD, timers stopped, request-pending clear, line off; the count kept (R127). -/
def stopDoor (forget : Bool) (r : DoorRec) : DoorRec :=
  { DoorRec.resetValue with
    position := if forget then .unknown else r.position, obstructions := r.obstructions }

/-- DOR stops, on entry to SAVING or, forgetting the positions, to AWAITING_IMAGE (R127). C is recomputed
from the doors as they stand, and the last road sample stays. Log 29, Log 54. -/
def dorStop (forget : Bool) (d : Dev) : Dev :=
  let d := dorReportAbsent d
  let d := { d with dor := { d.dor with running := false, doors := d.dor.doors.map (stopDoor forget) } }
  d.setInterlock { Interlock.resetValue with doorCondition := !forget && doorCondition d }

/-- STANDBY entry: DOR is stopped, the positions are UNKNOWN and the last road sample NOT_YET (R128, section 9.1).
Log 29. -/
def dorStandby (d : Dev) : Dev :=
  { d with dor := { d.dor with
      running := false
      doors := d.dor.doors.map (stopDoor true)
      interlock := Interlock.resetValue
      roadQuality := .notYet, roadInstant := 0 } }

/-- A LOADING entry that begins an ignition cycle (R128). -/
def dorCycleBegin (d : Dev) : Dev :=
  { d with dor := { d.dor with doors := d.dor.doors.map fun r => { r with obstructions := 0 } } }

end Sys2Proof.Machine
end

