-- ==== Sys2Proof/Machine/Supply.lean ====
section
/-! DEFINITION. MOD's changes of mode that keep the blocks running, the supply and thermal supervision
(sections 9.4, 9.6 and 9.8), and the channel update as its consumers take it. -/

namespace Sys2Proof.Machine

/-! ## Changes of mode (R169) -/

/-- A mode sent in a notice, 0xFF for none (R183). -/
def modeByte (m : Option Mode) : Byte := index8 (m.map Mode.code)

def modeContent (d : Dev) : List Byte :=
  [byte d.mod.mode.code, modeByte d.mod.previous, byte d.mod.cause.code]

/-- Posting a MODE_CHANGE. -/
def postMode (d : Dev) : Dev := lnkPost .modeChange 0 (modeContent d) d

/-- MOD writes the previous and the new mode and posts the notice (R169). -/
def modSet (m : Mode) (cause : ModeCause) (d : Dev) : Dev :=
  postMode { d with mod := { d.mod with mode := m, previous := some d.mod.mode, cause := cause } }

/-- SWEEP ends in RUN (R174): GAU, WRN and DOR take the entry. -/
def sweepToRun (d : Dev) : Dev :=
  let d := modSet .run .sweepDone d
  let d := { d with mod := { d.mod with bulb := .stopped } }
  interlockRefresh true (wrnEnterRun (gauEnterRun d))

/-- MOD leaves SWEEP at the first event at which the bulb-check timer has expired and the sweep is
complete (R174). -/
def modSweepCheck (d : Dev) : Dev :=
  if d.mod.mode == .sweep && d.mod.bulb == .expired && sweepComplete d then sweepToRun d else d

/-- SERVICE ends in RUN (R177): overrides, forces and the test request end in their blocks. -/
def serviceToRun (cause : ModeCause) (d : Dev) : Dev :=
  interlockRefresh false (wrnLeaveService (gauEndOverrides (modSet .run cause d)))

/-- SERVICE is entered from RUN (R176). -/
def runToService (d : Dev) : Dev := interlockRefresh false (modSet .service .serviceRequest d)

/-! ## Causes and the driver supply (R180, R181) -/

/-- Whether any cause is set. -/
def anyCause (d : Dev) : Bool := d.mod.undervolt || d.mod.overvolt || d.mod.overtemp

/-- The supply state the causes give (R181). -/
def nextSupply (d : Dev) : Supply :=
  if anyCause d then .off
  else match d.mod.supply with
    | .off => if d.autoRestore then .on else .waitingRestore
    | .on => .on
    | .waitingRestore => .waitingRestore

/-- The report of one cause: present when it is set and not held, absent when it has cleared (R180). -/
def causeReport (group : Nat) (was is held : Bool) (d : Dev) : Dev :=
  if !was && is then fltReportIf (!held) group 0 true d
  else if was && !is then fltReport group 0 false d
  else d

/-- What GAU and WRN are handed when the state moves from `old` (R181). -/
def handSupply (old : Supply) (d : Dev) : Dev :=
  match old, d.mod.supply with
  | .on, .off => wrnSupplyOff (gauSupplyOff d)
  | .off, .on | .waitingRestore, .on => wrnSupplyOn (gauSupplyOn d)
  | _, _ => d

/-- The causes have been judged, `old` being MOD's state before: state, reports, notice, supply event,
system update, in that order (R180, R181). Log 25. -/
def supplyApply (old : ModState) (d : Dev) : Dev :=
  let m := d.mod
  if m.undervolt = old.undervolt ∧ m.overvolt = old.overvolt ∧ m.overtemp = old.overtemp then d
  else
    let d := { d with mod := { m with
      supply := nextSupply d
      undervoltHeld := if m.undervolt = old.undervolt then m.undervoltHeld else m.undervolt
      overvoltHeld := if m.overvolt = old.overvolt then m.overvoltHeld else m.overvolt
      overtempHeld := if m.overtemp = old.overtemp then m.overtempHeld else m.overtemp } }
    let d := causeReport 0x40 old.undervolt m.undervolt old.undervoltHeld d
    let d := causeReport 0x41 old.overvolt m.overvolt old.overvoltHeld d
    let d := causeReport 0x44 old.overtemp m.overtemp old.overtempHeld d
    let d := handSupply old.supply (postSystem d)
    let d := if d.mod.supply != old.supply then wrnSystem .driverShutdown d else d
    modSweepCheck d

/-- What a GOOD BATT value does to the causes and the undervoltage timer (R180). -/
def judgeBattery (clock : Nat) (v : Int) (m : ModState) : ModState :=
  { m with
    undervolt := m.undervolt && decide (v < 1800)
    overvolt := if 3200 < v then true else m.overvolt && decide (3000 < v)
    uvTimer :=
      if 1600 ≤ v then none
      else if !m.undervolt && m.uvTimer.isNone then some (clock + ms 100) else m.uvTimer }

/-- What a GOOD DIET value does to OVERTEMP (R180). -/
def judgeDie (v : Int) (m : ModState) : ModState :=
  { m with overtemp := if 1600 ≤ v then true else m.overtemp && decide (1540 < v) }

/-- The causes judged at a channel update (R180). -/
def judgeCauses (ch : Nat) (d : Dev) : Dev :=
  let r := d.chan ch
  if !r.isGood then d
  else if ch = 40 then supplyApply d.mod { d with mod := judgeBattery d.clock r.value d.mod }
  else if ch = 42 then supplyApply d.mod { d with mod := judgeDie r.value d.mod }
  else d

/-- The undervoltage timer expires (R180). -/
def undervoltExpire (d : Dev) : Dev :=
  supplyApply d.mod { d with mod := { d.mod with undervolt := true, uvTimer := none } }

/-- The forced exits from SERVICE (R177). -/
def forcedExit (ch : Nat) (d : Dev) : Dev :=
  if d.mod.mode != .service then d
  else if ch = 44 then (if d.pls.standstill then d else serviceToRun .standstillLost d)
  else if d.parkingChannel == some ch && !(d.chan ch).isActive then serviceToRun .parkingBrake d
  else d

/-- MOD at a channel update. -/
def modChannel (ch : Nat) (d : Dev) : Dev := forcedExit ch (judgeCauses ch d)

/-- A channel update: GAU, WRN, DOR and MOD take it, `flipOn` when it reports a flip to state 1 (R19).
Log 5. -/
def chanUpdate (ch : Nat) (flipOn : Bool) (d : Dev) : Dev :=
  modChannel ch (dorChannel ch flipOn (wrnChannel ch flipOn (gauChannel ch d)))

/-- RESTORE_OUTPUTS accepted with no cause set (R182): the supply comes on from WAITING_RESTORE, then GAU and
WRN free what is locked off. -/
def restoreSupply (d : Dev) : Dev :=
  let old := d.mod.supply
  let d :=
    if old == .waitingRestore then
      wrnSystem .driverShutdown
        (handSupply old (postSystem { d with mod := { d.mod with supply := .on } }))
    else d
  modSweepCheck (wrnFree (gauFree d))

/-! ## Mode entries (R183) -/

/-- STANDBY and AWAITING_IMAGE entry: held codes reported absent, causes cleared, state ON. -/
def modClearSupply (d : Dev) : Dev :=
  let m := d.mod
  let d := fltReportIf m.undervoltHeld 0x40 0 false d
  let d := fltReportIf m.overvoltHeld 0x41 0 false d
  let d := fltReportIf m.overtempHeld 0x44 0 false d
  { d with mod := { d.mod with
      undervoltHeld := false, overvoltHeld := false, overtempHeld := false, uvTimer := none
      undervolt := false, overvolt := false, overtemp := false, supply := .on } }

/-- Entry to RUN from SAVING: the held codes reported present again. -/
def modReturn (d : Dev) : Dev :=
  let m := d.mod
  let d := fltReportIf m.undervoltHeld 0x40 0 true d
  let d := fltReportIf m.overvoltHeld 0x41 0 true d
  fltReportIf m.overtempHeld 0x44 0 true d

end Sys2Proof.Machine
end

