-- ==== Sys2Proof/Machine/Signals.lean ====
section
/-! DEFINITION. SIG, the signal conditioner (chapter 2): classification, persistence, filter, debounce,
age, and its starts and stops. -/

namespace Sys2Proof.Machine

/-! ## Notices (R21) -/

/-- The content of a CHANNEL_QUALITY notice (section 11.7). -/
def qualityContent (d : Dev) (ch : Nat) : List Byte :=
  [byte ch, byte (d.chan ch).quality.code] ++ beInt16 (d.chan ch).value

def postQuality (ch : Nat) (d : Dev) : Dev := lnkPost .channelQuality ch (qualityContent d ch) d

/-- Why a switch state changed, in the order of R21. -/
inductive SwitchCause where
  | flip | primed | substitute
deriving DecidableEq, Repr, Inhabited

def SwitchCause.code : SwitchCause → Nat
  | .flip => 0 | .primed => 1 | .substitute => 2

/-- Posting a SWITCH_CHANGE notice. -/
def postSwitch (ch : Nat) (cause : SwitchCause) (d : Dev) : Dev :=
  lnkPost .switchChange ch [byte ch, byte (d.chan ch).value.toNat, byte cause.code] d

/-! ## Correction and classification (R25-R27) -/

/-- The corrected code of a ratiometric channel (R25). -/
def correct (raw s : Nat) : Nat := min 4095 ((raw * 4000 + s / 2) / s)

/-- What an accepted result is: a fault candidate, or normal; for a SWITCH channel with its level. -/
inductive Classified where
  | candidate (f : WiringFault)
  | inRange
  | level (active : Bool)
deriving DecidableEq, Repr, Inhabited

/-- The classification of a corrected code and over-voltage flag (R26, R27). -/
def classify (c : PinCfg) (code : Nat) (overVoltage : Bool) : Classified :=
  if overVoltage then .candidate .shortSupply
  else if code < c.t1 then .candidate .wireLow
  else if c.t4 ≤ code then .candidate .wireHigh
  else if !c.switch then .inRange
  else if code < c.t2 then .level (!c.invert)
  else if code < c.t3 then .candidate .undefinedLevel
  else .level c.invert

/-! ## Persistence, use and healing (R28-R31, R33, R35, R36) -/

/-- What an accepted result leaves: the record, the reports in their order, the cause of a change of switch
state, and whether that was a flip to state 1. -/
structure Conditioned where
  record : ChanRec
  reports : List (WiringFault × Bool)
  switchCause : Option SwitchCause
  flipOn : Bool

/-- A level as a value. -/
def levelValue (b : Bool) : Int := if b then 1 else 0

/-- The cause of a change of switch state, if the value changed. -/
def changedBy (old new : Int) (cause : SwitchCause) : Option SwitchCause :=
  if old = new then none else some cause

/-- A used result of an ANALOG channel with curve value `y` (R33). -/
def useValue (k : Nat) (y : Int) (r : ChanRec) : ChanRec :=
  let acc := filterAcc r.primed k r.acc y
  { r with acc := acc, value := filterValue acc, instant := y, primed := true, stale := false,
           notYet := false }

/-- A used result of a SWITCH channel (R35, R36). -/
def useLevel (debounce : Nat) (b : Bool) (r : ChanRec) (reports : List (WiringFault × Bool)) :
    Conditioned :=
  let v := levelValue b
  let r := { r with instant := v, stale := false, notYet := false }
  if !r.primed then
    ⟨{ r with value := v, primed := true, debounce := 0 }, reports, changedBy r.value v .primed, false⟩
  else if v = r.value then ⟨{ r with debounce := 0 }, reports, none, false⟩
  else if debounce ≤ r.debounce + 1 then
    ⟨{ r with value := v, debounce := 0 }, reports, some .flip, b⟩
  else ⟨{ r with debounce := r.debounce + 1 }, reports, none, false⟩

/-- A normal result used (sections 2.6, 2.7). -/
def useResult (c : PinCfg) (k : Classified) (r : ChanRec) (reports : List (WiringFault × Bool)) :
    Conditioned :=
  match k with
  | .level b => useLevel c.debounce b r reports
  | .inRange | .candidate _ => ⟨useValue c.k (curve c.points r.corrected) r, reports, none, false⟩

/-- The pending count of a candidate (R28). -/
def pendingCount (r : ChanRec) (f : WiringFault) : Nat :=
  match r.pendingFault with
  | some (g, n) => if g = f then n + 1 else 1
  | none => 1

/-- Confirmation of a candidate, with the substitute policy (R29). -/
def confirmFault (c : PinCfg) (f : WiringFault) (r : ChanRec) : Conditioned :=
  let r' := { r with wiring := some f, pendingFault := none, heal := some 0 }
  if c.substitute then
    ⟨{ r' with value := c.default, instant := c.default }, [(f, true)],
      if c.switch then changedBy r.value c.default .substitute else none, false⟩
  else ⟨r', [(f, true)], none, false⟩

/-- A fault candidate (R28, R31). -/
def takeCandidate (c : PinCfg) (f : WiringFault) (r : ChanRec) : Conditioned :=
  let n := pendingCount r f
  match r.wiring with
  | none =>
    if c.setCount ≤ n then confirmFault c f r
    else ⟨{ r with pendingFault := some (f, n) }, [], none, false⟩
  | some x =>
    let r := { r with heal := some 0 }
    if f = x then ⟨{ r with pendingFault := none }, [], none, false⟩
    else if c.setCount ≤ n then
      ⟨{ r with wiring := some f, pendingFault := none }, [(x, false), (f, true)], none, false⟩
    else ⟨{ r with pendingFault := some (f, n) }, [], none, false⟩

/-- A normal result (R28, R30). -/
def takeNormal (c : PinCfg) (k : Classified) (r : ChanRec) : Conditioned :=
  let r := { r with pendingFault := none }
  match r.wiring with
  | none => useResult c k r []
  | some x =>
    let n := (r.heal.getD 0) + 1
    if c.healLimit ≤ n then
      useResult c k { r with wiring := none, heal := none, primed := false } [(x, false)]
    else ⟨{ r with heal := some n }, [], none, false⟩

/-- An accepted result of a sense pin with its corrected code (sections 2.4 to 2.7): the supply fault cause,
the age and the stale cause clear. -/
def acceptPin (c : PinCfg) (code : Nat) (overVoltage : Bool) (r : ChanRec) : Conditioned :=
  let r := { r with supplyFault := false, corrected := code, age := 0, stale := false }
  match classify c code overVoltage with
  | .candidate f => takeCandidate c f r
  | k => takeNormal c k r

/-- An accepted result of a SUPPLY channel (R34). -/
def acceptSupply (raw : Nat) (r : ChanRec) : ChanRec :=
  useValue 0 raw { r with corrected := raw, age := 0, stale := false }

/-! ## Completing an event at SIG (R19) -/

/-- A CHANNEL_QUALITY notice if the quality differs from an earlier one (R21). -/
def qualityIf (ch : Nat) (old : Quality) (d : Dev) : Dev :=
  if (d.chan ch).quality != old then postQuality ch d else d

/-- Record, reports, notices, channel update, in that order (R19). -/
def conditionComplete (ch : Nat) (out : Conditioned) (d : Dev) : Dev :=
  let old := (d.chan ch).quality
  let d := d.setChan ch out.record
  let d := out.reports.foldl (fun d p => fltReport p.1.group ch p.2 d) d
  let d := qualityIf ch old d
  let d := match out.switchCause with
    | some cause => postSwitch ch cause d
    | none => d
  chanUpdate ch out.flipOn d

/-- The sensor-supply judgement of an SSUP code (R24): the reference and the fault state. -/
def judgeSensorSupply (raw : Nat) (s : SigState) : SigState :=
  { s with refSsup := some raw, supplyFault := !(decide (3800 ≤ raw) && decide (raw ≤ 4200)) }

/-- A result of a SUPPLY channel, ADC fault clear (R24, R34). -/
def supplyResult (ch raw : Nat) (d : Dev) : Dev :=
  let old := (d.chan ch).quality
  let oldFault := d.sig.supplyFault
  let d := if ch = 41 then { d with sig := judgeSensorSupply raw d.sig } else d
  let d := d.setChan ch (acceptSupply raw (d.chan ch))
  let d :=
    if d.sig.supplyFault != oldFault then postSystem (fltReport 0x42 0 d.sig.supplyFault d) else d
  chanUpdate ch false (qualityIf ch old d)

/-- A result of a sense pin, ADC fault clear (R24, R25). -/
def pinResult (ch : Nat) (overVoltage : Bool) (d : Dev) : Dev :=
  let c := d.pinCfg ch
  let r := d.chan ch
  if !c.ratiometric then conditionComplete ch (acceptPin c r.raw overVoltage r) d
  else match d.sig.refSsup with
    | none => d
    | some s =>
      if d.sig.supplyFault then
        chanUpdate ch false (qualityIf ch r.quality (d.setChan ch { r with supplyFault := true }))
      else conditionComplete ch (acceptPin c (correct r.raw s) overVoltage r) d

/-- A result handed over by SEQ (R22-R25, R34): under ADC fault only its raw code is written. -/
def sigResult (ch raw : Nat) (overVoltage : Bool) (d : Dev) : Dev :=
  let d := d.setChan ch { d.chan ch with raw := raw }
  if (d.chan ch).adcFault then d
  else if 40 ≤ ch then supplyResult ch raw d
  else pinResult ch overVoltage d

/-! ## Events on many records -/

/-- A change of many records in one event: every record, then every quality notice, then every channel update,
each in ascending channel (R19, R22). Log 5. -/
def changeMany (n : Nat) (f : Nat → ChanRec → ChanRec) (updates : Nat → ChanRec → ChanRec → Bool) (d : Dev) :
    Dev :=
  let before := d
  let d := forEach n (fun i d => d.setChan i (f i (d.chan i))) d
  let after := d
  let d := forEach n (fun i => qualityIf i (before.chan i).quality) d
  forEach n (fun i d => if updates i (before.chan i) (after.chan i) then chanUpdate i false d else d) d

/-- SEQ tells SIG that ADC fault is set (R22). -/
def sigAdcSet (d : Dev) : Dev :=
  changeMany 44 (fun _ r => { r with
      adcFault := true, primed := false, debounce := 0, pendingFault := none
      heal := r.heal.map fun _ => 0 }) (fun _ _ _ => true)
    { d with sig := { d.sig with refSsup := none } }

/-- SEQ tells SIG that ADC fault is cleared (R22). -/
def sigAdcClear (d : Dev) : Dev :=
  changeMany 44 (fun _ r => { r with adcFault := false }) (fun _ _ _ => true) d

/-- One period's aging of a record (R37). -/
def ageRecord (r : ChanRec) : ChanRec :=
  let age := bump 255 r.age
  { r with age := age, stale := r.stale || age == 3 }

/-- A class expiry at SIG: the channels of the class age, and one that becomes stale is told (R37).
Log 20. -/
def sigAge (channels : List Nat) (d : Dev) : Dev :=
  changeMany 44 (fun i r => if channels.contains i then ageRecord r else r)
    (fun _ old new => old.stale != new.stale) d

/-! ## Initialisation and mode entries (R38-R41) -/

/-- The record of a channel 0-43 at initialisation (R38). -/
def initRecord (d : Dev) (ch : Nat) : ChanRec :=
  if 40 ≤ ch then { ChanRec.resetValue .supply with adcFault := d.seq.adcFault }
  else
    let c := d.pinCfg ch
    let v : Int :=
      if c.substitute then c.default
      else if c.switch then 0
      else match c.points with
        | p :: _ => p.2
        | [] => 0
    { ChanRec.resetValue (if c.switch then .switch else .analog) with
      value := v, instant := v, adcFault := d.seq.adcFault }

/-- SIG initialises records 0-43 from calibration RAM (R38). A quality it changes is told, as it is where ADC_FAULT
is held (R21); it gives no channel update and no SWITCH_CHANGE. Log 46. -/
def sigInit (d : Dev) : Dev :=
  let before := d
  let d := forEach 44 (fun i d => d.setChan i (initRecord d i)) d
  let d := { d with sig := { d.sig with refSsup := none, supplyFault := false } }
  forEach 44 (fun i => qualityIf i (before.chan i).quality) d

/-- Each wiring fault held confirmed, reported (R39, R40). -/
def sigReport (present : Bool) (d : Dev) : Dev :=
  let d := forEach 40 (fun i d =>
    match (d.chan i).wiring with
    | some f => fltReport f.group i present d
    | none => d) d
  fltReportIf d.sig.supplyFault 0x42 0 present d

/-- Entry to RUN from SAVING (R39). -/
def sigReturn (d : Dev) : Dev := sigReport true { d with sig := { d.sig with refSsup := none } }

/-- STANDBY and AWAITING_IMAGE entry (R40): reports, then the reset state of records 0-43. -/
def sigStop (d : Dev) : Dev :=
  let d := sigReport false d
  let d := forEach 44 (fun i d => d.setChan i (ChanRec.resetValue (resetKind i))) d
  { d with sig := { d.sig with refSsup := none, supplyFault := false } }

end Sys2Proof.Machine
end

