-- ==== Sys2Proof/Machine/Pulses.lean ====
section
/-! DEFINITION. PLS, the pulse unit (chapter 3): edges, speeds, standstill, distance, the odometer ring
and the ignition-cycle counter. -/

namespace Sys2Proof.Machine

/-! ## The two inputs -/

def Dev.pulse (d : Dev) : PulseInput → PulseState
  | .road => d.pls.road
  | .engine => d.pls.engine

def Dev.setPulse (d : Dev) (i : PulseInput) (p : PulseState) : Dev :=
  match i with
  | .road => { d with pls := { d.pls with road := p } }
  | .engine => { d with pls := { d.pls with engine := p } }

/-! ## Edges and distance (R42, R47) -/

/-- The interval from one timestamp to a later one, modulo 2^32 (section 3.1). -/
def interval (start stop : BitVec 32) : Nat := (stop - start).toNat

/-- Whether an edge is accepted (R42). -/
def edgeAccepted (c : PulseCfg) (p : PulseState) (stamp : BitVec 32) : Bool :=
  match p.lastEdge with
  | none => true
  | some e => decide (c.minPeriod ≤ interval e stamp)

/-- An accepted road edge advances frac and the distance; a whole kilometre asks for an odometer write
(R47). -/
def advanceDistance (ppk : Nat) (d : Dev) : Dev :=
  let frac := d.pls.frac + 100
  let distance := min 4294967295 (d.pls.distance + frac / ppk)
  let km := decide (d.pls.distance / 100 < distance / 100)
  let d := { d with pls := { d.pls with frac := frac % ppk, distance := distance } }
  if km then plsAskWrite d else d

/-- An accepted edge. -/
def acceptEdge (i : PulseInput) (stamp : BitVec 32) (d : Dev) : Dev :=
  let p := d.pulse i
  let d := d.setPulse i { p with lastEdge := some stamp, tLast := some stamp, count := p.count + 1 }
  match i with
  | .road => advanceDistance (d.pulseCfg .road).perUnit d
  | .engine => d

/-- A rising edge (R42). -/
def plsEdge (i : PulseInput) (stamp : BitVec 32) (d : Dev) : Dev :=
  if d.mod.mode.takesEdges && edgeAccepted (d.pulseCfg i) (d.pulse i) stamp then acceptEdge i stamp d
  else d

/-! ## The 10 ms update (R43-R46) -/

/-- The speed of a period of microseconds (R43). -/
def speedOf (i : PulseInput) (perUnit period : Nat) : Nat :=
  match i with
  | .road => min 2000 (roundDivNat 36000000000 (period * perUnit))
  | .engine => min 4000 (roundDivNat 60000000 (period * perUnit))

/-- What an update makes of the capture state, and what it does to standstill: `some true` set, `some false`
cleared, `none` as it was (R43, R44, R46). -/
def pulseStep (i : PulseInput) (c : PulseCfg) (now : BitVec 32) (p : PulseState) :
    PulseState × Option Bool :=
  if p.count = 0 then
    match p.lastEdge with
    | none => ({ p with raw := 0 }, none)
    | some e =>
      let silence := interval e now
      if c.standstill ≤ silence then ({ p with raw := 0, tRef := none, lastEdge := none }, some true)
      else ({ p with raw := min p.raw (speedOf i c.perUnit silence) }, none)
  else
    match p.tRef, p.tLast with
    | some ref, some last =>
      let raw := speedOf i c.perUnit (roundDivNat (interval ref last) p.count)
      ({ p with raw := raw, tRef := some last, count := 0 }, if 0 < raw then some false else none)
    | _, last => ({ p with tRef := last, count := 0 }, none)

/-- The record of a speed, published from raw (R45). -/
def publishSpeed (k : Nat) (raw : Nat) (r : ChanRec) : ChanRec := useValue k (raw : Nat) r

/-- Standstill set or cleared, with its notice at a change (R46). -/
def setStandstill (b : Bool) (d : Dev) : Dev :=
  if d.pls.standstill = b then d else postSystem { d with pls := { d.pls with standstill := b } }

/-- The update of one input (R43-R46): capture state, record, quality notice, standstill, channel update. -/
def plsUpdate (i : PulseInput) (d : Dev) : Dev :=
  let c := d.pulseCfg i
  let t := pulseStep i c d.counter (d.pulse i)
  let d := d.setPulse i { t.1 with timer := d.timerIn (ms 10) }
  let ch := pulseChannel i
  let old := (d.chan ch).quality
  let d := d.setChan ch (publishSpeed c.k t.1.raw (d.chan ch))
  let d := qualityIf ch old d
  let d := match i, t.2 with
    | .road, some b => setStandstill b d
    | .road, none | .engine, _ => d
  chanUpdate ch false d

/-! ## Initialisation (R52) -/

/-- The capture state of initialisation, with the update timer as given. -/
def pulseInit (timer : Timer) : PulseState := { PulseState.resetValue with timer := timer }

/-- Records 44 and 45, standstill and the capture state at the values of initialisation. -/
def plsClear (timer : Timer) (d : Dev) : Dev :=
  let d := { d with pls := { d.pls with
    road := pulseInit timer, engine := pulseInit timer, standstill := true } }
  (d.setChan 44 (ChanRec.resetValue .pulse)).setChan 45 (ChanRec.resetValue .pulse)

/-- PLS is initialised and its update timers start; after a committed download frac becomes 0
(R47, R52). -/
def plsInit (download : Bool) (d : Dev) : Dev :=
  let d := plsClear (d.timerIn (ms 10)) d
  if download then { d with pls := { d.pls with frac := 0 } } else d

/-- STANDBY, LOADING and AWAITING_IMAGE entry: the update timers stop (R52). -/
def plsStop (d : Dev) : Dev := plsClear none d

/-! ## The odometer ring and the cycle counter (R48, R49, R51) -/

/-- A slot of the ring that is valid: number, sequence, distance, cycles. -/
structure RingSlot where
  index : Nat
  seqNo : Nat
  distance : Nat
  cycles : Nat
deriving DecidableEq, Repr, Inhabited

/-- The valid slot among 16 bytes (R48, R197). -/
def ringSlot (i : Nat) (bs : List Byte) : Option RingSlot :=
  if (crc16 (bs.take 14)).toNat = be16At bs 14 then
    some ⟨i, be32At bs 0, be32At bs 4, be16At bs 8⟩
  else none

/-- The valid slots of the ring's 64 bytes. -/
def ringSlots (bs : List Byte) : List RingSlot :=
  (List.range 4).filterMap fun i => ringSlot i (fitBytes 16 (bs.drop (16 * i)))

/-- The valid slot with the highest sequence; of several that share it, one that is left open (R48).
Log 15. -/
def newestSlot (slots : List RingSlot) : Option RingSlot :=
  let top := slots.foldl (fun m s => max m s.seqNo) 0
  match slots.filter (·.seqNo == top) with
  | [] => none
  | [s] => some s
  | ties => ties[Config.ringTie (ties.map RingSlot.index) % ties.length]?

/-- PLS takes the ring (R48, R49). -/
def takeRing (slots : List RingSlot) (d : Dev) : Dev :=
  let p := d.pls
  let p := match newestSlot slots with
    | some s => { p with
        distance := max p.distance s.distance, cycles := max p.cycles s.cycles
        lastSlot := s.index, lastSeq := s.seqNo }
    | none => { p with lastSlot := 3, lastSeq := 0 }
  { d with pls := { p with
      ringTaken := true
      cycles := if p.cycleOwed then bump 65535 p.cycles else p.cycles
      cycleOwed := false } }

/-- A LOADING entry that begins an ignition cycle (R49). -/
def plsCycleBegin (d : Dev) : Dev :=
  if d.pls.ringTaken then { d with pls := { d.pls with cycles := bump 65535 d.pls.cycles } }
  else { d with pls := { d.pls with cycleOwed := true } }

/-- The odometer job completes (R51). -/
def odometerDone (ok : Bool) (d : Dev) : Dev :=
  let p := d.pls
  let p := if ok then { p with lastSlot := (p.lastSlot + 1) % 4, lastSeq := nextSequence p.lastSeq } else p
  { d with pls := { p with
      odoJob := if !ok || p.writeOwed then .queued else .none
      writeOwed := false } }

end Sys2Proof.Machine
end

