-- ==== Sys2Proof/Machine/Sequencer.lean ====
section
/-! DEFINITION. SEQ, the conversion sequencer (chapter 1). -/

namespace Sys2Proof.Machine

/-! ## Classes -/

def Dev.scan (d : Dev) : ScanClass → ClassState
  | .fast => d.seq.fast
  | .medium => d.seq.medium
  | .slow => d.seq.slow

def Dev.setScan (d : Dev) (cls : ScanClass) (c : ClassState) : Dev :=
  match cls with
  | .fast => { d with seq := { d.seq with fast := c } }
  | .medium => { d with seq := { d.seq with medium := c } }
  | .slow => { d with seq := { d.seq with slow := c } }

/-- The period of a class in microseconds (section 1.3). -/
def classPeriod : ScanClass → Nat
  | .fast => ms 10
  | .medium => ms 50
  | .slow => ms 250

/-- The index of a class in its fault code 0x61cc (section 1.3). -/
def classIndex : ScanClass → Nat
  | .fast => 0 | .medium => 1 | .slow => 2

/-! ## Granting the converter (R8, R9) -/

def setConverter (c : Converter) (d : Dev) : Dev := { d with seq := { d.seq with converter := c } }

/-- The oldest unconverted entry of the on-demand list. -/
def nextOnDemand (d : Dev) : Option DemandEntry := d.seq.onDemand.find? (·.result.isNone)

/-- The next conversion of a class, if its scan is unfinished. -/
def scanNext (d : Dev) (cls : ScanClass) : Option (Nat × Source) :=
  (d.scan cls).position.map fun ch => (ch, .scan cls)

/-- The highest pending source, in the order FAST, MEDIUM, SLOW, ON_DEMAND (R8). -/
def nextConversion (d : Dev) : Option (Nat × Source) :=
  (scanNext d .fast).orElse fun _ =>
    (scanNext d .medium).orElse fun _ =>
      (scanNext d .slow).orElse fun _ => (nextOnDemand d).map fun e => (e.channel, .onDemand)

/-- A grant: the channel is selected with its bias and range and settles, or the converter is IDLE (R8, R9). -/
def seqGrant (d : Dev) : Dev :=
  match nextConversion d with
  | some (ch, src) =>
    setConverter (.settling ⟨ch, src, d.chanBias ch, d.chanRange ch⟩ (d.clock + d.settleTime ch)) d
  | none => setConverter .idle d

/-- The grant made when a request is raised: only to an IDLE converter (R8). -/
def seqGrantIfIdle (d : Dev) : Dev := if d.seq.converter = .idle then seqGrant d else d

/-! ## Scans (R4-R7) -/

/-- A scan is complete and judged (R7). -/
def scanComplete (cls : ScanClass) (d : Dev) : Dev :=
  let c := d.scan cls
  let onTime := if c.late then 0 else bump 10 c.onTime
  let clears := onTime == 10 && c.held
  let d := d.setScan cls { c with
    request := false, position := none, onTime := onTime, held := c.held && !clears }
  fltReportIf clears 0x61 (classIndex cls) false d

/-- A scan request is raised; of an empty class it is complete at once (R4, R5). -/
def raiseScan (cls : ScanClass) (d : Dev) : Dev :=
  let c := d.scan cls
  match c.set with
  | [] => scanComplete cls (d.setScan cls { c with late := false })
  | ch :: _ => d.setScan cls { c with request := true, position := some ch, late := false }

/-- An expiry finds the scan unfinished (R6). -/
def scanOverrun (cls : ScanClass) (d : Dev) : Dev :=
  let c := d.scan cls
  fltReportIf (!c.held) 0x61 (classIndex cls) true
    (d.setScan cls { c with
      overruns := bump 255 c.overruns, late := true, onTime := 0, held := true })

/-- Whether the period timer of a class whose scan is finished has run out and its expiry, which raises the next
request, has still to be taken. -/
def expiryDue (d : Dev) : Bool :=
  [ScanClass.fast, .medium, .slow].any fun cls =>
    let c := d.scan cls
    !c.request && match c.timer with
      | some t => decide (t ≤ d.clock)
      | none => false

/-- The grant that follows an expiry: of the expiries that fall together the last makes it, so that it serves
the pending classes by priority whichever was taken first (R5). Log 45. -/
def grantAfterExpiry (d : Dev) : Dev := if expiryDue d then d else seqGrantIfIdle d

/-- A period timer expires (R5): it restarts, SIG ages the class, and a request or an overrun follows. -/
def scanExpire (cls : ScanClass) (d : Dev) : Dev :=
  let d := d.setScan cls { d.scan cls with timer := d.timerIn (classPeriod cls) }
  let d := sigAge (d.scan cls).set d
  if (d.scan cls).request then scanOverrun cls d else grantAfterExpiry (raiseScan cls d)

/-- The channel of a set after one of its channels (R4). -/
def nextInSet (set : List Nat) (ch : Nat) : Option Nat := ((set.dropWhile (· != ch)).drop 1).head?

/-- The scan position advances past a converted channel, or the scan completes (R9). -/
def advanceScan (cls : ScanClass) (ch : Nat) (d : Dev) : Dev :=
  match nextInSet (d.scan cls).set ch with
  | some next => d.setScan cls { d.scan cls with position := some next }
  | none => scanComplete cls d

/-! ## The reference check (R15, R16) -/

/-- A REFCHK code within tolerance. -/
def goodReference (code : Nat) : Bool := decide (1980 ≤ code) && decide (code ≤ 2020)

/-- The ADC fault judgement of a REFCHK result of a SLOW scan. -/
def judgeReference (code : Nat) (d : Dev) : Dev :=
  if goodReference code then
    if d.seq.adcFault then
      if 3 ≤ d.seq.goodRefs + 1 then
        let d := { d with seq := { d.seq with adcFault := false, goodRefs := 0 } }
        wrnSystem .adcFault (postSystem (sigAdcClear (fltReport 0x43 0 false d)))
      else { d with seq := { d.seq with goodRefs := d.seq.goodRefs + 1 } }
    else d
  else if d.seq.adcFault then { d with seq := { d.seq with goodRefs := 0 } }
  else
    let d := { d with seq := { d.seq with adcFault := true, goodRefs := 0 } }
    wrnSystem .adcFault (postSystem (sigAdcSet (fltReport 0x43 0 true d)))

/-! ## Conversions (R9, R10, R14) -/

/-- A scan result delivered: for REFCHK the judgement first (R10). -/
def deliverScan (cls : ScanClass) (ch : Nat) (r : Nat × Bool) (d : Dev) : Dev :=
  let d := if ch = 43 && cls == .slow then judgeReference r.1 d else d
  advanceScan cls ch (sigResult ch r.1 r.2 d)

/-- The reply of a SAMPLE_NOW (R14, section 11.6). -/
def sampleReply (d : Dev) (entries : List DemandEntry) : List Byte :=
  okReply (flagByte d.seq.adcFault :: byte entries.length ::
    entries.flatMap fun e =>
      let r := e.result.getD (0, false)
      byte e.channel :: (be16 r.1 ++ [flagByte r.2]))

/-- The oldest unconverted entry given its result, with the entry as it then is. -/
def fillEntry (r : Nat × Bool) : List DemandEntry → List DemandEntry × Option DemandEntry
  | [] => ([], none)
  | e :: rest =>
    if e.result.isNone then
      let e' := { e with result := some r }
      (e' :: rest, some e')
    else
      let t := fillEntry r rest
      (e :: t.1, t.2)

/-- An on-demand result stored; the last entry of a request brings its reply and its entries leave (R14). -/
def deliverOnDemand (r : Nat × Bool) (d : Dev) : Dev :=
  let t := fillEntry r d.seq.onDemand
  let d := { d with seq := { d.seq with onDemand := t.1 } }
  match t.2 with
  | none => d
  | some e =>
    let mine := d.seq.onDemand.filter (·.tag == e.tag)
    if mine.all (·.result.isSome) then
      lnkAnswer e.tag (sampleReply d mine)
        { d with seq := { d.seq with onDemand := d.seq.onDemand.filter (·.tag != e.tag) } }
    else d

/-- The conversion in progress completes: bias disconnected, result delivered, next grant (R9). -/
def seqComplete (c : Conversion) (sample peak : Int) (d : Dev) : Dev :=
  let r := conversionResult c sample peak
  let d := setConverter .idle d
  seqGrant (match c.source with
    | .scan cls => deliverScan cls c.channel r d
    | .onDemand => deliverOnDemand r d)

/-! ## Starts and stops (R5, R11-R13, R17) -/

/-- A conversion is aborted (R11). -/
def seqAbort (d : Dev) : Dev :=
  match d.seq.converter with
  | .settling _ _ | .converting _ _ => setConverter (.recovering (d.clock + 50)) d
  | .idle | .recovering _ => d

/-- Every SAMPLE_NOW still in the list is answered REFUSED_MODE and the list emptied (R13). -/
def seqRefuseAll (d : Dev) : Dev :=
  let tags := (d.seq.onDemand.map DemandEntry.tag).eraseDups
  tags.foldl (fun d t => lnkAnswer t (statusReply .refusedMode) d)
    { d with seq := { d.seq with onDemand := [] } }

/-- A class of a stopped SEQ (R12). -/
def stopClass (c : ClassState) : ClassState :=
  { c with timer := none, request := false, position := none, late := false }

/-- SEQ stops on leaving SWEEP, RUN and SERVICE (R11-R13). -/
def seqStop (d : Dev) : Dev :=
  let d := seqAbort d
  let s := d.seq
  seqRefuseAll { d with seq := { s with
    fast := stopClass s.fast, medium := stopClass s.medium, slow := stopClass s.slow } }

/-- The faults SEQ holds present, reported (R12, R17). -/
def seqReport (present : Bool) (d : Dev) : Dev :=
  let s := d.seq
  let d := fltReportIf s.adcFault 0x43 0 present d
  let d := fltReportIf s.fast.held 0x61 0 present d
  let d := fltReportIf s.medium.held 0x61 1 present d
  fltReportIf s.slow.held 0x61 2 present d

/-- A class at a start: its set from calibration RAM, its timer running (R4, R5). -/
def startClass (cls : ScanClass) (d : Dev) : Dev :=
  d.setScan cls { d.scan cls with timer := d.timerIn (classPeriod cls), set := d.scanSet cls }

/-- SEQ starts (R5, R12): held faults reported again, then the timers, the three requests and the grant. -/
def seqStart (d : Dev) : Dev :=
  let d := seqReport true d
  let d := startClass .slow (startClass .medium (startClass .fast d))
  seqGrantIfIdle (raiseScan .slow (raiseScan .medium (raiseScan .fast d)))

/-- STANDBY entry (R17): held faults reported absent, then the reset values, the converter as it is. -/
def seqStandby (d : Dev) : Dev :=
  let d := seqReport false d
  { d with seq := { SeqState.resetAt d.clock with converter := d.seq.converter } }

end Sys2Proof.Machine
end

