-- ==== Sys2Proof/Machine/Modes.lean ====
section
/-! DEFINITION. The storage conditions (R156), what the loader hands over (R147), the mode entries of
every block (chapter 9) and the loader's steps (R158). -/

namespace Sys2Proof.Machine

/-! ## Storage conditions (R156) -/

/-- The three fault conditions of STO. -/
inductive StorageCond where
  | absent | writeFailed | unstored
deriving DecidableEq, Repr, Inhabited

/-- The fault group of a condition: 0x5000, 0x5100, 0x5200. -/
def StorageCond.group : StorageCond → Nat
  | .absent => 0x50 | .writeFailed => 0x51 | .unstored => 0x52

/-- The WRN item that follows a condition's code. -/
def StorageCond.item : StorageCond → Condition
  | .absent | .writeFailed => .storageFault
  | .unstored => .calFromHost

def condOf (s : StoState) : StorageCond → Bool
  | .absent => s.absentCond | .writeFailed => s.writeFailedCond | .unstored => s.unstoredCond

def heldOf (s : StoState) : StorageCond → Bool
  | .absent => s.absentHeld | .writeFailed => s.writeFailedHeld | .unstored => s.unstoredHeld

def setCond (k : StorageCond) (b : Bool) (d : Dev) : Dev :=
  match k with
  | .absent => { d with sto := { d.sto with absentCond := b } }
  | .writeFailed => { d with sto := { d.sto with writeFailedCond := b } }
  | .unstored => { d with sto := { d.sto with unstoredCond := b } }

def setHeld (k : StorageCond) (b : Bool) (d : Dev) : Dev :=
  match k with
  | .absent => { d with sto := { d.sto with absentHeld := b } }
  | .writeFailed => { d with sto := { d.sto with writeFailedHeld := b } }
  | .unstored => { d with sto := { d.sto with unstoredHeld := b } }

/-- A held flag made `b`: a change is reported, posted and given to WRN. -/
def changeHeld (k : StorageCond) (b : Bool) (d : Dev) : Dev :=
  if heldOf d.sto k = b then d
  else wrnSystem k.item (postSystem (fltReport k.group 0 b (setHeld k b d)))

/-- A condition made `b`; outside STANDBY its held flag follows in the same event. -/
def stoCondition (k : StorageCond) (b : Bool) (d : Dev) : Dev :=
  let d := setCond k b d
  if d.mod.mode == .standby then d else changeHeld k b d

/-- The three conditions in the order of R156. -/
def allConds : List StorageCond := [.absent, .writeFailed, .unstored]

/-- STANDBY entry: each held code is reported absent and the conditions are kept. -/
def stoStandby (d : Dev) : Dev := allConds.foldl (fun d k => changeHeld k false d) d

/-- LOADING entry: each code whose condition holds is reported present. -/
def stoLoading (d : Dev) : Dev :=
  allConds.foldl (fun d k => if condOf d.sto k then changeHeld k true d else d) d

/-- Entry to RUN from SAVING: each code held is reported present again. -/
def stoReturn (d : Dev) : Dev :=
  allConds.foldl (fun d k => fltReportIf (heldOf d.sto k) k.group 0 true d) d

/-! ## The fault slots taken (R147) -/

/-- The record stored in a fault slot (section 11.8), loaded as PASSIVE. -/
def storedRecord (bs : List Byte) : FaultRec where
  code := BitVec.ofNat 16 (be16At bs 0)
  active := false
  severity := severityOf (byteAt bs 3)
  occurrences := byteAt bs 4
  aging := byteAt bs 5
  firstDistance := be32At bs 6
  lastDistance := be32At bs 10
  firstCycle := be16At bs 14
  lastCycle := be16At bs 16
  frame := if byteAt bs 18 = 2 then .stored else .absent
  frameLost := flagOf (byteAt bs 19)

/-- One stored slot taken, `none` being a slot of a failed read (R147, R159). -/
def takeSlot (i : Fin 40) (stored : Option (List Byte)) (d : Dev) : Dev :=
  match stored with
  | none => d
  | some bs =>
    if (crc16 (bs.take 30)).toNat != be16At bs 30 then d.setSlot i { d.slot i with dirty := true }
    else if be16At bs 0 = 0 then d
    else if (findCode d (BitVec.ofNat 16 (be16At bs 0))).isSome then
      d.setSlot i { d.slot i with dirty := true }
    else if (d.slot i).record.isSome then d.setSlot i { d.slot i with dirty := true }
    else d.setSlot i ⟨some (storedRecord bs), false⟩

/-- The dirty slots in ascending order. -/
def dirtySlots (d : Dev) : List (Fin 40) := (List.finRange 40).filter fun i => (d.slot i).dirty

/-- FLT takes the 40 slots read from storage (R147). -/
def takeSlots (stored : List (Option (List Byte))) (d : Dev) : Dev :=
  let d := forEach 40 (fun i => takeSlot i ((stored.getD i.val none))) d
  stoGrant { d with flt := { d.flt with slotsTaken := true, persistent := true, queue := dirtySlots d } }

/-- FLT takes the slots as all empty, storage being absent (R147, R155). -/
def takeNoSlots (d : Dev) : Dev := { d with flt := { d.flt with slotsTaken := true } }

/-! ## Mode entries of the link (R194) -/

/-- STANDBY entry. -/
def lnkStandby (d : Dev) : Dev :=
  let wasLost := d.lnk.lost
  let d := { d with lnk := { d.lnk with
    assembly := none, gapTimer := none, timer := none, mask := 0#8, notices := [], overflow := false
    lost := false, held := false } }
  if wasLost then wrnLinkBack (fltReport 0x60 0 false d) else d

/-! ## Entries to the running modes -/

/-- SWEEP entry (R174): every block starts from the image, SEQ last. Log 5. -/
def enterSweep (cause : ModeCause) (d : Dev) : Dev :=
  let d := modSet .sweep cause d
  let d := { d with mod := { d.mod with bulb := .running (d.clock + d.bulbTime) } }
  let d := gauInit true (plsInit false (sigInit d))
  let d := wrnStart (dorStart false (fltReadSettings d))
  seqStart (lnkStartTimer d)

/-- RUN entry after a committed download or a passing CAL_ABORT, origin SERVICE (R173). Log 5. -/
def enterRunFresh (cause : ModeCause) (d : Dev) : Dev :=
  let d := modSet .run cause d
  let d := gauInit false (plsInit true (sigInit d))
  let d := wrnStart (dorStart true (fltReadSettings d))
  seqStart (lnkStartTimer d)

/-- RUN entry from SAVING with the ignition back (R175). Log 5. -/
def enterRunReturned (d : Dev) : Dev :=
  let d := modSet .run .ignitionReturned d
  let d := stoReturn (gauReturn (sigReturn (modReturn d)))
  let d := lnkStartTimer (fltReportIf d.lnk.held 0x60 0 true d)
  seqStart (wrnStart (dorStart false d))

/-- The mode a passing commit or abort leads to (R173). -/
def enterByOrigin (cause : ModeCause) (d : Dev) : Dev :=
  match d.cal.origin with
  | .loading => enterSweep cause d
  | .service => enterRunFresh cause d

/-- AWAITING_IMAGE entry: the blocks that read calibration stop (R12, R40, R52, R75, R106, R127, R183,
R194). An override that ends here is told by its GAUGE_CHANGE notice (R72) before the entry of R75, which posts
none. Log 5, Log 48. -/
def enterAwaiting (cause : ModeCause) (d : Dev) : Dev :=
  let d := modSet .awaitingImage cause d
  let d := dorStop true (wrnStop (gauEndOverrides d))
  let d := plsStop (sigStop (seqStop d))
  lnkStopTimer (modClearSupply (gauStop true d))

/-! ## The loader (R158) -/

/-- The loader's next job joins its queue. -/
def loaderQueue (st : LoaderState) (index : Nat) (op : JobOp) (d : Dev) : Dev :=
  stoGrant { d with sto := { d.sto with
    loader := { d.sto.loader with state := st, index := index, queued := some op } } }

/-- The loader is IDLE. -/
def loaderIdle (d : Dev) : Dev := { d with sto := { d.sto with loader := Loader.resetValue } }

/-- Loading has ended (R172). -/
def loadingEnded (d : Dev) : Dev :=
  let d := loaderIdle d
  if d.cal.valid then enterSweep .imageLoaded d
  else enterAwaiting .noImage { d with cal := { d.cal with origin := .loading } }

/-- Step 4: the fault slots. -/
def loaderSlots (d : Dev) : Dev :=
  if !d.flt.slotsTaken && d.sto.storage == .present then
    loaderQueue .readingSlots 0 (.read 0x4100 128)
      { d with sto := { d.sto with loader := { d.sto.loader with slots := [] } } }
  else loadingEnded d

/-- Step 3: the ring. -/
def loaderRing (d : Dev) : Dev :=
  if !d.pls.ringTaken && d.sto.storage == .present then loaderQueue .readingRing 0 (.read 0x4000 64) d
  else loaderSlots d

/-- A pending image store is withdrawn (R164). -/
def withdrawStore (d : Dev) : Dev :=
  { d with sto := { d.sto with storePage := none, storeQueued := false } }

/-- Step 2: the image. -/
def loaderImage (d : Dev) : Dev :=
  let d :=
    if d.cal.valid && !d.bodyCrcOk then withdrawStore { d with cal := { d.cal with valid := false } }
    else d
  if !d.cal.valid && d.sto.storage == .present then loaderQueue .fetchingHeader 0 (.read 0 16) d
  else loaderRing d

/-- The loader starts: step 1, the probe, while the storage state is UNPROBED. -/
def loaderStart (d : Dev) : Dev :=
  if d.sto.storage == .unprobed then loaderQueue .probing 0 .probe d else loaderImage d

/-! ## LOADING, STANDBY and SAVING -/

/-- What the blocks do at a LOADING entry already written, `begins` when it begins an ignition cycle (R49,
R66, R128, R156, R158). The cycle begins before STO's reports, which stamp their records with it. Log 58. -/
def beginLoading (begins : Bool) (d : Dev) : Dev :=
  let d := plsStop d
  let d := if begins then dorCycleBegin (gauCycleBegin (plsCycleBegin d)) else d
  loaderStart (stoLoading d)

/-- LOADING entry from STANDBY (R171). -/
def enterLoading (d : Dev) : Dev := beginLoading true (modSet .loading .ignitionOn d)

/-- STANDBY entry: the reporters report their faults absent, the blocks clear their state and the receiver
turns off (R17, R40, R52, R75, R128, R156, R183, R194); with the ignition on, LOADING follows at once
(R169). Log 5. -/
def enterStandby (cause : ModeCause) (d : Dev) : Dev :=
  let d := modSet .standby cause d
  let d := plsStop (sigStop (seqStandby d))
  let d := modClearSupply (dorStandby (gauStop false d))
  let d := lnkStandby (stoStandby d)
  if d.mod.ignition then enterLoading d else d

/-! ## The flush and the soft reset (R175, R178, R179) -/

/-- The flush is empty (R175). -/
def flushEmpty (d : Dev) : Bool :=
  d.sto.job.isNone && !groupHolds d highOrder && !groupHolds d lowOrder && d.lnk.requests.isEmpty &&
    d.lnk.replies.isEmpty

/-- The requests still deferred when a soft reset's flush ends by its timer are answered (R188). -/
def answerDeferred (d : Dev) : Dev :=
  (d.lnk.requests.filter (·.deferred)).foldl (fun d r =>
    lnkAnswer r.tag (statusReply (if r.kind = 0x0E#8 then .storageFailed else .refusedCondition)) d) d

/-- The part with every block in its soft-reset state, the mode still to be entered (R17, R41, R53, R77, R106,
R128, R148, R168, R183, R194). -/
def softResetState (d : Dev) : Dev :=
  { clock := d.clock
    seq := SeqState.resetAt d.clock
    sig := SigState.resetValue
    pls := { PlsState.resetValue with
      distance := d.pls.distance, frac := d.pls.frac, cycles := d.pls.cycles
      cycleOwed := d.pls.cycleOwed }
    gau := GauState.resetValue
    wrn := { wrnCleared d.wrn with linkLost := false }
    dor := DorState.resetValue
    flt := { FltState.resetValue with
      cycleAged := d.flt.cycleAged, agingLimit := d.flt.agingLimit
      frameChannels := d.flt.frameChannels }
    sto := StoState.resetValue
    cal := CalState.resetWith d.cal.ram
    mod := { ModState.resetWith d.mod.ignPin with
      previous := some d.mod.mode, cause := .hostRequest, resetCause := .hostRequest
      ignition := d.mod.ignition, debounceTimer := d.mod.debounceTimer }
    lnk := LnkState.resetValue }

/-- The first mode after a reset: LOADING with the debounced ignition on, STANDBY otherwise (R172). -/
def firstMode (begins : Bool) (d : Dev) : Dev :=
  if d.mod.ignition then
    beginLoading begins (postMode { d with mod := { d.mod with mode := .loading } })
  else postMode d

/-- The soft reset takes place (R179). -/
def softReset (d : Dev) : Dev := firstMode false (softResetState d)

/-- A power-on reset (R172, R183). -/
def powerOn (pin : Bool) : Dev := firstMode true (Dev.resetWith pin)

/-- The flush ends, `limit` by its timer (R175, R179). The record that the ignition has returned is cleared by the
return. Log 59. -/
def flushEnd (limit : Bool) (d : Dev) : Dev :=
  let d := { d with mod := { d.mod with flush := .none, flushTimer := none } }
  if d.mod.resetPending then softReset (if limit then answerDeferred d else d)
  else if d.mod.returned then enterRunReturned { d with mod := { d.mod with returned := false } }
  else enterStandby (if limit then .flushLimit else .flushDone) d

/-- MOD judges the flush (R175). -/
def flushJudge (d : Dev) : Dev :=
  if d.mod.flush != .none && flushEmpty d then flushEnd false d else d

/-- SAVING entry (R175): flush, then the blocks' entry effects, then the first judgement. Log 5. -/
def enterSaving (d : Dev) : Dev :=
  let d := modSet .saving .ignitionOff d
  let d := { d with mod := { d.mod with
    flush := .saving, flushTimer := d.timerIn (ms 5000), returned := false, bulb := .stopped
    uvTimer := none } }
  let d := seqStop (dorStop false (wrnStop (gauEndOverrides d)))
  let d := fltSaving (plsAskWrite (gauSaving d))
  flushJudge (lnkStopTimer d)

/-! ## Stopping the loader (R159) -/

/-- Whether the job in flight is the loader's. -/
def loaderInFlight (d : Dev) : Bool :=
  match d.sto.job with
  | some j => j.requester == .loader
  | none => false

/-- A CAL_ABORT being served is answered IMAGE_REJECTED with HEADER, entry 0 (R165). -/
def rejectAbort (d : Dev) : Dev :=
  match d.sto.loader.abortTag with
  | some tag => lnkAnswer tag (rejectedReply 0 0) d
  | none => d

/-- The loader withdraws its queued job; with a job in flight it waits for its completion, and otherwise it is
IDLE at once. -/
def stopLoader (why : LoaderStop) (d : Dev) : Dev :=
  let d := rejectAbort d
  if loaderInFlight d then
    { d with sto := { d.sto with
        loader := { d.sto.loader with queued := none, abortTag := none, stop := some why } } }
  else loaderIdle d

/-- The ignition turns off in LOADING or AWAITING_IMAGE (R171). -/
def ignitionOffIdle (d : Dev) : Dev :=
  let d := stopLoader .ignitionOff d
  if loaderInFlight d then d else enterStandby .ignitionOff d

/-! ## The debounced ignition (R170, R171) -/

/-- What a change of the debounced ignition brings about (R171). In SAVING, MOD records or forgets that the
ignition has returned, a pending reset or not; the mode transitions of the other modes are not made while a reset
is pending (R170). -/
def ignitionAct (d : Dev) : Dev :=
  if d.mod.mode == .saving then { d with mod := { d.mod with returned := d.mod.ignition } }
  else if d.mod.resetPending then d
  else if d.mod.ignition then
    match d.mod.mode with
    | .standby => enterLoading d
    | .loading | .awaitingImage | .sweep | .run | .service | .saving => d
  else
    match d.mod.mode with
    | .sweep | .run | .service => enterSaving d
    | .loading | .awaitingImage => ignitionOffIdle d
    | .standby | .saving => d

/-- The debounce timer expires: the debounced state changes (R170). -/
def ignitionExpire (d : Dev) : Dev :=
  ignitionAct (postSystem { d with mod := { d.mod with
    ignition := !d.mod.ignition, debounceTimer := none } })

/-- A change of the IGN pin (R170). -/
def ignitionPin (level : Bool) (d : Dev) : Dev :=
  let timer :=
    if level = d.mod.ignition then none
    else match d.mod.debounceTimer with
      | some t => some t
      | none => d.timerIn (if level then ms 50 else ms 200)
  { d with mod := { d.mod with ignPin := level, debounceTimer := timer } }

end Sys2Proof.Machine
end

