-- ==== Sys2Proof/Machine/Storage.lean ====
section
/-! DEFINITION. Validation in one event (R157), the ends of the storage jobs (R150, R151, R155) and what
their requesters do with them (R140, R146, R158, R159, R163, R165). -/

namespace Sys2Proof.Machine

/-! ## Validation (R157) -/

/-- Validation: the result is stored, and PASS marks RAM valid with the image's id. -/
def validateRam (d : Dev) : Dev :=
  match d.validate with
  | .pass =>
    { d with cal := { d.cal with validation := .pass, valid := true, calId := some d.headerId } }
  | r => { d with cal := { d.cal with validation := r, valid := false } }

/-- The last validation result made HEADER, entry 0, with RAM invalid (R158, R159). -/
def headerFailure (d : Dev) : Dev :=
  { d with cal := { d.cal with validation := .failure 0 0, valid := false } }

/-! ## CAL_ABORT (R165) -/

/-- The section and entry a rejection names. -/
def failurePoint : Validation → Nat × Nat
  | .failure s e => (s, e)
  | .none | .pass => (0, 0)

/-- The reply of the CAL_ABORT being served, and the loader IDLE. -/
def abortReply (payload : List Byte) (d : Dev) : Dev :=
  match d.sto.loader.abortTag with
  | some tag => loaderIdle (lnkAnswer tag payload d)
  | none => loaderIdle d

/-- The attempt has ended with RAM judged: OK and SWEEP or RUN, or IMAGE_REJECTED. An image reloaded from
storage clears the image-unstored condition. -/
def abortEnd (reloaded : Bool) (d : Dev) : Dev :=
  if d.cal.valid then
    let d := abortReply (okReply []) d
    let d := if reloaded then stoCondition .unstored false d else d
    enterByOrigin .calAbort d
  else
    let p := failurePoint d.cal.validation
    abortReply (rejectedReply p.1 p.2) d

/-- The second stage: RAM is validated as it stands. -/
def abortRecheck (d : Dev) : Dev := abortEnd false (validateRam d)

/-- The first stage begins: the verify. -/
def abortVerify (tag : Byte) (d : Dev) : Dev :=
  loaderQueue .verifying 0 (.read 0 16)
    { d with sto := { d.sto with
        loader := { d.sto.loader with abortTag := some tag, crc := 0xFFFF#16, header := [] } } }

/-! ## The loader's reads (R158, R159, R165) -/

/-- After a fetch: the end of an abort's attempt, or step 3 of loading. -/
def fetchEnded (d : Dev) : Dev :=
  if d.sto.loader.abortTag.isSome then abortEnd d.cal.valid d
  else loaderRing (if d.cal.valid then stoCondition .unstored false d else d)

/-- The header read of a fetch. -/
def headerFetched (data : List Byte) (d : Dev) : Dev :=
  let h := fitBytes 16 data
  let d := d.writeRam 0 h
  if headerHolds h then loaderQueue .fetchingBody 0 (.read 0x10 128) d else fetchEnded (headerFailure d)

/-- A body read of a fetch; the 39th brings the validation. -/
def bodyFetched (k : Nat) (data : List Byte) (d : Dev) : Dev :=
  let d := d.writeRam (16 + 128 * k) (fitBytes 128 data)
  if k < 38 then loaderQueue .fetchingBody (k + 1) (.read (0x10 + 128 * (k + 1)) 128) d
  else fetchEnded (validateRam d)

/-- Whether a header passes the checks of R157 that need no body. -/
def headerGood (h : List Byte) : Bool := headerHolds h && headerZeros h

/-- A read of the verify: index 0 the header, then the 39 body reads; all of them are made, and the last is
followed by the judgement (R165). Log 49. -/
def verifyRead (k : Nat) (data : List Byte) (d : Dev) : Dev :=
  if k = 0 then
    loaderQueue .verifying 1 (.read 0x10 128)
      { d with sto := { d.sto with loader := { d.sto.loader with header := fitBytes 16 data } } }
  else
    let crc := crcFrom d.sto.loader.crc (fitBytes 128 data)
    if k < 39 then
      loaderQueue .verifying (k + 1) (.read (0x10 + 128 * k) 128)
        { d with sto := { d.sto with loader := { d.sto.loader with crc := crc } } }
    else if headerGood d.sto.loader.header ∧ crc.toNat = headerCrc d.sto.loader.header then
      loaderQueue .fetchingHeader 0 (.read 0 16) d
    else abortRecheck d

/-- The four slots of a read of the fault slots, each `none` for a failed read. -/
def slotsOfRead (result : Option (List Byte)) : List (Option (List Byte)) :=
  match result with
  | none => [none, none, none, none]
  | some data =>
    let bs := fitBytes 128 data
    [some (bs.take 32), some ((bs.drop 32).take 32), some ((bs.drop 64).take 32),
      some ((bs.drop 96).take 32)]

/-- A read of the fault slots; the tenth hands the forty over. -/
def slotsRead (k : Nat) (result : Option (List Byte)) (d : Dev) : Dev :=
  let slots := d.sto.loader.slots ++ slotsOfRead result
  if k < 9 then
    loaderQueue .readingSlots (k + 1) (.read (0x4100 + 128 * (k + 1)) 128)
      { d with sto := { d.sto with loader := { d.sto.loader with slots := slots } } }
  else loadingEnded (takeSlots slots d)

/-- The ring read. -/
def ringRead (result : Option (List Byte)) (d : Dev) : Dev :=
  loaderSlots (takeRing (match result with
    | some data => ringSlots (fitBytes 64 data)
    | none => []) d)

/-- A stopped loader's job has completed: its outcome is discarded, the loader is IDLE, and after an
ignition-off MOD enters STANDBY (R159). -/
def loaderStopped (why : LoaderStop) (d : Dev) : Dev :=
  let d := loaderIdle d
  match why with
  | .ignitionOff => enterStandby .ignitionOff d
  | .reset => d

/-- A read job of the loader has ended, `none` when it failed. -/
def loaderRead (result : Option (List Byte)) (d : Dev) : Dev :=
  let k := d.sto.loader.index
  match d.sto.loader.stop with
  | some why => loaderStopped why d
  | none =>
    match d.sto.loader.state, result with
    | .fetchingHeader, some data => headerFetched data d
    | .fetchingBody, some data => bodyFetched k data d
    | .verifying, some data => verifyRead k data d
    | .fetchingHeader, none | .fetchingBody, none => fetchEnded (headerFailure d)
    | .verifying, none => abortRecheck d
    | .readingRing, r => ringRead r d
    | .readingSlots, r => slotsRead k r d
    | .idle, _ | .probing, _ => d

/-- The probe has been judged (R155). -/
def probeJudged (present : Bool) (d : Dev) : Dev :=
  match d.sto.loader.stop with
  | some why => loaderStopped why d
  | none =>
    if present then loaderImage { d with sto := { d.sto with storage := .present } }
    else
      let d := stoCondition .absent true { d with sto := { d.sto with storage := .absent } }
      loaderImage (takeNoSlots (takeRing [] d))

/-! ## FAULT_READ (R146) -/

/-- The 22-byte record form (section 11.6). -/
def recordForm (s : FaultSlot) (r : FaultRec) : List Byte :=
  recordBytes r r.frame.code ++
    [match r.frame with
      | .inPool p => byte p.val
      | .absent | .stored => 0xFF#8,
      flagByte s.dirty]

/-- The frame markers (section 11.5). -/
inductive FrameMarker where
  | absent | inPool | stored | unreadable
deriving DecidableEq, Repr, Inhabited

def FrameMarker.code : FrameMarker → Nat
  | .absent => 0 | .inPool => 1 | .stored => 2 | .unreadable => 3

/-- A FAULT_READ reply with status OK. -/
def faultReadReply (i : Fin 40) (s : FaultSlot) (r : FaultRec) (m : FrameMarker) (frame : List Byte) :
    List Byte :=
  okReply (byte i.val :: (recordForm s r ++ (byte m.code :: frame)))

/-- The frame of a record IN_POOL. -/
def poolFrame (d : Dev) (f : FrameRef) : Option FreezeFrame :=
  match f with
  | .inPool p => d.flt.pool[p]
  | .absent | .stored => none

/-- The frame slot read is good: its CRC and its code (R146). -/
def frameSlotGood (code : BitVec 16) (bs : List Byte) : Bool :=
  (crc16 (bs.take 62)).toNat == be16At bs 62 && be16At bs 0 == code.toNat

/-- The reply at the end of the read of a deferred FAULT_READ, from the slot as it stands then (R146). Of two cases
that hold at once the one the rule lists first is taken: a code no longer held, or a frame now IN_POOL, before a
read that failed. Log 50. -/
def faultReadPayload (d : Dev) (h : HostRead) (result : Option (List Byte)) : List Byte :=
  let s := d.slot h.slot
  match s.record with
  | none => statusReply .badArgument
  | some r =>
    if r.code != h.code then statusReply .badArgument
    else match poolFrame d r.frame, result with
      | some f, _ => faultReadReply h.slot s r .inPool (frameBytes32 f)
      | none, some data =>
        let bs := fitBytes 64 data
        if frameSlotGood r.code bs then faultReadReply h.slot s r .stored (bs.take 32)
        else faultReadReply h.slot s r .unreadable []
      | none, none => statusReply .storageFailed

/-- A host read has ended. -/
def hostReadDone (h : HostRead) (result : Option (List Byte)) (d : Dev) : Dev :=
  lnkAnswer h.tag (faultReadPayload d h result) d

/-! ## Fault writes (R140) -/

/-- The frame of a fault write, confirmed written: STORED, and its pool entry freed, where the slot still
holds the same code with the frame at the same pool index. -/
def confirmFrame (w : FaultWrite) (d : Dev) : Dev :=
  match w.frame, w.record, (d.slot w.slot).record with
  | some (p, _), some old, some r =>
    if r.code = old.code ∧ r.frame = .inPool p then
      freeFrame (.inPool p)
        (d.setSlot w.slot { d.slot w.slot with record := some { r with frame := .stored } })
    else d
  | _, _, _ => d

/-- A slot goes to the tail of the dirty queue after its write. -/
def requeueSlot (i : Fin 40) (d : Dev) : Dev :=
  { d with flt := { d.flt with queue := d.flt.queue ++ [i] } }

/-- A fault write has ended (R140). -/
def faultWriteDone (ok : Bool) (w : FaultWrite) (d : Dev) : Dev :=
  let d := { d with flt := { d.flt with write := none } }
  if !ok then requeueSlot w.slot d
  else match w.mark with
    | .clear => confirmFrame w (d.setSlot w.slot { d.slot w.slot with dirty := false })
    | .changed => requeueSlot w.slot (confirmFrame w d)
    | .renewed => requeueSlot w.slot d

/-! ## Image store (R163, R164) -/

/-- A page write has ended: the next page, the same page again, or the end of the store. A store withdrawn
since is not advanced. -/
def pageDone (ok : Bool) (p : Nat) (d : Dev) : Dev :=
  if d.sto.storePage != some p || d.sto.storeQueued then d
  else if !ok then { d with sto := { d.sto with storeQueued := true } }
  else if p < 39 then { d with sto := { d.sto with storePage := some (p + 1), storeQueued := true } }
  else stoCondition .unstored false { d with sto := { d.sto with storePage := none } }

/-! ## The ends of jobs (R150, R151, R153, R155) -/

/-- The port is free: the next grant, and MOD judges the flush (R153, R175). -/
def jobEnd (d : Dev) : Dev := flushJudge (stoGrant { d with sto := { d.sto with job := none } })

/-- The outcome the polls of a job have already given, if they have. -/
def decidedOutcome (j : Job) : Option Bool :=
  match j.phase with
  | .ended ok => some ok
  | .started | .polling _ | .transfer => none

/-- A read job has ended: its outcome goes to its requester before the next grant (R150). -/
def readDone (j : Job) (result : Option (List Byte)) (d : Dev) : Dev :=
  jobEnd (match j.requester, j.hostRead with
    | .hostRead, some h => hostReadDone h result d
    | .loader, _ => loaderRead result d
    | _, _ => d)

/-- The frame job of a fault write has succeeded: the record job follows with no arbitration (R153). -/
def continueWrite (w : FaultWrite) (d : Dev) : Dev :=
  let w := { w with recordStage := true }
  startJob .faultWriter (faultWriteOp w) none 0 { d with flt := { d.flt with write := some w } }

/-- A write job of the fault writer has ended (R140, R151): FLT takes the completion first, and STO's write-failed
condition follows. Log 51. -/
def faultJobDone (ok : Bool) (d : Dev) : Dev :=
  match d.flt.write with
  | none => jobEnd (stoCondition .writeFailed (!ok) d)
  | some w =>
    if ok && !w.recordStage then
      let d := stoCondition .writeFailed false d
      match d.flt.write with
      | some w => continueWrite w d
      | none => d
    else jobEnd (stoCondition .writeFailed (!ok) (faultWriteDone ok w d))

/-- A write job has ended (R151). -/
def writeDone (j : Job) (ok : Bool) (d : Dev) : Dev :=
  match j.requester with
  | .faultWriter => faultJobDone ok d
  | .odometer => jobEnd (stoCondition .writeFailed (!ok) (odometerDone ok d))
  | .imageStore => jobEnd (stoCondition .writeFailed (!ok) (pageDone ok j.page d))
  | .loader | .hostRead => jobEnd (stoCondition .writeFailed (!ok) d)

/-- The probe has ended (R155). -/
def probeDone (present : Bool) (d : Dev) : Dev := jobEnd (probeJudged present d)

/-! ## Status bytes (R150, R151, R155) -/

/-- The busy bit. -/
def busy (status : Byte) : Bool := status.getLsbD 0

def setJob (j : Job) (d : Dev) : Dev := { d with sto := { d.sto with job := some j } }

/-- A failed attempt: retried up to two times; the probe is not retried. -/
def attemptFailed (j : Job) (d : Dev) : Dev :=
  if j.op != .probe && decide (j.attempt < 3) then
    setJob { j with attempt := j.attempt + 1, polls := 0, phase := startPhase d.clock j.op } d
  else setJob { j with phase := .ended false } d

/-- A status byte with the busy bit clear: the read proceeds; a write and a probe have succeeded. -/
def deviceReady (j : Job) (d : Dev) : Dev :=
  match j.op with
  | .read _ _ => setJob { j with phase := .transfer } d
  | .probe | .write _ _ => setJob { j with phase := .ended true } d

/-- A status byte at the first status read of an attempt, or at a poll. -/
def statusByte (j : Job) (status : Byte) (d : Dev) : Dev :=
  match j.phase with
  | .started =>
    if status = 0xFF#8 then attemptFailed j d
    else if busy status then setJob { j with phase := .polling (d.clock + ms 1) } d
    else deviceReady j d
  | .polling deadline =>
    let d := d.advanceTo deadline
    let j := { j with polls := j.polls + 1 }
    if status = 0xFF#8 then attemptFailed j d
    else if !busy status then deviceReady j d
    else if 20 ≤ j.polls then attemptFailed j d
    else setJob { j with phase := .polling (d.clock + ms 1) } d
  | .transfer | .ended _ => d

/-- What a status byte makes of a probe: judged, or polled on. A probe that has been polled ends with the byte
it is given, a device still busy being ABSENT (R155). Log 3. -/
def probeStatus (j : Job) (status : Byte) (d : Dev) : Dev :=
  match j.phase with
  | .started =>
    if status = 0xFF#8 then probeDone false d
    else if busy status then statusByte j status d
    else probeDone true d
  | .polling _ | .transfer => probeDone (!busy status && status != 0xFF#8) d
  | .ended ok => probeDone ok d

end Sys2Proof.Machine
end

