-- ==== Sys2Proof/Machine/Requests.lean ====
section
/-! DEFINITION. The receiver (R184), what the link does at each valid frame (R185, R193), the judgement of
a request before its owner sees it (R186, R187) and the end of every event at the transmitter (R189). -/

namespace Sys2Proof.Machine

/-! ## Valid frames -/

/-- The end of a link loss (R193). -/
def endLoss (d : Dev) : Dev :=
  let d := { d with lnk := { d.lnk with lost := false } }
  let d := if d.mod.mode.active then lnkStartTimer d else d
  let d := fltReport 0x60 0 false d
  wrnLinkBack (postSystem { d with lnk := { d.lnk with held := false } })

/-- What every valid frame does first: the link timer restarts if it runs, and a link loss ends (R185). -/
def frameSeen (d : Dev) : Dev :=
  let d := if d.lnk.timer.isSome then lnkStartTimer d else d
  if d.lnk.lost then endLoss d else d

/-- A tag that belongs to an outstanding request. -/
def tagInUse (d : Dev) (tag : Byte) : Bool := d.lnk.requests.any (·.tag == tag)

/-- What a block answers a request: a reply at once. -/
def answer (tag : Byte) (payload : List Byte) : Dev → Dev := lnkAnswer tag payload

/-- A reply that is its status alone. -/
def refuse (tag : Byte) (s : Status) : Dev → Dev := lnkAnswer tag (statusReply s)

/-! ## Admission and length (R187, section 11.3) -/

/-- The kinds of the catalogue (R195). -/
def inCatalogue (kind : Byte) : Bool := decide (1 ≤ kind.toNat) && decide (kind.toNat ≤ 0x1A)

/-- The read kinds (R187). -/
def readKind (kind : Byte) : Bool :=
  [0x01, 0x02, 0x04, 0x06, 0x0A, 0x0B, 0x0C, 0x0D, 0x0E, 0x17, 0x1A].contains kind.toNat

/-- The service kinds: FAULT_CLEAR and OUTPUT_TEST (R187). -/
def serviceKind (kind : Byte) : Bool := [0x0F, 0x12].contains kind.toNat

/-- The kinds admitted in LOADING and AWAITING_IMAGE (R187). -/
def loadingKind (kind : Byte) : Bool :=
  [0x01, 0x02, 0x13, 0x14, 0x15, 0x16, 0x17, 0x19].contains kind.toNat

/-- Whether a mode admits a kind of the catalogue (R187). -/
def admits (m : Mode) (kind : Byte) : Bool :=
  match m with
  | .standby => false
  | .loading | .awaitingImage => loadingKind kind
  | .sweep | .run => !serviceKind kind
  | .service => true
  | .saving => readKind kind || kind.toNat == 0x19

/-- Whether a payload has the length of its kind (section 11.3). -/
def lengthFits (kind : Byte) (payload : List Byte) : Bool :=
  let n := payload.length
  match kind.toNat with
  | 0x03 | 0x04 | 0x06 | 0x07 | 0x09 | 0x0E => n == 2
  | 0x05 =>
    match payload with
    | count :: rest => rest.length == count.toNat
    | [] => false
  | 0x08 | 0x0F | 0x17 => n == 3
  | 0x0D => n == 1
  | 0x12 => n == 5
  | 0x14 => decide (3 ≤ n) && decide (n ≤ 194)
  | _ => n == 0

/-- The judgement of a taken request, the first test that fails giving its reply, and otherwise its owner
(R186). -/
def judge (f : Frame) (owner : Dev → Dev) (d : Dev) : Dev :=
  if d.mod.resetPending then refuse f.tag .refusedCondition d
  else if !inCatalogue f.kind then refuse f.tag .unknownKind d
  else if !admits d.mod.mode f.kind then refuse f.tag .refusedMode d
  else if !lengthFits f.kind f.payload then refuse f.tag .badLength d
  else owner d

/-- A frame acted on by its tag: a keep-alive, a rejection, or a request taken (R185). -/
def frameActed (f : Frame) (owner : Dev → Dev) (d : Dev) : Dev :=
  if f.tag = 0#8 then d
  else if tagInUse d f.tag then lnkReject f.kind f.tag .tagInUse d
  else if 4 ≤ d.lnk.requests.length then lnkReject f.kind f.tag .busy d
  else judge f owner (lnkTake f.kind f.tag d)

/-- The receiver hunting again. -/
def rxHunt (d : Dev) : Dev := { d with lnk := { d.lnk with assembly := none, gapTimer := none } }

/-- The event of a valid frame: the receiver returns to hunting and hands it to the link, and at the event's
end an idle transmitter starts (R184, R185, R189). With the receiver off, in STANDBY, nothing of it is
received (R184). A judgement of the flush when a request has been answered finds the reply in its queue and
so leaves the flush running (R175). Log 6. -/
def onFrame (f : Frame) (owner : Dev → Dev) (d : Dev) : Dev :=
  if d.mod.mode.receives then txStart (frameActed f owner (frameSeen (rxHunt d))) else d

/-! ## The receiver (R184) -/

/-- A frame discarded: counted, and the receiver hunts. -/
def rxDiscard (d : Dev) : Dev :=
  let d := rxHunt d
  { d with lnk := { d.lnk with rxErrors := bump 65535 d.lnk.rxErrors } }

/-- The frame whose bytes after SYNC have all arrived, if its CRC is the one computed. -/
def checkFrame (bs : List Byte) : Option Frame :=
  let n := byteAt bs 0
  if (crc16 (bs.take (3 + n))).toNat = be16At bs (3 + n) then
    some ⟨bs.getD 1 0#8, bs.getD 2 0#8, (bs.drop 3).take n⟩
  else none

/-- A byte from the sync byte on: the gap timer starts. -/
def rxKeep (bs : List Byte) (d : Dev) : Dev :=
  { d with lnk := { d.lnk with assembly := some bs, gapTimer := d.timerIn (ms 3) } }

/-- The bytes of a frame after SYNC, with one more: kept, discarded, or a valid frame handed to the link. -/
def rxAppend (bs : List Byte) (hand : Frame → Dev → Dev) (d : Dev) : Dev :=
  if maxPayload < byteAt bs 0 then rxDiscard d
  else if bs.length < byteAt bs 0 + 5 then rxKeep bs d
  else match checkFrame bs with
    | some f => hand f d
    | none => rxDiscard d

/-- A byte on RXD. While hunting, every byte but a good 0xA5 is discarded uncounted. Log 44. -/
def rxByte (b : Byte) (stopBit : Bool) (hand : Frame → Dev → Dev) (d : Dev) : Dev :=
  if !d.mod.mode.receives then d
  else match d.lnk.assembly with
    | none => if stopBit && b == 0xA5#8 then rxKeep [] d else d
    | some bs => if stopBit then rxAppend (bs ++ [b]) hand d else rxDiscard d

end Sys2Proof.Machine
end

