-- ==== Sys2Proof/Machine/Replies.lean ====
section
/-! DEFINITION. The payloads of the replies (sections 11.5 and 11.6): the fields in the order their rule lists
them. Log 21. -/

namespace Sys2Proof.Machine

/-! ## The link's replies (R191, R195) -/

/-- A calibration id, 0xFFFFFFFF for none. -/
def calIdField (id : Option Nat) : List Byte := be32 (id.getD 0xFFFFFFFF)

/-- IDENTIFY (R195), each version in one byte. Log 21. -/
def identifyReply (d : Dev) : List Byte :=
  okReply (be16 0x0480 ++ [Config.designRevision, 1#8, 1#8, 240#8, 4#8] ++ calIdField d.activeId)

/-- The last validation result in three bytes (section 11.5). -/
def validationField : Validation → List Byte
  | .none => [0#8, 0xFF#8, 0xFF#8]
  | .pass => [1#8, 0xFF#8, 0xFF#8]
  | .failure s e => [2#8, byte s, byte e]

/-- STATUS (R195). -/
def statusFields (d : Dev) : List Byte :=
  [byte d.mod.mode.code, modeByte d.mod.previous, byte d.mod.resetCause.code, flagByte d.mod.ignition,
    byte d.mod.flush.code] ++ field16Opt (d.remaining d.mod.flushTimer) ++
  [flagByte d.mod.resetPending, byte d.mod.supply.code, flagByte d.mod.undervolt,
    flagByte d.mod.overvolt, flagByte d.mod.overtemp, flagByte d.pls.standstill,
    flagByte d.seq.adcFault, byte d.seq.fast.overruns, byte d.seq.medium.overruns,
    byte d.seq.slow.overruns, flagByte d.sig.supplyFault, byte d.sto.storage.code,
    flagByte d.sto.absentCond, flagByte d.sto.writeFailedCond, flagByte d.sto.unstoredCond,
    byte d.sto.loader.state.code, flagByte d.cal.valid] ++ validationField d.cal.validation ++
  calIdField d.activeId ++
  [byte (recordCount d), byte d.flt.dropped, flagByte d.lnk.lost] ++ be16 d.lnk.mask.toNat ++
  [flagByte d.lnk.overflow] ++ be16 d.lnk.rxErrors ++ be16 d.lnk.rejectionDrops

def statusRequestReply (d : Dev) : List Byte := okReply (statusFields d)

/-- One item of READ_CHANNELS. -/
def channelItem (d : Dev) (ch : Nat) : List Byte :=
  let r := d.chan ch
  [byte ch, byte r.kind.code, byte r.quality.code] ++ beInt16 r.value ++ beInt16 r.instant ++
    be16 r.raw ++ be16 r.corrected

/-- The indices from `first` upward, `count` of them or up to the last one below `bound`. -/
def upTo (bound first count : Nat) : List Nat :=
  (List.range (min count (bound - first))).map (first + ·)

/-- READ_CHANNELS (R195). -/
def channelsReply (d : Dev) (first count : Nat) : List Byte :=
  let items := upTo 46 first count
  okReply (byte items.length :: items.flatMap (channelItem d))

/-! ## Warnings and lamps (R107) -/

/-- One item of READ_WARNINGS. -/
def warningItem (d : Dev) (w : Fin 64) : List Byte :=
  let r := d.warning w
  [byte w.val, byte r.state.code, flagByte r.condition, index8 (r.remembered.map Remembered.code),
    flagByte r.held]

/-- The chime's state, the warning played (0x40 the test request), the pattern played and the numbers of
requests in the two groups. -/
def chimeFields (d : Dev) : List Byte :=
  (match d.wrn.player with
    | .idle => [0#8, 0xFF#8, byte Chime.none.code]
    | .playing p => [1#8, byte (match p.warning with
        | some w => w.val
        | none => 0x40), byte p.pattern.code]
    | .silence _ => [2#8, 0xFF#8, byte Chime.none.code]) ++
  [byte (chimeGroup d true).length, byte (chimeGroup d false).length]

/-- READ_WARNINGS. -/
def warningsReply (d : Dev) (first count : Nat) : List Byte :=
  let items := (List.finRange 64).filter fun w => decide (first ≤ w.val) && decide (w.val < first + count)
  okReply (byte items.length :: (items.flatMap (warningItem d) ++ chimeFields d))

/-- A test force: absent 0, ON 1, OFF 2, in the order section 5.4 lists them. -/
def forceCode : Option Bool → Nat
  | none => 0
  | some true => 1
  | some false => 2

/-- One lamp of READ_LAMPS. -/
def lampItem (d : Dev) (l : Fin 24) : List Byte :=
  let r := d.lamp l
  [flagByte r.hostBit, byte r.demand.code, byte (forceCode r.force), flagByte r.output,
    byte r.driver.code, byte r.retries, flagByte r.heldOpen, flagByte r.heldShort, flagByte r.heldOver]

/-- READ_LAMPS. -/
def lampsReply (d : Dev) : List Byte := okReply ((List.finRange 24).flatMap (lampItem d))

/-! ## Doors (R118, R129) -/

/-- The timer a door runs: hold or close. -/
def doorTimer (r : DoorRec) : Timer :=
  match r.holdTimer with
  | some t => some t
  | none => r.closeTimer

/-- One door of READ_DOORS. -/
def doorItem (d : Dev) (i : Fin 4) : List Byte :=
  let r := d.door i
  [byte r.position.code, byte r.release.code] ++ field16Opt (d.remaining (doorTimer r)) ++
    [flagByte r.requestPending] ++ be16 r.obstructions ++ [flagByte r.held, flagByte r.line]

/-- The interlock's part of READ_DOORS and the last road sample. The kneel and ramp conditions are sent as
whether each lets DRIVE_PERMIT be high. Log 22. -/
def interlockFields (d : Dev) : List Byte :=
  let k := d.dor.interlock
  [flagByte k.doorCondition, flagByte k.bypass, flagByte k.drivePermit, flagByte k.brakePermit] ++
    field16Opt (d.remaining k.brakeTimer) ++
    [flagByte (inactiveOpt d d.dor.cfg.kneel), flagByte (inactiveOpt d d.dor.cfg.ramp),
      byte d.dor.roadQuality.code] ++ beInt16 d.dor.roadInstant

/-- READ_DOORS. -/
def doorsReply (d : Dev) : List Byte :=
  okReply (((List.finRange 4).filter (configured d)).flatMap (doorItem d) ++ interlockFields d)

/-- The outcome of a RELEASE (R118, R198). -/
def releaseOutcome : ReleaseState → Nat
  | .released => 0
  | .pending => 1
  | .held | .closing | .stuck => 2

/-- The outcome of a CLOSE: HELD (R118, R198). -/
def closeOutcome : Nat := 3

/-- A reply to DOOR_COMMAND. -/
def doorCommandReply (d : Dev) (i : Fin 4) (outcome : Nat) : List Byte :=
  okReply [byte outcome, byte (d.door i).release.code]

/-! ## Gauges and the odometer (R54, R76) -/

/-- An angle, 0xFFFF for none. -/
def angleField : Option Int → List Byte
  | some a => beInt16 a
  | none => be16 0xFFFF

/-- One gauge of READ_GAUGES. -/
def gaugeItem (d : Dev) (g : Fin 6) : List Byte :=
  let c := d.gaugeCfg g
  let r := d.gauge g
  [flagByte c.enabled, byte c.source, byte r.state.code] ++ beInt16 r.position ++ beInt16 r.target ++
    angleField r.overrideAngle ++ beInt16 r.sinDuty ++ beInt16 r.cosDuty ++
    [byte r.terminated, byte r.restarts, flagByte r.held]

/-- READ_GAUGES. -/
def gaugesReply (d : Dev) : List Byte := okReply ((List.finRange 6).flatMap (gaugeItem d))

/-- READ_ODOMETER. -/
def odometerReply (d : Dev) : List Byte :=
  okReply (be32 d.pls.distance ++ be16 d.pls.frac ++ be16 d.pls.cycles ++
    [flagByte d.pls.ringTaken, byte d.pls.lastSlot] ++ be32 d.pls.lastSeq ++ [byte d.pls.odoJob.code])

/-! ## Faults (R144, R145) -/

/-- One slot of FAULT_LIST: 23 bytes, or nothing for a free slot. -/
def faultItem (d : Dev) (i : Fin 40) : List Byte :=
  let s := d.slot i
  match s.record with
  | some r => byte i.val :: recordForm s r
  | none => []

/-- The eight slots from a start upward. -/
def listedSlots (d : Dev) (start : Nat) : List (Fin 40) :=
  (List.finRange 40).filter fun i =>
    decide (start ≤ i.val) && decide (i.val < start + 8) && (d.slot i).record.isSome

/-- FAULT_LIST. -/
def faultListReply (d : Dev) (start : Nat) : List Byte :=
  let items := listedSlots d start
  okReply ([byte (recordCount d), byte d.flt.dropped, flagByte d.flt.persistent,
    index8 (if start + 8 ≤ 39 then some (start + 8) else none), byte items.length] ++
    items.flatMap (faultItem d))

/-- FAULT_CLEAR: how many records were erased and how many ACTIVE ones kept. -/
def clearReply (erased kept : Nat) : List Byte := okReply [byte erased, byte kept]

end Sys2Proof.Machine
end

