-- ==== Sys2Proof/Machine/Owners.lean ====
section
/-! DEFINITION. What the owner of each request does with one that has passed the link's judgement, and the
reply it gives (chapters 1 to 10). A request's payload has the length of its kind when its owner sees it. -/

namespace Sys2Proof.Machine

/-! ## LNK (R191, R195, R196) -/

/-- The snapshot notices of a group, subjects in ascending index (section 10.3). -/
def groupSnapshot (group : Nat) (d : Dev) : Dev :=
  match group with
  | 0 => forEach 46 (fun ch d => if (d.chan ch).isGood then d else postQuality ch d) d
  | 2 => forEach 64 (fun w d => if (d.warning w).state == .inactive then d else postWarning w d) d
  | 3 => postInterlock (forEach 4 (fun i d => if configured d i then postDoor i .position d else d) d)
  | 4 => forEach 6 (fun g d => if (d.gauge g).state == .off then d else postGauge g d) d
  | 5 => forEach 40 (fun i d =>
      match (d.slot i).record with
      | some r => if r.active then postFault i r (statusCode true) d else d
      | none => d) d
  | 6 => postMode d
  | 7 => postSystem d
  | _ => d

/-- The subscription mask replaced: the notices of disabled groups leave, and each newly enabled group queues
its snapshot, groups in ascending bit order (R191). -/
def setMask (mask : BitVec 8) (d : Dev) : Dev :=
  let old := d.lnk.mask
  let kept := d.lnk.notices.filter fun n => !old.getLsbD n.kind.group || mask.getLsbD n.kind.group
  let d := { d with lnk := { d.lnk with mask := mask, notices := kept } }
  forEach 8 (fun g d => if mask.getLsbD g && !old.getLsbD g then groupSnapshot g d else d) d

def ownIdentify (tag : Byte) (d : Dev) : Dev := answer tag (identifyReply d) d

def ownStatus (tag : Byte) (d : Dev) : Dev := answer tag (statusRequestReply d) d

/-- SUBSCRIBE: bits 8-15 of the group mask are ignored; the reply carries the mask in force and is queued after
the snapshots (R191). -/
def ownSubscribe (tag : Byte) (p : List Byte) (d : Dev) : Dev :=
  let mask := p.getD 1 0#8
  answer tag (okReply (be16 mask.toNat)) (setMask mask d)

def ownReadChannels (tag : Byte) (p : List Byte) (d : Dev) : Dev :=
  let first := field8 p 0
  let count := field8 p 1
  if 45 < first || count = 0 || 16 < count then refuse tag .badArgument d
  else answer tag (channelsReply d first count) d

/-! ## SEQ (R13) -/

/-- The entries a SAMPLE_NOW appends. -/
def demandEntries (tag : Byte) (channels : List Byte) : List DemandEntry :=
  channels.map fun c => ⟨tag, c.toNat, none⟩

def ownSampleNow (tag : Byte) (p : List Byte) (d : Dev) : Dev :=
  let channels := p.drop 1
  if channels.isEmpty || 8 < channels.length || channels.any (fun c => decide (43 < c.toNat)) then
    refuse tag .badArgument d
  else if 8 < d.seq.onDemand.length + channels.length then refuse tag .busy d
  else
    let d := lnkDefer tag d
    seqGrantIfIdle { d with seq := { d.seq with
      onDemand := d.seq.onDemand ++ demandEntries tag channels } }

/-! ## WRN (R88, R89, R96, R104, R107) -/

def ownReadWarnings (tag : Byte) (p : List Byte) (d : Dev) : Dev :=
  let first := field8 p 0
  let count := field8 p 1
  if 63 < first || count = 0 || 32 < count then refuse tag .badArgument d
  else answer tag (warningsReply d first count) d

/-- The warnings a scope selects, `none` where the scope or its argument is out of range (R88). -/
def ackScope (d : Dev) (scope arg : Nat) : Option (List (Fin 64)) :=
  match scope with
  | 0 => if arg ≤ 63 then some (selectWarnings d fun w _ _ => w.val == arg) else none
  | 1 => if arg ≤ 2 then some (selectWarnings d fun _ c _ => c.cls.code == arg) else none
  | 2 => some (selectWarnings d fun _ _ _ => true)
  | _ => none

def ownAckWarnings (tag : Byte) (p : List Byte) (d : Dev) : Dev :=
  match ackScope d (field8 p 0) (field8 p 1) with
  | none => refuse tag .badArgument d
  | some ws =>
    answer tag (okReply [byte (ws.filter fun w => ackChanges (d.warning w)).length]) (ackAll ws d)

/-- The 24 lamp bits of SET_LAMPS: bit L, bit 0 the least significant of the last byte (section 11.3). -/
def lampBits (p : List Byte) : Nat := field8 p 0 * 65536 + field16 p 1

def ownSetLamps (tag : Byte) (p : List Byte) (d : Dev) : Dev :=
  let bits := lampBits p
  answer tag (okReply []) (forEach 24 (fun l d =>
    lampDemandRefresh l (d.setLamp l { d.lamp l with hostBit := bits.testBit l })) d)

def ownReadLamps (tag : Byte) (d : Dev) : Dev := answer tag (lampsReply d) d

/-- The force a lamp item asks for: OFF, ON, or RELEASE; `none` for an unknown action (section 11.4). -/
def lampAction (n : Nat) : Option (Option Bool) :=
  match n with
  | 0 => some (some false)
  | 1 => some (some true)
  | 2 => some none
  | _ => none

/-- A lamp item (R96): `rest` is the lamp, the action and two zero bytes. -/
def ownTestLamp (tag : Byte) (rest : List Byte) (d : Dev) : Dev :=
  if h : field8 rest 0 < 24 then
    let l : Fin 24 := ⟨field8 rest 0, h⟩
    match lampAction (field8 rest 1) with
    | none => refuse tag .badArgument d
    | some force =>
      if force.isSome && !(d.lamp l).driver.lets then refuse tag .refusedCondition d
      else answer tag (okReply []) (lampUpdate l (fun r => { r with force := force }) d)
  else refuse tag .badArgument d

/-- The pattern of a chime item. -/
def testPattern (n : Nat) : Option Chime :=
  match n with
  | 1 => some .single
  | 2 => some .triple
  | 3 => some .continuous
  | _ => none

/-- The tone of a chime item: LOW 0, HIGH 1. -/
def testTone (n : Nat) : Option Bool :=
  match n with
  | 0 => some false
  | 1 => some true
  | _ => none

/-- A chime item (R104): `rest` is the pattern, the tone and two zero bytes. -/
def ownTestChime (tag : Byte) (rest : List Byte) (d : Dev) : Dev :=
  match testPattern (field8 rest 0), testTone (field8 rest 1) with
  | some pattern, some highTone =>
    if d.wrn.test.isSome || d.mod.supply != .on then refuse tag .refusedCondition d
    else answer tag (okReply []) (chimePlaceTest ⟨pattern, highTone⟩ d)
  | _, _ => refuse tag .badArgument d

/-! ## DOR (R118, R129) -/

def ownDoorRelease (tag door : Byte) (d : Dev) : Dev :=
  if h : door.toNat < 4 then
    let i : Fin 4 := ⟨door.toNat, h⟩
    if configured d i then
      let d := dorRelease i d
      answer tag (doorCommandReply d i (releaseOutcome (d.door i).release)) d
    else refuse tag .badArgument d
  else refuse tag .badArgument d

def ownDoorClose (tag door : Byte) (d : Dev) : Dev :=
  if h : door.toNat < 4 then
    let i : Fin 4 := ⟨door.toNat, h⟩
    if configured d i then
      let d := dorClose i d
      answer tag (doorCommandReply d i closeOutcome) d
    else refuse tag .badArgument d
  else refuse tag .badArgument d

def ownReadDoors (tag : Byte) (d : Dev) : Dev := answer tag (doorsReply d) d

/-! ## GAU and PLS (R54, R71, R76) -/

def ownReadGauges (tag : Byte) (d : Dev) : Dev := answer tag (gaugesReply d) d

/-- A gauge item for an enabled gauge: an angle limited to the full angle, or a release (R71, R72). A gauge that
is not driven by its source or an override is refused, a release for it too. Log 53. -/
def testGauge (tag : Byte) (g : Fin 6) (release : Bool) (angle : Nat) (d : Dev) : Dev :=
  match (d.gauge g).state with
  | .tracking | .invalid | .override =>
    if release then
      answer tag (okReply []) (if (d.gauge g).state == .override then endOverride g d else d)
    else
      let a := clamp 0 (d.gaugeCfg g).full angle
      answer tag (okReply (beInt16 a)) (gaugeOverride g a d)
  | .shutdown | .lockedOff | .supplyOff | .off | .sweep => refuse tag .refusedCondition d

/-- A gauge item: `rest` is the gauge, the action and the angle in two bytes. -/
def ownTestGauge (tag : Byte) (rest : List Byte) (d : Dev) : Dev :=
  if h : field8 rest 0 < 6 then
    let g : Fin 6 := ⟨field8 rest 0, h⟩
    if (d.gaugeCfg g).enabled && decide (field8 rest 1 ≤ 1) then
      testGauge tag g (field8 rest 1 == 1) (field16 rest 2) d
    else refuse tag .badArgument d
  else refuse tag .badArgument d

def ownReadOdometer (tag : Byte) (d : Dev) : Dev := answer tag (odometerReply d) d

/-! ## FLT (R144-R146) -/

def ownFaultList (tag : Byte) (p : List Byte) (d : Dev) : Dev :=
  if 39 < field8 p 0 then refuse tag .badArgument d
  else answer tag (faultListReply d (field8 p 0)) d

/-- A FAULT_READ of a record whose frame is STORED waits for the read of its frame slot (R146). While storage is
absent none is granted (R155). -/
def deferFaultRead (tag : Byte) (i : Fin 40) (code : BitVec 16) (d : Dev) : Dev :=
  let d := lnkDefer tag d
  stoGrant { d with sto := { d.sto with hostReads := d.sto.hostReads ++ [⟨tag, i, code⟩] } }

/-- The reply from RAM of a FAULT_READ. -/
def faultReadNow (d : Dev) (i : Fin 40) (r : FaultRec) : List Byte :=
  match poolFrame d r.frame with
  | some f => faultReadReply i (d.slot i) r .inPool (frameBytes32 f)
  | none => faultReadReply i (d.slot i) r .absent []

def ownFaultRead (tag : Byte) (p : List Byte) (d : Dev) : Dev :=
  let code := BitVec.ofNat 16 (field16 p 0)
  match findCode d code with
  | none => refuse tag .badArgument d
  | some i =>
    match (d.slot i).record with
    | none => refuse tag .badArgument d
    | some r =>
      match r.frame with
      | .stored => deferFaultRead tag i code d
      | .absent | .inPool _ => answer tag (faultReadNow d i r) d

/-- Whether a slot holds a record of a status. -/
def FaultSlot.hasStatus (s : FaultSlot) (active : Bool) : Bool :=
  match s.record with
  | some r => r.active == active
  | none => false

/-- How many records have a status. -/
def statusCount (d : Dev) (active : Bool) : Nat :=
  (d.flt.slots.toList.filter (·.hasStatus active)).length

/-- Erase a slot's record if it is PASSIVE. -/
def erasePassive (i : Fin 40) (d : Dev) : Dev :=
  match (d.slot i).record with
  | some r => if r.active then d else eraseSlot i r d
  | none => d

/-- FAULT_CLEAR ALL (R144): the erasures with their notices, then the dropped count, which those notices carry as it
was. Log 57. -/
def ownFaultClearAll (tag : Byte) (d : Dev) : Dev :=
  let reply := clearReply (statusCount d false) (statusCount d true)
  let d := forEach 40 erasePassive d
  answer tag reply { d with flt := { d.flt with dropped := 0 } }

/-- FAULT_CLEAR ONE (R144): `rest` is the code. -/
def ownFaultClearOne (tag : Byte) (rest : List Byte) (d : Dev) : Dev :=
  match findCode d (BitVec.ofNat 16 (field16 rest 0)) with
  | none => answer tag (clearReply 0 0) d
  | some i =>
    if (d.slot i).hasStatus true then answer tag (clearReply 0 1) d
    else answer tag (clearReply 1 0) (erasePassive i d)

/-! ## MOD (R176-R178, R182) -/

/-- The parking brake lets SERVICE be entered: no channel configured, or GOOD with state 1 (R176). -/
def parkingHolds (d : Dev) : Bool :=
  match d.parkingChannel with
  | some ch => (d.chan ch).isActive
  | none => true

def ownServiceEnter (tag : Byte) (d : Dev) : Dev :=
  match d.mod.mode with
  | .service => answer tag (okReply []) d
  | .run =>
    if d.pls.standstill && parkingHolds d then answer tag (okReply []) (runToService d)
    else refuse tag .refusedCondition d
  | .standby | .loading | .awaitingImage | .sweep | .saving => refuse tag .refusedMode d

def ownServiceExit (tag : Byte) (d : Dev) : Dev :=
  match d.mod.mode with
  | .service => answer tag (okReply []) (serviceToRun .serviceExit d)
  | .run => answer tag (okReply []) d
  | .standby | .loading | .awaitingImage | .sweep | .saving => refuse tag .refusedMode d

/-- RESTORE_OUTPUTS (R182): the reply carries the supply state after the request. -/
def ownRestoreOutputs (tag : Byte) (d : Dev) : Dev :=
  if anyCause d then refuse tag .refusedCondition d
  else
    let d := restoreSupply d
    answer tag (okReply [byte d.mod.supply.code]) d

/-- The flush of a soft reset taken outside SAVING (R178). -/
def startResetFlush (d : Dev) : Dev :=
  let d := { d with mod := { d.mod with flush := .reset, flushTimer := d.timerIn (ms 5000) } }
  let d := plsAskWrite d
  match d.mod.mode with
  | .loading | .awaitingImage =>
    if d.sto.loader.state == .idle then d else stopLoader .reset d
  | .standby | .sweep | .run | .service | .saving => d

/-- RESET (R178): the pending flag and the reply; in SAVING the flush already running is the reset's. -/
def ownReset (tag : Byte) (d : Dev) : Dev :=
  let d := answer tag (okReply []) { d with mod := { d.mod with resetPending := true } }
  if d.mod.mode == .saving then d else startResetFlush d

/-! ## STO (R160-R162, R165) -/

/-- An image store queued or in flight. -/
def storeBusy (d : Dev) : Bool :=
  d.sto.storePage.isSome ||
    match d.sto.job with
    | some j => j.requester == .imageStore
    | none => false

/-- The loader is not IDLE. -/
def loaderBusy (d : Dev) : Bool := d.sto.loader.state != .idle

/-- CAL_BEGIN (R160). -/
def ownCalBegin (tag : Byte) (d : Dev) : Dev :=
  match d.mod.mode with
  | .service =>
    if storeBusy d || loaderBusy d then refuse tag .refusedCondition d
    else enterAwaiting .calBegin
      (answer tag (okReply []) { d with cal := { d.cal with valid := false, origin := .service } })
  | .awaitingImage =>
    if storeBusy d || loaderBusy d then refuse tag .refusedCondition d
    else answer tag (okReply []) { d with cal := { d.cal with valid := false } }
  | .standby | .loading | .sweep | .run | .saving => refuse tag .refusedMode d

/-- What the CAL_ requests of AWAITING_IMAGE share: REFUSED_MODE elsewhere, REFUSED_CONDITION while the loader
is not IDLE. -/
def inAwaiting (tag : Byte) (effect : Dev → Dev) (d : Dev) : Dev :=
  if d.mod.mode != .awaitingImage then refuse tag .refusedMode d
  else if loaderBusy d then refuse tag .refusedCondition d
  else effect d

/-- CAL_WRITE (R161): the offset in two bytes, then the data. -/
def ownCalWrite (tag : Byte) (p : List Byte) (d : Dev) : Dev :=
  inAwaiting tag (fun d =>
    let offset := field16 p 0
    let bytes := p.drop 2
    if imageSize < offset + bytes.length then refuse tag .badArgument d
    else answer tag (okReply []) (d.writeRam offset bytes)) d

/-- CAL_COMMIT that passes (R162): the unstored condition, the image store where storage is PRESENT, the reply,
the mode. -/
def commitImage (tag : Byte) (d : Dev) : Dev :=
  let d := stoCondition .unstored true d
  let d :=
    if d.sto.storage == .present then
      stoGrant { d with sto := { d.sto with storePage := some 0, storeQueued := true } }
    else d
  enterByOrigin .calCommit (answer tag (okReply []) d)

/-- CAL_COMMIT (R162). -/
def ownCalCommit (tag : Byte) (d : Dev) : Dev :=
  inAwaiting tag (fun d =>
    let d := validateRam d
    if d.cal.valid then commitImage tag d
    else
      let p := failurePoint d.cal.validation
      answer tag (rejectedReply p.1 p.2) d) d

/-- CAL_ABORT (R165): the verify with storage PRESENT, the re-check of RAM otherwise. -/
def ownCalAbort (tag : Byte) (d : Dev) : Dev :=
  inAwaiting tag (fun d =>
    if d.sto.storage == .present then abortVerify tag (lnkDefer tag d)
    else abortRecheck { d with sto := { d.sto with
      loader := { d.sto.loader with abortTag := some tag } } }) d

/-- CAL_READ (R161): the offset in two bytes and the length. -/
def ownCalRead (tag : Byte) (p : List Byte) (d : Dev) : Dev :=
  let offset := field16 p 0
  let length := field8 p 2
  if length = 0 || 192 < length || imageSize < offset + length then refuse tag .badArgument d
  else answer tag (okReply (flagByte d.cal.valid :: Memory.readAll d.cal.ram offset length)) d

end Sys2Proof.Machine
end

