-- ==== Sys2Proof/Machine/Frames.lean ====
section
/-! DEFINITION. The effect on the part of each command that is a frame, and with it of a frame that arrives byte
by byte (Log 4). -/

namespace Sys2Proof.Machine

/-- The effect of a command that is a valid frame: the frame's event, its owner the one the catalogue names
(R195). A frame that no request row spells has no owner but the link, which answers a selector out of range
(R196, R198). Commands that are no frame are not handed over by the receiver. -/
def frameCommand : Instr → Dev → Dev
  | .keepAlive kind p => onFrame ⟨kind, 0#8, p⟩ id
  | .unknownKind kind tag p => onFrame ⟨kind, tag, p⟩ (refuse tag .badArgument)
  | .identify tag p => onFrame ⟨0x01#8, tag, p⟩ (ownIdentify tag)
  | .status tag p => onFrame ⟨0x02#8, tag, p⟩ (ownStatus tag)
  | .subscribe tag p => onFrame ⟨0x03#8, tag, p⟩ (ownSubscribe tag p)
  | .readChannels tag p => onFrame ⟨0x04#8, tag, p⟩ (ownReadChannels tag p)
  | .sampleNow tag p => onFrame ⟨0x05#8, tag, p⟩ (ownSampleNow tag p)
  | .readWarnings tag p => onFrame ⟨0x06#8, tag, p⟩ (ownReadWarnings tag p)
  | .ackWarnings tag p => onFrame ⟨0x07#8, tag, p⟩ (ownAckWarnings tag p)
  | .setLamps tag p => onFrame ⟨0x08#8, tag, p⟩ (ownSetLamps tag p)
  | .doorCommandRelease tag door rest =>
    onFrame ⟨0x09#8, tag, door :: 0#8 :: rest⟩ (ownDoorRelease tag door)
  | .doorCommandClose tag door rest =>
    onFrame ⟨0x09#8, tag, door :: 1#8 :: rest⟩ (ownDoorClose tag door)
  | .readDoors tag p => onFrame ⟨0x0A#8, tag, p⟩ (ownReadDoors tag)
  | .readGauges tag p => onFrame ⟨0x0B#8, tag, p⟩ (ownReadGauges tag)
  | .readOdometer tag p => onFrame ⟨0x0C#8, tag, p⟩ (ownReadOdometer tag)
  | .faultList tag p => onFrame ⟨0x0D#8, tag, p⟩ (ownFaultList tag p)
  | .faultRead tag p => onFrame ⟨0x0E#8, tag, p⟩ (ownFaultRead tag p)
  | .faultClearAll tag rest => onFrame ⟨0x0F#8, tag, 0#8 :: rest⟩ (ownFaultClearAll tag)
  | .faultClearOne tag rest => onFrame ⟨0x0F#8, tag, 1#8 :: rest⟩ (ownFaultClearOne tag rest)
  | .serviceEnter tag p => onFrame ⟨0x10#8, tag, p⟩ (ownServiceEnter tag)
  | .serviceExit tag p => onFrame ⟨0x11#8, tag, p⟩ (ownServiceExit tag)
  | .outputTestGauge tag rest => onFrame ⟨0x12#8, tag, 0#8 :: rest⟩ (ownTestGauge tag rest)
  | .outputTestLamp tag rest => onFrame ⟨0x12#8, tag, 1#8 :: rest⟩ (ownTestLamp tag rest)
  | .outputTestChime tag rest => onFrame ⟨0x12#8, tag, 2#8 :: rest⟩ (ownTestChime tag rest)
  | .calBegin tag p => onFrame ⟨0x13#8, tag, p⟩ (ownCalBegin tag)
  | .calWrite tag p => onFrame ⟨0x14#8, tag, p⟩ (ownCalWrite tag p)
  | .calCommit tag p => onFrame ⟨0x15#8, tag, p⟩ (ownCalCommit tag)
  | .calAbort tag p => onFrame ⟨0x16#8, tag, p⟩ (ownCalAbort tag)
  | .calRead tag p => onFrame ⟨0x17#8, tag, p⟩ (ownCalRead tag p)
  | .restoreOutputs tag p => onFrame ⟨0x18#8, tag, p⟩ (ownRestoreOutputs tag)
  | .reset tag p => onFrame ⟨0x19#8, tag, p⟩ (ownReset tag)
  | .readLamps tag p => onFrame ⟨0x1A#8, tag, p⟩ (ownReadLamps tag)
  | .powerOnReset _ | .ignPinChange _ | .ignitionDebounceExpiry | .bulbCheckExpiry
  | .flushTimerExpiry | .undervoltageTimerExpiry | .scanPeriodExpiry _ | .settleTimerExpiry
  | .conversionComplete _ _ | .recoveryGapExpiry | .pulseEdge _ _ | .pulseUpdate _ | .gaugeUpdate
  | .pwmPeriodEnd _ | .coilCurrentLimit _ _ _ _ | .restartTimerExpiry _ | .holdTimerExpiry _
  | .warningDelayExpiry _ | .flashPhaseExpiry | .diagnosisTimerExpiry _
  | .lampOvercurrent _ _ _ | .retryTimerExpiry _ | .chimePlayerStep | .chimeSilenceEnd
  | .doorHoldTimerExpiry _ | .closeTimeout _ | .brakeDelayExpiry | .storagePollTick _
  | .readJobComplete _ | .writeJobComplete _ | .probeComplete _ | .rxByte _ _
  | .gapTimerExpiry | .linkTimerExpiry | .transmitComplete | .lampSenseChange _ _ => id

/-- The effect of a valid frame: that of the command it is. -/
def handFrame (f : Frame) : Dev → Dev := frameCommand (decodeFrame f)

end Sys2Proof.Machine
end

