-- ==== Sys2Proof/Machine/Timing.lean ====
section
/-! DEFINITION. The events whose timer is not a field of type Timer, the events that carry what the outside
senses, and the ends of jobs as they arrive: what the meanings of those commands are written over. -/

namespace Sys2Proof.Machine

/-- An event of the part: its effect, and at its end an idle transmitter starts (R189). The commands that wait
stay as they are. Log 6. -/
def State.event (s : State) (effect : Dev → Dev) : State :=
  { s with dev := txStart (effect s.dev) }

/-! ## SEQ (R9, R11) -/

/-- The settle timer expires: CONVERTING, complete 10 us later (R9). -/
def settleEnd (d : Dev) : Dev :=
  match d.seq.converter with
  | .settling c deadline =>
    let d := d.advanceTo deadline
    setConverter (.converting c (d.clock + 10)) d
  | .idle | .converting _ _ | .recovering _ => d

/-- A conversion completes (R9). -/
def conversionEnd (sample peak : Int) (d : Dev) : Dev :=
  match d.seq.converter with
  | .converting c deadline => seqComplete c sample peak (d.advanceTo deadline)
  | .idle | .settling _ _ | .recovering _ => d

/-- The recovery gap ends: the grant is made (R11). -/
def recoveryEnd (d : Dev) : Dev :=
  match d.seq.converter with
  | .recovering deadline => seqGrant (d.advanceTo deadline)
  | .idle | .settling _ _ | .converting _ _ => d

/-! ## WRN (R90, R91, R93, R99, R100) -/

/-- A flash phase expires (R90). -/
def flashEnd (d : Dev) : Dev :=
  match d.wrn.flash with
  | some f =>
    let d := d.advanceTo f.deadline
    lampsRefresh { d with wrn := { d.wrn with flash := some ⟨!f.on, d.clock + ms 250⟩ } }
  | none => d

/-- The limit of a lamp's current in milliamperes (section 5.5). -/
def lampLimit : Nat := 1500

/-- A current sensed in a lamp: above the limit after the 5 ms blanking from the switch-on, it cuts the output
(R93). A current sensed exactly 5 ms after the switch-on is no longer blanked. Log 56. -/
def lampCurrent (l : Fin 24) (milliamps sinceOn : Nat) (d : Dev) : Dev :=
  match (d.lamp l).output, (d.lamp l).onSince with
  | true, some t =>
    let d := d.advanceTo (t + sinceOn)
    if ms 5 ≤ d.clock - t && lampLimit < milliamps && wrnRunning d then lampCut l d else d
  | _, _ => d

/-- What a lamp senses: the current is that of an output that is on, the readback that of one that is off
(section 5.5, R91). -/
def lampSensed (l : Fin 24) (sense : LampSense) (d : Dev) : Dev :=
  lampUpdate l (fun r =>
    match sense with
    | .current milliamps => if r.output then { r with currentOk := decide (5 ≤ milliamps) } else r
    | .readback high => if r.output then r else { r with pinHigh := high }) d

/-- The player's timer expires in a segment (R100). -/
def playerEnd (d : Dev) : Dev :=
  match d.wrn.player with
  | .playing p => playStep p (d.advanceTo p.deadline)
  | .idle | .silence _ => d

/-- The silence ends (R99). -/
def silenceOver (d : Dev) : Dev :=
  match d.wrn.player with
  | .silence deadline => silenceEnd (d.advanceTo deadline)
  | .idle | .playing _ => d

/-! ## MOD (R174) -/

/-- The bulb-check timer expires (R174). -/
def bulbEnd (d : Dev) : Dev :=
  match d.mod.bulb with
  | .running deadline =>
    let d := d.advanceTo deadline
    modSweepCheck { d with mod := { d.mod with bulb := .expired } }
  | .stopped | .expired => d

/-! ## STO (R150, R151, R155) -/

/-- The status byte of a further status read. -/
def statusRead (status : Byte) (d : Dev) : Dev :=
  match d.sto.job with
  | some j => statusByte j status d
  | none => d

/-- The bytes of a read, unless its polls have already failed it. -/
def readOutcome (j : Job) (result : ReadEnd) : Option (List Byte) :=
  match decidedOutcome j, result with
  | some false, _ => none
  | _, .delivered data => some data
  | _, .failed => none

/-- A read job ends; with no read job in flight nothing has ended. -/
def readEnded (result : ReadEnd) (d : Dev) : Dev :=
  match d.sto.job with
  | some j =>
    match j.op with
    | .read _ _ => readDone j (readOutcome j result) d
    | .probe | .write _ _ => d
  | none => d

/-- A write job ends. -/
def writeEnded (ok : Bool) (d : Dev) : Dev :=
  match d.sto.job with
  | some j =>
    match j.op with
    | .write _ _ => writeDone j ((decidedOutcome j).getD ok) d
    | .probe | .read _ _ => d
  | none => d

/-- The probe ends, or is polled on. -/
def probeEnded (status : Byte) (d : Dev) : Dev :=
  match d.sto.job with
  | some j =>
    match j.op with
    | .probe => probeStatus j status d
    | .read _ _ | .write _ _ => d
  | none => d

/-! ## LNK (R189, R192) -/

/-- The link timer expires (R192). -/
def linkLoss (d : Dev) : Dev :=
  let d := { d with lnk := { d.lnk with lost := true, held := true, timer := none } }
  let d := wrnLinkLost (fltReport 0x60 0 true d)
  postSystem { d with lnk := { d.lnk with mask := 0#8, notices := [], overflow := false } }

/-- The frame in transmission has been sent; MOD judges the flush (R175, R189). -/
def transmitEnd (d : Dev) : Dev := flushJudge (txEnd d)

/-! ## GAU (R62, R67) -/

/-- A coil's current sensed (R62). -/
def coilCurrent (g : Fin 6) (coil : Coil) (milliamps counts : Nat) (d : Dev) : Dev :=
  if endsPulse (d.gauge g) coil milliamps counts then endPulse g coil d else d

/-- The gauge update and, at its end, MOD's look at the sweep (R56, R174). -/
def gaugeTick (d : Dev) : Dev := modSweepCheck (gauUpdate d)

/-- The restart timer's expiry and MOD's look at the sweep (R64, R174). -/
def restartEnd (g : Fin 6) (d : Dev) : Dev := modSweepCheck (gaugeRestart g d)

end Sys2Proof.Machine
end

