-- ==== Sys2Proof/Machine/ExecCal.lean ====
section
/-! DEFINITION. Meanings: the download of a calibration image (section 8.7). -/

namespace Sys2Proof.Machine

/-- CAL_BEGIN, 0x13 (R160). -/
def execCalBegin (tag : Byte) (payload : List Byte) (s : State) : Host.Outcome State Fault Refusal :=
  .next (s.event (frameCommand (.calBegin tag payload)))

/-- CAL_WRITE, 0x14 (R161). -/
def execCalWrite (tag : Byte) (payload : List Byte) (s : State) : Host.Outcome State Fault Refusal :=
  .next (s.event (frameCommand (.calWrite tag payload)))

/-- CAL_COMMIT, 0x15 (R162). -/
def execCalCommit (tag : Byte) (payload : List Byte) (s : State) : Host.Outcome State Fault Refusal :=
  .next (s.event (frameCommand (.calCommit tag payload)))

/-- CAL_ABORT, 0x16 (R165). -/
def execCalAbort (tag : Byte) (payload : List Byte) (s : State) : Host.Outcome State Fault Refusal :=
  .next (s.event (frameCommand (.calAbort tag payload)))

end Sys2Proof.Machine
end

