-- ==== Sys2Proof/Machine/ExecDoor.lean ====
section
/-! DEFINITION. Meanings: the door supervisor (chapter 6). -/

namespace Sys2Proof.Machine

/-- DOOR_HOLD_TIMER_EXPIRY (R114). -/
def execDoorHoldTimerExpiry (i : Fin 4) (s : State) : Host.Outcome State Fault Refusal :=
  .next (s.event (onExpiry (s.dev.door i).holdTimer (dorHoldExpire i)))

/-- CLOSE_TIMEOUT (R117). -/
def execCloseTimeout (i : Fin 4) (s : State) : Host.Outcome State Fault Refusal :=
  .next (s.event (onExpiry (s.dev.door i).closeTimer (dorCloseTimeout i)))

/-- BRAKE_DELAY_EXPIRY (R124). -/
def execBrakeDelayExpiry (s : State) : Host.Outcome State Fault Refusal :=
  .next (s.event (onExpiry s.dev.dor.interlock.brakeTimer dorBrakeExpire))

end Sys2Proof.Machine
end

