-- ==== Sys2Proof/Machine/ExecGauge.lean ====
section
/-! DEFINITION. Meanings: the gauge driver unit (chapter 4). -/

namespace Sys2Proof.Machine

/-- GAUGE_UPDATE (R56). -/
def execGaugeUpdate (s : State) : Host.Outcome State Fault Refusal :=
  .next (s.event (onExpiry s.dev.gau.timer gaugeTick))

/-- PWM_PERIOD_END (R62). -/
def execPwmPeriodEnd (g : Fin 6) (s : State) : Host.Outcome State Fault Refusal :=
  .next (s.event (gaugePeriodEnd g))

/-- COIL_CURRENT_LIMIT (R62). -/
def execCoilCurrentLimit (g : Fin 6) (coil : Coil) (milliamps counts : Nat) (s : State) : Host.Outcome State Fault Refusal :=
  .next (s.event (coilCurrent g coil milliamps counts))

/-- RESTART_TIMER_EXPIRY (R64). -/
def execRestartTimerExpiry (g : Fin 6) (s : State) : Host.Outcome State Fault Refusal :=
  .next (s.event (onExpiry (s.dev.gauge g).restartTimer (restartEnd g)))

/-- HOLD_TIMER_EXPIRY (R67). -/
def execHoldTimerExpiry (g : Fin 6) (s : State) : Host.Outcome State Fault Refusal :=
  .next (s.event (onExpiry (s.dev.gauge g).holdTimer (gaugeHoldEnd g)))

end Sys2Proof.Machine
end

