-- ==== Sys2Proof/Machine/ExecLink.lean ====
section
/-! DEFINITION. Meanings: the receiver, the transmitter, the link timer and the frames that are no request of the
catalogue (chapter 10). -/

namespace Sys2Proof.Machine

/-- RX_BYTE (R184): the last byte of a valid frame hands it to the link in the same event. -/
def execRxByte (b : Byte) (stopBit : Bool) (s : State) : Host.Outcome State Fault Refusal :=
  .next (s.event (rxByte b stopBit handFrame))

/-- GAP_TIMER_EXPIRY (R184). -/
def execGapTimerExpiry (s : State) : Host.Outcome State Fault Refusal :=
  .next (s.event (onExpiry s.dev.lnk.gapTimer rxDiscard))

/-- KEEP_ALIVE (R185). -/
def execKeepAlive (kind : Byte) (payload : List Byte) (s : State) : Host.Outcome State Fault Refusal :=
  .next (s.event (frameCommand (.keepAlive kind payload)))

/-- UNKNOWN_KIND (R186). -/
def execUnknownKind (kind tag : Byte) (payload : List Byte) (s : State) : Host.Outcome State Fault Refusal :=
  .next (s.event (frameCommand (.unknownKind kind tag payload)))

/-- LINK_TIMER_EXPIRY (R192). -/
def execLinkTimerExpiry (s : State) : Host.Outcome State Fault Refusal :=
  .next (s.event (onExpiry s.dev.lnk.timer linkLoss))

/-- TRANSMIT_COMPLETE (R189). -/
def execTransmitComplete (s : State) : Host.Outcome State Fault Refusal :=
  .next (s.event transmitEnd)

end Sys2Proof.Machine
end

