-- ==== Sys2Proof/Machine/ExecMode.lean ====
section
/-! DEFINITION. Meanings: resets, ignition, the timers of MOD (chapter 9). -/

namespace Sys2Proof.Machine

/-- POWER_ON_RESET (R172, R183): every block takes its reset state, the debounced ignition is the pin level, and LOADING or STANDBY
follows. -/
def execPowerOnReset (ignition : Bool) (s : State) : Host.Outcome State Fault Refusal :=
  .next (s.event fun _ => powerOn ignition)

/-- IGN_PIN_CHANGE (R170). -/
def execIgnPinChange (level : Bool) (s : State) : Host.Outcome State Fault Refusal :=
  .next (s.event (ignitionPin level))

/-- IGNITION_DEBOUNCE_EXPIRY (R170, R171). -/
def execIgnitionDebounceExpiry (s : State) : Host.Outcome State Fault Refusal :=
  .next (s.event (onExpiry s.dev.mod.debounceTimer ignitionExpire))

/-- BULB_CHECK_EXPIRY (R174). -/
def execBulbCheckExpiry (s : State) : Host.Outcome State Fault Refusal :=
  .next (s.event bulbEnd)

/-- FLUSH_TIMER_EXPIRY (R175, R179). -/
def execFlushTimerExpiry (s : State) : Host.Outcome State Fault Refusal :=
  .next (s.event (onExpiry s.dev.mod.flushTimer (flushEnd true)))

/-- UNDERVOLTAGE_TIMER_EXPIRY (R180). -/
def execUndervoltageTimerExpiry (s : State) : Host.Outcome State Fault Refusal :=
  .next (s.event (onExpiry s.dev.mod.uvTimer undervoltExpire))

end Sys2Proof.Machine
end

