-- ==== Sys2Proof/Machine/ExecPulse.lean ====
section
/-! DEFINITION. Meanings: the pulse unit (chapter 3). -/

namespace Sys2Proof.Machine

/-- PULSE_EDGE (R42, R47): the edge comes when the microsecond counter reads `stamp`. -/
def execPulseEdge (input : PulseInput) (stamp : BitVec 32) (s : State) : Host.Outcome State Fault Refusal :=
  .next (s.event fun d => plsEdge input stamp (d.advanceCounter stamp))

/-- PULSE_UPDATE (R43-R46). -/
def execPulseUpdate (input : PulseInput) (s : State) : Host.Outcome State Fault Refusal :=
  .next (s.event (onExpiry (s.dev.pulse input).timer (plsUpdate input)))

end Sys2Proof.Machine
end

