-- ==== Sys2Proof/Machine/ExecRead.lean ====
section
/-! DEFINITION. Meanings: the requests that read and the link's own (R195 and the read requests of each chapter). -/

namespace Sys2Proof.Machine

/-- IDENTIFY, 0x01 (R195). -/
def execIdentify (tag : Byte) (payload : List Byte) (s : State) : Host.Outcome State Fault Refusal :=
  .next (s.event (frameCommand (.identify tag payload)))

/-- STATUS, 0x02 (R195). -/
def execStatus (tag : Byte) (payload : List Byte) (s : State) : Host.Outcome State Fault Refusal :=
  .next (s.event (frameCommand (.status tag payload)))

/-- SUBSCRIBE, 0x03 (R191). -/
def execSubscribe (tag : Byte) (payload : List Byte) (s : State) : Host.Outcome State Fault Refusal :=
  .next (s.event (frameCommand (.subscribe tag payload)))

/-- READ_CHANNELS, 0x04 (R195). -/
def execReadChannels (tag : Byte) (payload : List Byte) (s : State) : Host.Outcome State Fault Refusal :=
  .next (s.event (frameCommand (.readChannels tag payload)))

/-- SAMPLE_NOW, 0x05 (R13, R14). -/
def execSampleNow (tag : Byte) (payload : List Byte) (s : State) : Host.Outcome State Fault Refusal :=
  .next (s.event (frameCommand (.sampleNow tag payload)))

/-- READ_WARNINGS, 0x06 (R107). -/
def execReadWarnings (tag : Byte) (payload : List Byte) (s : State) : Host.Outcome State Fault Refusal :=
  .next (s.event (frameCommand (.readWarnings tag payload)))

/-- READ_DOORS, 0x0A (R129). -/
def execReadDoors (tag : Byte) (payload : List Byte) (s : State) : Host.Outcome State Fault Refusal :=
  .next (s.event (frameCommand (.readDoors tag payload)))

/-- READ_GAUGES, 0x0B (R76). -/
def execReadGauges (tag : Byte) (payload : List Byte) (s : State) : Host.Outcome State Fault Refusal :=
  .next (s.event (frameCommand (.readGauges tag payload)))

/-- READ_ODOMETER, 0x0C (R54). -/
def execReadOdometer (tag : Byte) (payload : List Byte) (s : State) : Host.Outcome State Fault Refusal :=
  .next (s.event (frameCommand (.readOdometer tag payload)))

/-- FAULT_LIST, 0x0D (R145). -/
def execFaultList (tag : Byte) (payload : List Byte) (s : State) : Host.Outcome State Fault Refusal :=
  .next (s.event (frameCommand (.faultList tag payload)))

/-- FAULT_READ, 0x0E (R146). -/
def execFaultRead (tag : Byte) (payload : List Byte) (s : State) : Host.Outcome State Fault Refusal :=
  .next (s.event (frameCommand (.faultRead tag payload)))

/-- READ_LAMPS, 0x1A (R107). -/
def execReadLamps (tag : Byte) (payload : List Byte) (s : State) : Host.Outcome State Fault Refusal :=
  .next (s.event (frameCommand (.readLamps tag payload)))

/-- CAL_READ, 0x17 (R161). -/
def execCalRead (tag : Byte) (payload : List Byte) (s : State) : Host.Outcome State Fault Refusal :=
  .next (s.event (frameCommand (.calRead tag payload)))

end Sys2Proof.Machine
end

