-- ==== Sys2Proof/Machine/ExecRequest.lean ====
section
/-! DEFINITION. Meanings: the requests that act on the vehicle side (chapters 5 to 7 and 9). -/

namespace Sys2Proof.Machine

/-- ACK_WARNINGS, 0x07 (R88). -/
def execAckWarnings (tag : Byte) (payload : List Byte) (s : State) : Host.Outcome State Fault Refusal :=
  .next (s.event (frameCommand (.ackWarnings tag payload)))

/-- SET_LAMPS, 0x08 (R89). -/
def execSetLamps (tag : Byte) (payload : List Byte) (s : State) : Host.Outcome State Fault Refusal :=
  .next (s.event (frameCommand (.setLamps tag payload)))

/-- DOOR_COMMAND, 0x09, RELEASE (R118). -/
def execDoorCommandRelease (tag door : Byte) (rest : List Byte) (s : State) : Host.Outcome State Fault Refusal :=
  .next (s.event (frameCommand (.doorCommandRelease tag door rest)))

/-- DOOR_COMMAND, 0x09, CLOSE (R118). -/
def execDoorCommandClose (tag door : Byte) (rest : List Byte) (s : State) : Host.Outcome State Fault Refusal :=
  .next (s.event (frameCommand (.doorCommandClose tag door rest)))

/-- FAULT_CLEAR, 0x0F, ALL (R144). -/
def execFaultClearAll (tag : Byte) (rest : List Byte) (s : State) : Host.Outcome State Fault Refusal :=
  .next (s.event (frameCommand (.faultClearAll tag rest)))

/-- FAULT_CLEAR, 0x0F, ONE (R144). -/
def execFaultClearOne (tag : Byte) (rest : List Byte) (s : State) : Host.Outcome State Fault Refusal :=
  .next (s.event (frameCommand (.faultClearOne tag rest)))

/-- SERVICE_ENTER, 0x10 (R176). -/
def execServiceEnter (tag : Byte) (payload : List Byte) (s : State) : Host.Outcome State Fault Refusal :=
  .next (s.event (frameCommand (.serviceEnter tag payload)))

/-- SERVICE_EXIT, 0x11 (R177). -/
def execServiceExit (tag : Byte) (payload : List Byte) (s : State) : Host.Outcome State Fault Refusal :=
  .next (s.event (frameCommand (.serviceExit tag payload)))

/-- OUTPUT_TEST, 0x12, gauge item (R71). -/
def execOutputTestGauge (tag : Byte) (rest : List Byte) (s : State) : Host.Outcome State Fault Refusal :=
  .next (s.event (frameCommand (.outputTestGauge tag rest)))

/-- OUTPUT_TEST, 0x12, lamp item (R96). -/
def execOutputTestLamp (tag : Byte) (rest : List Byte) (s : State) : Host.Outcome State Fault Refusal :=
  .next (s.event (frameCommand (.outputTestLamp tag rest)))

/-- OUTPUT_TEST, 0x12, chime item (R104). -/
def execOutputTestChime (tag : Byte) (rest : List Byte) (s : State) : Host.Outcome State Fault Refusal :=
  .next (s.event (frameCommand (.outputTestChime tag rest)))

/-- RESTORE_OUTPUTS, 0x18 (R182). -/
def execRestoreOutputs (tag : Byte) (payload : List Byte) (s : State) : Host.Outcome State Fault Refusal :=
  .next (s.event (frameCommand (.restoreOutputs tag payload)))

/-- RESET, 0x19 (R178). -/
def execReset (tag : Byte) (payload : List Byte) (s : State) : Host.Outcome State Fault Refusal :=
  .next (s.event (frameCommand (.reset tag payload)))

end Sys2Proof.Machine
end

