-- ==== Sys2Proof/Machine/ExecScan.lean ====
section
/-! DEFINITION. Meanings: the conversion sequencer (chapter 1). -/

namespace Sys2Proof.Machine

/-- SCAN_PERIOD_EXPIRY (R5, R6, R37). -/
def execScanPeriodExpiry (cls : ScanClass) (s : State) : Host.Outcome State Fault Refusal :=
  .next (s.event (onExpiry (s.dev.scan cls).timer (scanExpire cls)))

/-- SETTLE_TIMER_EXPIRY (R9). -/
def execSettleTimerExpiry (s : State) : Host.Outcome State Fault Refusal :=
  .next (s.event settleEnd)

/-- CONVERSION_COMPLETE (R9, R10, R14). -/
def execConversionComplete (sample peak : Int) (s : State) : Host.Outcome State Fault Refusal :=
  .next (s.event (conversionEnd sample peak))

/-- RECOVERY_GAP_EXPIRY (R11). -/
def execRecoveryGapExpiry (s : State) : Host.Outcome State Fault Refusal :=
  .next (s.event recoveryEnd)

end Sys2Proof.Machine
end

