-- ==== Sys2Proof/Machine/ExecStorage.lean ====
section
/-! DEFINITION. Meanings: the storage port (chapter 8). -/

namespace Sys2Proof.Machine

/-- STORAGE_POLL_TICK (R150, R151, R155). -/
def execStoragePollTick (status : Byte) (s : State) : Host.Outcome State Fault Refusal :=
  .next (s.event (statusRead status))

/-- READ_JOB_COMPLETE (R150). -/
def execReadJobComplete (result : ReadEnd) (s : State) : Host.Outcome State Fault Refusal :=
  .next (s.event (readEnded result))

/-- WRITE_JOB_COMPLETE (R151). -/
def execWriteJobComplete (ok : Bool) (s : State) : Host.Outcome State Fault Refusal :=
  .next (s.event (writeEnded ok))

/-- PROBE_COMPLETE (R155). -/
def execProbeComplete (status : Byte) (s : State) : Host.Outcome State Fault Refusal :=
  .next (s.event (probeEnded status))

end Sys2Proof.Machine
end

