-- ==== Sys2Proof/Machine/ExecWarn.lean ====
section
/-! DEFINITION. Meanings: the warning unit, its lamps and its chime (chapter 5). -/

namespace Sys2Proof.Machine

/-- WARNING_DELAY_EXPIRY (R84, R85). -/
def execWarningDelayExpiry (w : Fin 64) (s : State) : Host.Outcome State Fault Refusal :=
  .next (s.event (onExpiry (s.dev.warning w).timer (warningExpire w)))

/-- FLASH_PHASE_EXPIRY (R90). -/
def execFlashPhaseExpiry (s : State) : Host.Outcome State Fault Refusal :=
  .next (s.event flashEnd)

/-- DIAGNOSIS_TIMER_EXPIRY (R91-R93). -/
def execDiagnosisTimerExpiry (l : Fin 24) (s : State) : Host.Outcome State Fault Refusal :=
  .next (s.event (onExpiry (s.dev.lamp l).diagTimer (lampDiagnose l)))

/-- LAMP_OVERCURRENT (R93). -/
def execLampOvercurrent (l : Fin 24) (milliamps sinceOn : Nat) (s : State) : Host.Outcome State Fault Refusal :=
  .next (s.event (lampCurrent l milliamps sinceOn))

/-- RETRY_TIMER_EXPIRY (R93). -/
def execRetryTimerExpiry (l : Fin 24) (s : State) : Host.Outcome State Fault Refusal :=
  .next (s.event (onExpiry (s.dev.lamp l).retryTimer (lampRetry l)))

/-- CHIME_PLAYER_STEP (R100, R101). -/
def execChimePlayerStep (s : State) : Host.Outcome State Fault Refusal :=
  .next (s.event playerEnd)

/-- CHIME_SILENCE_END (R99). -/
def execChimeSilenceEnd (s : State) : Host.Outcome State Fault Refusal :=
  .next (s.event silenceOver)

/-- LAMP_SENSE_CHANGE (R91, R92). -/
def execLampSenseChange (l : Fin 24) (sense : LampSense) (s : State) : Host.Outcome State Fault Refusal :=
  .next (s.event (lampSensed l sense))

end Sys2Proof.Machine
end

