-- ==== Sys2Proof/Machine/Dispatch.lean ====
section
/-! DEFINITION. One arm per command. -/

namespace Sys2Proof.Machine

def exec (i : Instr) (s : State) : Host.Outcome State Fault Refusal :=
  match i with
  | .powerOnReset ignition => Sys2Proof.Machine.execPowerOnReset ignition s
  | .ignPinChange level => Sys2Proof.Machine.execIgnPinChange level s
  | .ignitionDebounceExpiry => Sys2Proof.Machine.execIgnitionDebounceExpiry s
  | .bulbCheckExpiry => Sys2Proof.Machine.execBulbCheckExpiry s
  | .flushTimerExpiry => Sys2Proof.Machine.execFlushTimerExpiry s
  | .undervoltageTimerExpiry => Sys2Proof.Machine.execUndervoltageTimerExpiry s
  | .scanPeriodExpiry cls => Sys2Proof.Machine.execScanPeriodExpiry cls s
  | .settleTimerExpiry => Sys2Proof.Machine.execSettleTimerExpiry s
  | .conversionComplete sample peak => Sys2Proof.Machine.execConversionComplete sample peak s
  | .recoveryGapExpiry => Sys2Proof.Machine.execRecoveryGapExpiry s
  | .pulseEdge input stamp => Sys2Proof.Machine.execPulseEdge input stamp s
  | .pulseUpdate input => Sys2Proof.Machine.execPulseUpdate input s
  | .gaugeUpdate => Sys2Proof.Machine.execGaugeUpdate s
  | .pwmPeriodEnd g => Sys2Proof.Machine.execPwmPeriodEnd g s
  | .coilCurrentLimit g coil milliamps counts => Sys2Proof.Machine.execCoilCurrentLimit g coil milliamps counts s
  | .restartTimerExpiry g => Sys2Proof.Machine.execRestartTimerExpiry g s
  | .holdTimerExpiry g => Sys2Proof.Machine.execHoldTimerExpiry g s
  | .warningDelayExpiry w => Sys2Proof.Machine.execWarningDelayExpiry w s
  | .flashPhaseExpiry => Sys2Proof.Machine.execFlashPhaseExpiry s
  | .diagnosisTimerExpiry l => Sys2Proof.Machine.execDiagnosisTimerExpiry l s
  | .lampOvercurrent l milliamps sinceOn => Sys2Proof.Machine.execLampOvercurrent l milliamps sinceOn s
  | .retryTimerExpiry l => Sys2Proof.Machine.execRetryTimerExpiry l s
  | .chimePlayerStep => Sys2Proof.Machine.execChimePlayerStep s
  | .chimeSilenceEnd => Sys2Proof.Machine.execChimeSilenceEnd s
  | .doorHoldTimerExpiry d => Sys2Proof.Machine.execDoorHoldTimerExpiry d s
  | .closeTimeout d => Sys2Proof.Machine.execCloseTimeout d s
  | .brakeDelayExpiry => Sys2Proof.Machine.execBrakeDelayExpiry s
  | .storagePollTick status => Sys2Proof.Machine.execStoragePollTick status s
  | .readJobComplete result => Sys2Proof.Machine.execReadJobComplete result s
  | .writeJobComplete ok => Sys2Proof.Machine.execWriteJobComplete ok s
  | .probeComplete status => Sys2Proof.Machine.execProbeComplete status s
  | .rxByte b stopBit => Sys2Proof.Machine.execRxByte b stopBit s
  | .gapTimerExpiry => Sys2Proof.Machine.execGapTimerExpiry s
  | .keepAlive kind payload => Sys2Proof.Machine.execKeepAlive kind payload s
  | .unknownKind kind tag payload => Sys2Proof.Machine.execUnknownKind kind tag payload s
  | .linkTimerExpiry => Sys2Proof.Machine.execLinkTimerExpiry s
  | .transmitComplete => Sys2Proof.Machine.execTransmitComplete s
  | .identify tag payload => Sys2Proof.Machine.execIdentify tag payload s
  | .status tag payload => Sys2Proof.Machine.execStatus tag payload s
  | .subscribe tag payload => Sys2Proof.Machine.execSubscribe tag payload s
  | .readChannels tag payload => Sys2Proof.Machine.execReadChannels tag payload s
  | .sampleNow tag payload => Sys2Proof.Machine.execSampleNow tag payload s
  | .readWarnings tag payload => Sys2Proof.Machine.execReadWarnings tag payload s
  | .ackWarnings tag payload => Sys2Proof.Machine.execAckWarnings tag payload s
  | .setLamps tag payload => Sys2Proof.Machine.execSetLamps tag payload s
  | .doorCommandRelease tag door rest => Sys2Proof.Machine.execDoorCommandRelease tag door rest s
  | .doorCommandClose tag door rest => Sys2Proof.Machine.execDoorCommandClose tag door rest s
  | .readDoors tag payload => Sys2Proof.Machine.execReadDoors tag payload s
  | .readGauges tag payload => Sys2Proof.Machine.execReadGauges tag payload s
  | .readOdometer tag payload => Sys2Proof.Machine.execReadOdometer tag payload s
  | .faultList tag payload => Sys2Proof.Machine.execFaultList tag payload s
  | .faultRead tag payload => Sys2Proof.Machine.execFaultRead tag payload s
  | .faultClearAll tag rest => Sys2Proof.Machine.execFaultClearAll tag rest s
  | .faultClearOne tag rest => Sys2Proof.Machine.execFaultClearOne tag rest s
  | .serviceEnter tag payload => Sys2Proof.Machine.execServiceEnter tag payload s
  | .serviceExit tag payload => Sys2Proof.Machine.execServiceExit tag payload s
  | .outputTestGauge tag rest => Sys2Proof.Machine.execOutputTestGauge tag rest s
  | .outputTestLamp tag rest => Sys2Proof.Machine.execOutputTestLamp tag rest s
  | .outputTestChime tag rest => Sys2Proof.Machine.execOutputTestChime tag rest s
  | .calBegin tag payload => Sys2Proof.Machine.execCalBegin tag payload s
  | .calWrite tag payload => Sys2Proof.Machine.execCalWrite tag payload s
  | .calCommit tag payload => Sys2Proof.Machine.execCalCommit tag payload s
  | .calAbort tag payload => Sys2Proof.Machine.execCalAbort tag payload s
  | .calRead tag payload => Sys2Proof.Machine.execCalRead tag payload s
  | .restoreOutputs tag payload => Sys2Proof.Machine.execRestoreOutputs tag payload s
  | .reset tag payload => Sys2Proof.Machine.execReset tag payload s
  | .readLamps tag payload => Sys2Proof.Machine.execReadLamps tag payload s
  | .lampSenseChange l sense => Sys2Proof.Machine.execLampSenseChange l sense s

end Sys2Proof.Machine
end

