-- ==== Sys2Proof/Machine/Step.lean ====
section
/-! DEFINITION. The step of the machine, and how a word is put in front of it. -/

namespace Sys2Proof.Machine

/-- One step: the command at the front of the queue takes effect with the rest of the queue waiting. On an empty
queue nothing happens at the part, and a microsecond passes. Log 1, Log 2. -/
def step (s : State) : Host.Outcome State Fault Refusal :=
  match s.pending with
  | [] => .next { s with dev := s.dev.tick }
  | c :: rest => exec c { s with pending := rest }

/-- The state with the command that a word spells at the front of its queue; the state itself where the word
spells none. No row of the table gives bits. Log 40. -/
def State.withFetchWord (s : State) (nbits w : Nat) : State :=
  match Sys2Proof.decodeTableWord nbits w with
  | some c => { s with pending := c :: s.pending }
  | none => s

end Sys2Proof.Machine
end

