-- ==== Sys2Proof/Safety.lean ====
section
/-! DEFINITION. What a safe state is, and the words the statements are written in: which frames are served, what a
taken request leaves in the link, and what an event leaves as it was. -/

namespace Sys2Proof.Machine

/-- The RELEASE line of a door is on. -/
def lineOn (d : Dev) (i : Fin 4) : Bool := (d.door i).line

/-- The conditions that hold in every state a command leaves: the canonical form of calibration RAM (section 8.5),
the bounds of the link's lists and of the on-demand list (R13, R185, R186, R190), that DOR runs in SWEEP, RUN and
SERVICE (R126, R127), and what stands behind the law of the RELEASE line (R119). -/
structure Inv (d : Dev) : Prop where
  ram : Memory.wf d.cal.ram = true
  requests : d.lnk.requests.length ≤ 4
  rejections : (d.lnk.replies.filter (·.rejection)).length ≤ 4
  notices : d.lnk.notices.length ≤ 32
  onDemand : d.seq.onDemand.length ≤ 8
  line : ∀ i : Fin 4, lineOn d i = ((d.door i).release == .released)
  released : ∀ i : Fin 4, (d.door i).release = .released →
    d.dor.running = true ∧ configured d i = true ∧ speedOk d (d.doorSettings i) = true
  running : d.dor.running = d.mod.mode.active

/-- The command completes: its answer is the next state in which the part is `e`, an idle transmitter started (R189), and
the commands that wait are as they were. -/
def Runs (c : Instr) (s : State) (e : Dev) : Prop := exec c s = .next { s with dev := txStart e }

/-- What an effect that reports faults and posts notices leaves as it was: the clock, SEQ, SIG, DOR, calibration RAM
and MOD whole; of PLS all but the odometer job; of LNK all but the notices; of STO all but the port's job and
queues. At reach 0 WRN and GAU are as they were too, at reach 1 GAU is; FLT is free at every reach. A job in flight
stays in flight, and the notice queue stays within its bound. -/
structure Told (reach : Nat) (d e : Dev) : Prop where
  clock : e.clock = d.clock
  seq : e.seq = d.seq
  sig : e.sig = d.sig
  pls : e.pls = { d.pls with odoJob := e.pls.odoJob, writeOwed := e.pls.writeOwed }
  gau : reach ≤ 1 → e.gau = d.gau
  wrn : reach = 0 → e.wrn = d.wrn
  dor : e.dor = d.dor
  sto : e.sto = { d.sto with
    job := e.sto.job, hostReads := e.sto.hostReads, storeQueued := e.sto.storeQueued
    lastHigh := e.sto.lastHigh, lastLow := e.sto.lastLow, highWhileLow := e.sto.highWhileLow
    loader := { d.sto.loader with queued := e.sto.loader.queued } }
  cal : e.cal = d.cal
  mod : e.mod = d.mod
  lnk : e.lnk = { d.lnk with notices := e.lnk.notices, overflow := e.lnk.overflow }
  room : d.lnk.notices.length ≤ 32 → e.lnk.notices.length ≤ 32
  flight : d.sto.job.isSome → e.sto.job = d.sto.job

/-- A frame that the link serves: the receiver is on, the tag is a request's and free, the request list has room, no
link loss is to be ended, and the four tests of R186 pass. -/
def served (d : Dev) (f : Frame) : Bool :=
  d.mod.mode.receives && f.tag != 0#8 && !tagInUse d f.tag && decide (d.lnk.requests.length < 4) &&
    !d.lnk.lost && !d.mod.resetPending && inCatalogue f.kind && admits d.mod.mode f.kind &&
    lengthFits f.kind f.payload

/-- The part when a served frame has been taken: the receiver hunts, the link timer has restarted if it ran, and the
request is in the list (R184-R186). -/
def taken (f : Frame) (d : Dev) : Dev :=
  { d with lnk := { d.lnk with
      assembly := none
      gapTimer := none
      timer := if d.lnk.timer.isSome then some (d.clock + d.linkTimeout) else none
      requests := d.lnk.requests ++ [⟨f.tag, f.kind, false⟩] } }

/-- A request answered at once: its reply joins the tail of the reply queue (R186). -/
def replied (f : Frame) (payload : List Byte) (d : Dev) : Dev :=
  { d with lnk := { d.lnk with
      replies := d.lnk.replies ++ [⟨f.kind + 0x80#8, f.tag, payload, false⟩] } }

end Sys2Proof.Machine
end

