-- ==== Sys2Proof/Certificates/Slice0/Obligations.lean ====
section
/-! DEFINITION. The statements for the provers, in the order of OBLIGATIONS.json. `Runs c s e` says that command `c`
completes in state `s` and leaves the part `e`, whose transmitter then starts if it is idle. -/

open Sys2Proof Sys2Proof.Machine

/-! ## The machine -/

/-- A step takes the command at the front of the queue, with the rest of the queue waiting. The queue is the model's
choice (Log 1). -/
def Obligations.StepTakesFrontCommand : Prop :=
  ∀ (c : Instr) (rest : List Instr) (s : State),
    step { s with pending := c :: rest } = exec c { s with pending := rest }

/-- Every command completes in every state, at the end of its event an idle transmitter has started (R189), and the
commands that wait are as they were. That no command faults or is refused is the model's choice, read from the spec
(Log 34), and so is that a command whose timer is stopped completes with no effect (Log 2). That the transmitter
starts at the end of the event is the model's reading (Log 6). -/
def Obligations.EveryCommandCompletes : Prop := ∀ (c : Instr) (s : State), ∃ e : Dev, Runs c s e

/-- Every step keeps `Inv`: the canonical form of calibration RAM, the bounds of the lists (R13, R185, R186, R190),
DOR running exactly in SWEEP, RUN and SERVICE, and what stands behind the RELEASE lines (R119). -/
def Obligations.StepKeepsInv : Prop :=
  ∀ s t : State, Inv s.dev → step s = .next t → Inv t.dev

/-- The state after reset meets `Inv`. Where the spec gives no value the state is the model's choice (Log 7, Log 8).
-/
def Obligations.ResetMeetsInv : Prop := Inv State.reset.dev

/-- The law of the RELEASE line, over every step from a state that meets `Inv` (R119): the line is on exactly while
the door is RELEASED in SWEEP, RUN or SERVICE, and on only while the last road sample was GOOD and not above the
door's release speed. -/
def Obligations.ReleaseLineLaw : Prop :=
  ∀ (s t : State) (i : Fin 4), Inv s.dev → step s = .next t →
    ((t.dev.door i).line = true ↔ (t.dev.door i).release = .released ∧
      (t.dev.mod.mode = .sweep ∨ t.dev.mod.mode = .run ∨ t.dev.mod.mode = .service)) ∧
    ((t.dev.door i).line = true → t.dev.dor.roadQuality = .good ∧
      t.dev.dor.roadInstant ≤ ((t.dev.dor.cfg.doors[i]).releaseSpeed : Int))

/-! ## Resets, ignition and modes (chapter 9) -/

/-- POWER_ON_RESET (R172). With the IGN pin off the part is in the reset state, STANDBY. With it on the part is in
LOADING with the debounced ignition on (R170), a cycle increase is owed (R49), and the loader's probe is on the port
(R158); SEQ, SIG, GAU, WRN, DOR, FLT, LNK and the clock are at their reset values. The transmitter starts nothing.
Where the spec gives no reset value the fields are the model's choice (Log 7, Log 9, Log 16, Log 17). -/
def Obligations.PowerOnResetEntersFirstMode : Prop :=
  ∀ s : State,
    Runs (.powerOnReset false) s State.reset.dev ∧
    ∃ e : Dev, Runs (.powerOnReset true) s e ∧
      e.mod = { (ModState.resetWith true) with mode := .loading } ∧
      e.pls = { PlsState.resetValue with cycleOwed := true } ∧
      e.sto = { StoState.resetValue with
        lastHigh := some .loader
        job := some ⟨.loader, .probe, 1, 0, .started, none, 0⟩
        loader := { Loader.resetValue with state := .probing } } ∧
      e.clock = 0 ∧ e.seq = State.reset.dev.seq ∧ e.sig = State.reset.dev.sig ∧ e.gau = State.reset.dev.gau ∧
      e.wrn = State.reset.dev.wrn ∧ e.dor = State.reset.dev.dor ∧ e.flt = State.reset.dev.flt ∧
      e.cal = State.reset.dev.cal ∧ e.lnk = State.reset.dev.lnk

/-- IGN_PIN_CHANGE (R170): a pin that agrees with the debounced state stops the debounce timer; one that differs
starts it with 50 ms (toward on) or 200 ms (toward off) unless it runs. Nothing else changes. -/
def Obligations.IgnitionPinDebounced : Prop :=
  ∀ (s : State) (level : Bool),
    Runs (.ignPinChange level) s { s.dev with mod := { s.dev.mod with
      ignPin := level
      debounceTimer :=
        if level = s.dev.mod.ignition then none
        else if s.dev.mod.debounceTimer.isSome then s.dev.mod.debounceTimer
        else some (s.dev.clock + if level then 50000 else 200000) } }

/-- IGNITION_DEBOUNCE_EXPIRY (R170, R171, R175). The debounced state changes and its SYSTEM_CHANGE is posted. In
SAVING, MOD records or forgets that the ignition has returned. Elsewhere nothing more happens under a pending reset,
at a turning on outside STANDBY, and at a turning off in STANDBY. A turning on in STANDBY enters LOADING and begins a
cycle: the counter rises or the increase is owed, the obstruction counts and the restarts are 0, and the loader probes
or fetches. A turning off in LOADING or AWAITING_IMAGE stops the loader: with its job in flight the mode waits for the
job, and otherwise it is STANDBY. A turning off in SWEEP, RUN or SERVICE enters SAVING, with the flush running for
5,000 ms while a job, a request or a reply is left, and STANDBY at once where nothing is left to flush; DOR, WRN and
SEQ stop, every door is HELD with its line off, and the link timer stops. Calibration RAM is as it was in every case.
The clock moves on to the moment of the event if it lags it (the model's choice, Log 2). -/
def Obligations.IgnitionDebounceExpiryActs : Prop :=
  ∀ (s : State) (t : Nat), s.dev.mod.debounceTimer = some t →
    let m := s.dev.mod
    let now := max s.dev.clock t
    let flipped : ModState := { m with ignition := !m.ignition, debounceTimer := none }
    let d : Dev := { s.dev with clock := now, mod := flipped }
    let p := lnkPost .systemChange 0 (systemContent d) d
    let runs (e : Dev) : Prop := Runs .ignitionDebounceExpiry s e
    let inFlight := ∃ j, s.dev.sto.job = some j ∧ j.requester = .loader
    let aborted := match s.dev.sto.loader.abortTag with
      | some tag => lnkAnswer tag [9#8, 0#8, 0#8] p
      | none => p
    let standby (previous : Mode) (cause : ModeCause) : ModState := { flipped with
      mode := .standby, previous := some previous, cause := cause, supply := .on, uvTimer := none
      undervolt := false, overvolt := false, overtemp := false
      undervoltHeld := false, overvoltHeld := false, overtempHeld := false }
    (m.mode = .saving → runs { p with mod := { flipped with returned := !m.ignition } }) ∧
    (m.mode ≠ .saving → m.resetPending = true → runs p) ∧
    (m.mode ≠ .saving → m.mode ≠ .standby → m.ignition = false → runs p) ∧
    (m.mode = .standby → m.ignition = true → runs p) ∧
    (m.mode = .standby → m.ignition = false → m.resetPending = false → s.dev.sto.storeQueued = false →
      (s.dev.sto.storage = .unprobed ∨ (s.dev.sto.storage = .present ∧ s.dev.cal.valid = false)) →
      ∃ e : Dev, runs e ∧
        e.mod = { flipped with mode := .loading, previous := some .standby, cause := .ignitionOn } ∧
        e.sto.loader.state = (if s.dev.sto.storage = .unprobed then .probing else .fetchingHeader) ∧
        e.sto.job.isSome = true ∧
        e.pls.cycles = (if s.dev.pls.ringTaken then min 65535 (s.dev.pls.cycles + 1) else s.dev.pls.cycles) ∧
        e.pls.cycleOwed = (if s.dev.pls.ringTaken then s.dev.pls.cycleOwed else true) ∧
        e.pls.distance = s.dev.pls.distance ∧ (∀ i, (e.door i).obstructions = 0) ∧
        (∀ g, (e.gauge g).restarts = 0) ∧ e.seq = s.dev.seq ∧ e.cal = s.dev.cal ∧ e.clock = now) ∧
    ((m.mode = .loading ∨ m.mode = .awaitingImage) → m.ignition = true → m.resetPending = false →
      (inFlight → runs { aborted with sto := { s.dev.sto with loader := { s.dev.sto.loader with
        queued := none, abortTag := none, stop := some .ignitionOff } } }) ∧
      (¬inFlight → ∃ e : Dev, runs e ∧ e.mod = standby m.mode .ignitionOff ∧ e.sto.loader.state = .idle ∧
        e.lnk.mask = 0#8 ∧ e.lnk.notices = [] ∧ e.lnk.requests = aborted.lnk.requests ∧
        e.lnk.replies = aborted.lnk.replies ∧ e.cal = s.dev.cal ∧ e.clock = now)) ∧
    ((m.mode = .sweep ∨ m.mode = .run ∨ m.mode = .service) → m.ignition = true → m.resetPending = false →
      let k := s.dev.sto
      (k.job.isSome = true ∨ s.dev.lnk.requests ≠ [] ∨ s.dev.lnk.replies ≠ [] ∨
          (s.dev.pls.ringTaken = true ∧ k.storage ≠ .absent ∧ s.dev.pls.odoJob = .none) →
        ∃ e : Dev, runs e ∧
          e.mod = { flipped with
            mode := .saving, previous := some m.mode, cause := .ignitionOff, flush := .saving
            flushTimer := some (now + 5000000), returned := false, bulb := .stopped, uvTimer := none } ∧
          e.dor.running = false ∧ (∀ i, (e.door i).release = .held ∧ (e.door i).line = false) ∧
          e.wrn.flash = none ∧ e.seq.fast.timer = none ∧ e.seq.medium.timer = none ∧ e.seq.slow.timer = none ∧
          e.seq.onDemand = [] ∧ e.lnk.timer = none ∧ e.cal = s.dev.cal ∧ (∀ j, k.job = some j → e.sto.job = some j)) ∧
      (k.storage = .absent → k.job = none → s.dev.flt.queue = [] → s.dev.pls.odoJob ≠ .queued →
        k.loader.queued = none → k.hostReads = [] → k.storeQueued = false → s.dev.lnk.requests = [] →
        s.dev.lnk.replies = [] →
        ∃ e : Dev, runs e ∧
          e.mod = { standby .saving .flushDone with
            flush := .none, flushTimer := none, returned := false, bulb := .stopped } ∧
          e.dor.running = false ∧ (∀ i, (e.door i).release = .held ∧ (e.door i).line = false) ∧
          e.wrn.flash = none ∧ e.lnk.mask = 0#8 ∧ e.lnk.notices = [] ∧ e.lnk.timer = none ∧ e.cal = s.dev.cal))

/-- BULB_CHECK_EXPIRY (R174). While some enabled gauge has neither finished its sweep nor is locked off, the timer has
expired and nothing else changes; otherwise the part enters RUN, and each gauge in SWEEP goes into pursuit with its
sweep phase removed (R68). The clock moves on to the moment of the event if it lags it (the model's choice, Log 2). -/
def Obligations.BulbCheckExpiryEndsSweep : Prop :=
  ∀ (s : State) (t : Nat), s.dev.mod.bulb = .running t → s.dev.mod.mode = .sweep →
    let done := ∀ g : Fin 6, (s.dev.gaugeCfg g).enabled = true →
      (s.dev.gauge g).phase = some .done ∨ (s.dev.gauge g).state = .lockedOff
    (¬done → Runs .bulbCheckExpiry s { s.dev with
      clock := max s.dev.clock t, mod := { s.dev.mod with bulb := .expired } }) ∧
    (done → ∃ e : Dev, Runs .bulbCheckExpiry s e ∧
      e.mod = { s.dev.mod with mode := .run, previous := some .sweep, cause := .sweepDone, bulb := .stopped } ∧
      (∀ g, (s.dev.gauge g).state = .sweep →
        (e.gauge g).phase = none ∧ ((e.gauge g).state = .tracking ∨ (e.gauge g).state = .invalid)) ∧
      e.seq = s.dev.seq ∧ e.sig = s.dev.sig ∧ e.cal = s.dev.cal)

/-- FLUSH_TIMER_EXPIRY (R175, R179). With a reset pending, the soft reset: reset cause HOST_REQUEST, the first mode by
the debounced ignition, requests and notices gone, RAM bytes, distance and cycles kept. Otherwise with the ignition
returned, RUN; and with it off, STANDBY with cause FLUSH_LIMIT, the subscription mask and the notices cleared (R194).
That a soft reset keeps the bytes of calibration RAM is the model's choice (Log 7), and so is that the return clears
the record of the ignition's return (Log 59). -/
def Obligations.FlushTimerExpiryLeavesFlush : Prop :=
  ∀ (s : State) (t : Nat), s.dev.mod.flushTimer = some t →
    (s.dev.mod.resetPending = true → ∃ e : Dev, Runs .flushTimerExpiry s e ∧
      e.mod.resetCause = .hostRequest ∧ e.mod.resetPending = false ∧ e.mod.flush = .none ∧
      e.mod.mode = (if s.dev.mod.ignition then .loading else .standby) ∧
      e.lnk.requests = [] ∧ e.lnk.notices = [] ∧ e.cal.ram = s.dev.cal.ram ∧ e.cal.valid = false ∧
      e.pls.distance = s.dev.pls.distance ∧ e.pls.cycles = s.dev.pls.cycles) ∧
    (s.dev.mod.resetPending = false → s.dev.mod.returned = true → ∃ e : Dev, Runs .flushTimerExpiry s e ∧
      e.mod.mode = .run ∧ e.mod.previous = some s.dev.mod.mode ∧ e.mod.cause = .ignitionReturned ∧
      e.mod.flush = .none ∧ e.mod.flushTimer = none ∧ e.mod.returned = false ∧ e.dor.running = true ∧
      e.cal = s.dev.cal) ∧
    (s.dev.mod.resetPending = false → s.dev.mod.returned = false → s.dev.mod.ignition = false →
      ∃ e : Dev, Runs .flushTimerExpiry s e ∧
        e.mod.mode = .standby ∧ e.mod.previous = some s.dev.mod.mode ∧ e.mod.cause = .flushLimit ∧
        e.mod.flush = .none ∧ e.mod.flushTimer = none ∧ e.dor.running = false ∧
        e.lnk.mask = 0#8 ∧ e.lnk.notices = [] ∧ e.lnk.requests = s.dev.lnk.requests ∧ e.cal = s.dev.cal)

/-- UNDERVOLTAGE_TIMER_EXPIRY (R180, R181): UNDERVOLT becomes set and held, the driver supply goes off, and with it
from ON every gauge that is driven or in SHUTDOWN (R69). The other causes stay. The clock moves on to the moment of
the event if it lags it (the model's choice, Log 2). -/
def Obligations.UndervoltageTurnsSupplyOff : Prop :=
  ∀ (s : State) (t : Nat), s.dev.mod.uvTimer = some t → s.dev.mod.undervolt = false →
    ∃ e : Dev, Runs .undervoltageTimerExpiry s e ∧
      e.clock = max s.dev.clock t ∧
      e.mod.undervolt = true ∧ e.mod.undervoltHeld = true ∧ e.mod.uvTimer = none ∧ e.mod.supply = .off ∧
      e.mod.overvolt = s.dev.mod.overvolt ∧ e.mod.overtemp = s.dev.mod.overtemp ∧
      (s.dev.mod.supply = .on → ∀ g, (e.gauge g).state.driven = false ∧ (e.gauge g).state ≠ .shutdown) ∧
      (∀ i, e.door i = s.dev.door i) ∧ e.sig = s.dev.sig ∧ e.seq = s.dev.seq ∧ e.cal = s.dev.cal

/-! ## Conversions and channels (chapters 1 and 2) -/

/-- SCAN_PERIOD_EXPIRY (R5, R6, R37). The period timer restarts. A scan still unfinished is an overrun: counted up to
255, marked late, its on-time count 0 and the fault held. Otherwise a class with channels has its scan requested from
its first channel, and an empty class is complete and on time at once. The other classes, the on-demand list and a
converter that is not idle stay. The age of every channel 0-43 of the class rises by one up to 255, and a record whose
age reaches 3 becomes stale; every other record stays as it was. The clock moves on to the moment of the event if it
lags it (the model's choice, Log 2). -/
def Obligations.ScanExpiryRequestsAndAges : Prop :=
  ∀ (s : State) (k : ScanClass) (t : Nat), (s.dev.scan k).timer = some t →
    let c := s.dev.scan k
    let now := max s.dev.clock t
    let period := match k with
      | .fast => 10000
      | .medium => 50000
      | .slow => 250000
    let onTime := min 10 (c.onTime + 1)
    ∃ e : Dev, Runs (.scanPeriodExpiry k) s e ∧
      e.scan k =
        (if c.request then { c with
          timer := some (now + period), overruns := min 255 (c.overruns + 1), late := true, onTime := 0, held := true }
        else match c.set with
          | [] => { c with
            timer := some (now + period), position := none, late := false, onTime := onTime
            held := c.held && decide (onTime < 10) }
          | ch :: _ => { c with timer := some (now + period), request := true, position := some ch, late := false }) ∧
      (c.request = true ∨ s.dev.seq.converter ≠ .idle → e.seq.converter = s.dev.seq.converter) ∧
      e.seq.onDemand = s.dev.seq.onDemand ∧
      (∀ k', k' ≠ k → e.scan k' = s.dev.scan k') ∧ e.clock = now ∧ e.cal = s.dev.cal ∧
      ∀ ch, e.chan ch =
        if ch < 44 ∧ ch ∈ c.set then
          { s.dev.chan ch with
            age := min 255 ((s.dev.chan ch).age + 1)
            stale := (s.dev.chan ch).stale || decide (min 255 ((s.dev.chan ch).age + 1) = 3) }
        else s.dev.chan ch

/-- SETTLE_TIMER_EXPIRY and RECOVERY_GAP_EXPIRY (R8, R9, R11). A settled channel's conversion begins and takes 10 us.
After the recovery gap the grant goes to the first unfinished scan in the order FAST, MEDIUM, SLOW, then to the oldest
unconverted on-demand entry; its channel settles for its settle time with its bias and range. With nothing pending the
converter is IDLE. A converter in another state is left alone. The clock moves on to the moment of the event if it
lags it (the model's choice, Log 2). -/
def Obligations.ConverterSettlesAndGrants : Prop :=
  ∀ s : State,
    (∀ c t, s.dev.seq.converter = .settling c t → Runs .settleTimerExpiry s { s.dev with
      clock := max s.dev.clock t
      seq := { s.dev.seq with converter := .converting c (max s.dev.clock t + 10) } }) ∧
    ((∀ c t, s.dev.seq.converter ≠ .settling c t) → Runs .settleTimerExpiry s s.dev) ∧
    ((∀ t, s.dev.seq.converter ≠ .recovering t) → Runs .recoveryGapExpiry s s.dev) ∧
    ∀ t, s.dev.seq.converter = .recovering t →
      let now := max s.dev.clock t
      let settle (ch : Nat) (src : Source) : Converter :=
        .settling ⟨ch, src, s.dev.chanBias ch, s.dev.chanRange ch⟩ (now + s.dev.settleTime ch)
      Runs .recoveryGapExpiry s { s.dev with
        clock := now
        seq := { s.dev.seq with converter :=
          match s.dev.seq.fast.position, s.dev.seq.medium.position, s.dev.seq.slow.position,
              s.dev.seq.onDemand.find? (·.result.isNone) with
          | some ch, _, _, _ => settle ch (.scan .fast)
          | none, some ch, _, _ => settle ch (.scan .medium)
          | none, none, some ch, _ => settle ch (.scan .slow)
          | none, none, none, some d => settle d.channel .onDemand
          | none, none, none, none => .idle } }

/-- CONVERSION_COMPLETE of an on-demand conversion (R14) whose entry is the only one of its request: the reply joins
the reply queue with the ADC fault flag, the channel, the raw code and the over-voltage flag; the entry leaves the
list, the request is no longer deferred, and no channel record changes (R10). The operands are microvolts (Log 33).
The clock moves on to the moment of the event if it lags it (the model's choice, Log 2). -/
def Obligations.OnDemandResultIsAnswered : Prop :=
  ∀ (s : State) (c : Conversion) (t : Nat) (sample peak : Int) (q : DemandEntry) (r : Request),
    s.dev.seq.converter = .converting c t → c.source = .onDemand → c.channel < 40 →
    s.dev.seq.onDemand = [q] → q.result = none → s.dev.lnk.requests = [r] → r.tag = q.tag → r.kind = 0x05#8 →
    ∃ e : Dev, Runs (.conversionComplete sample peak) s e ∧
      e.seq.onDemand = [] ∧
      e.lnk = { s.dev.lnk with
        requests := [{ r with deferred := false }]
        replies := s.dev.lnk.replies ++ [⟨0x85#8, q.tag,
          [0#8, if s.dev.seq.adcFault then 1#8 else 0#8, 1#8, BitVec.ofNat 8 q.channel] ++
            be16 (pinCode c.range sample) ++ [if overVoltage c.range sample peak then 1#8 else 0#8], false⟩] } ∧
      e.sig = s.dev.sig ∧ e.clock = max s.dev.clock t ∧ e.cal = s.dev.cal ∧ e.mod = s.dev.mod

/-- CONVERSION_COMPLETE of REFCHK in a SLOW scan (R7, R9, R15, R16). A code outside 1,980 to 2,020 sets ADC_FAULT and
takes the good-reference count to 0; a code within, under ADC_FAULT, counts, and the third in a row clears it. At each
change of ADC_FAULT every record 0-43 takes the new state as its ADC-fault cause, and at its setting every one loses
its primed flag. As the last channel of its set REFCHK ends the scan, which is judged: the on-time count is 0 after a
late scan and otherwise one higher, up to 10, and at 10 the overrun fault is no longer held, the record of 0x6102 no
longer ACTIVE. The operands are microvolts (Log 33). The clock moves on to the moment of the event if it lags it (the
model's choice, Log 2). -/
def Obligations.ReferenceCheckJudgesAdc : Prop :=
  ∀ (s : State) (c : Conversion) (t : Nat) (sample peak : Int),
    s.dev.seq.converter = .converting c t → c.source = .scan .slow → c.channel = 43 →
    let q := s.dev.seq
    let code := internalCode 43 sample
    let good := 1980 ≤ code ∧ code ≤ 2020
    let onTime := if q.slow.late then 0 else min 10 (q.slow.onTime + 1)
    ∃ e : Dev, Runs (.conversionComplete sample peak) s e ∧ e.clock = max s.dev.clock t ∧
      (¬good → e.seq.adcFault = true ∧ e.seq.goodRefs = 0) ∧
      (good → q.adcFault = false → e.seq.adcFault = false ∧ e.seq.goodRefs = q.goodRefs) ∧
      (good → q.adcFault = true → q.goodRefs < 2 → e.seq.adcFault = true ∧ e.seq.goodRefs = q.goodRefs + 1) ∧
      (good → q.adcFault = true → 2 ≤ q.goodRefs → e.seq.adcFault = false ∧ e.seq.goodRefs = 0) ∧
      (q.adcFault ≠ e.seq.adcFault → ∀ ch, ch < 44 → (e.chan ch).adcFault = e.seq.adcFault) ∧
      (q.adcFault = false → ¬good → ∀ ch, ch < 44 → (e.chan ch).primed = false) ∧
      (∀ before, q.slow.set = before ++ [43] → 43 ∉ before →
        e.seq.slow = { q.slow with
          request := false, position := none, onTime := onTime, held := q.slow.held && decide (onTime ≠ 10) } ∧
        (onTime = 10 → q.slow.held = true → ∀ i r, (e.slot i).record = some r → r.code = 0x6102#16 →
          (∀ k r', k < i → (e.slot k).record = some r' → r'.code ≠ 0x6102#16) → r.active = false)) ∧
      e.seq.onDemand = q.onDemand ∧ e.cal = s.dev.cal

/-- CONVERSION_COMPLETE of an ANALOG sense pin in a scan with no wiring fault and a code in the normal range (R25,
R28, R32, R33): the corrected code, the instant value of the curve, the filter and its value are written; the counts
of faults, age and staleness clear. No other record changes, and the scan goes on to the next channel of its set (R9).
The operands are microvolts (Log 33). -/
def Obligations.AnalogScanResultIsUsed : Prop :=
  ∀ (s : State) (c : Conversion) (t : Nat) (k : ScanClass) (sample peak : Int),
    s.dev.seq.converter = .converting c t → c.source = .scan k → c.channel < 40 →
    let p := s.dev.pinCfg c.channel
    let r := s.dev.chan c.channel
    let raw := pinCode c.range sample
    let ref := s.dev.sig.refSsup.getD 0
    let code := if p.ratiometric then min 4095 ((raw * 4000 + ref / 2) / ref) else raw
    let y := curve p.points code
    let acc := if r.primed then r.acc + (y * 256 - r.acc) / (2 ^ p.k : Nat) else y * 256
    r.adcFault = false → p.switch = false → overVoltage c.range sample peak = false → r.wiring = none →
    (p.ratiometric = true → s.dev.sig.refSsup = some ref ∧ s.dev.sig.supplyFault = false) →
    p.t1 ≤ code → code < p.t4 →
    ∃ e : Dev, Runs (.conversionComplete sample peak) s e ∧
      (∀ before next after, (s.dev.scan k).set = before ++ c.channel :: next :: after → c.channel ∉ before →
        (e.scan k).position = some next) ∧
      e.seq.onDemand = s.dev.seq.onDemand ∧ e.cal = s.dev.cal ∧
      ∀ ch, e.chan ch =
        if ch = c.channel then { r with
          raw := raw, corrected := code, supplyFault := false, age := 0, stale := false, notYet := false
          pendingFault := none, acc := acc, value := (acc + 128) / 256, instant := y, primed := true }
        else s.dev.chan ch

/-- CONVERSION_COMPLETE of a SWITCH sense pin in a scan with no wiring fault, already primed, at an active or inactive
level (R27, R35, R36): a level that agrees with the state clears the debounce count; one that differs counts, and at
the debounce setting flips the state. No other record changes. The operands are microvolts (Log 33). -/
def Obligations.SwitchScanResultIsDebounced : Prop :=
  ∀ (s : State) (c : Conversion) (t : Nat) (k : ScanClass) (sample peak : Int) (v : Int),
    s.dev.seq.converter = .converting c t → c.source = .scan k → c.channel < 40 →
    let p := s.dev.pinCfg c.channel
    let r := s.dev.chan c.channel
    let raw := pinCode c.range sample
    r.adcFault = false → p.switch = true → p.ratiometric = false → overVoltage c.range sample peak = false →
    r.wiring = none → r.primed = true →
    ((p.t1 ≤ raw ∧ raw < p.t2 ∧ raw < p.t4 ∧ v = (if p.invert then 0 else 1)) ∨
      (p.t1 ≤ raw ∧ p.t2 ≤ raw ∧ p.t3 ≤ raw ∧ raw < p.t4 ∧ v = (if p.invert then 1 else 0))) →
    ∃ e : Dev, Runs (.conversionComplete sample peak) s e ∧
      ∀ ch, e.chan ch =
        if ch = c.channel then
          let used := { r with
            raw := raw, corrected := raw, supplyFault := false, age := 0, stale := false, notYet := false
            pendingFault := none, instant := v }
          if v = r.value then { used with debounce := 0 }
          else if p.debounce ≤ r.debounce + 1 then { used with value := v, debounce := 0 }
          else { used with debounce := r.debounce + 1 }
        else s.dev.chan ch

/-- CONVERSION_COMPLETE of a sense pin in a scan, the persistence of wiring faults (R26, R28-R31). WIRE_LOW with no
fault confirmed is counted, and at the set count confirmed, the substitute policy giving the default value. With a
fault confirmed it takes the heal count to 0: the same fault ends the pending one, and another is counted and at the
set count replaced, the value as it was. A normal result of an ANALOG pin with a fault confirmed is counted and not
used below the heal count limit; at the limit the fault is gone and the filter starts from this result. No other
record changes. A replacement of any fault by any other is reported as the old one absent and then the new one
present, and a healing as the old one absent. The operands are microvolts (Log 33). -/
def Obligations.WireLowIsCountedAndConfirmed : Prop :=
  (∀ (s : State) (c : Conversion) (t : Nat) (k : ScanClass) (sample peak : Int),
    s.dev.seq.converter = .converting c t → c.source = .scan k → c.channel < 40 →
    let p := s.dev.pinCfg c.channel
    let r := s.dev.chan c.channel
    let raw := pinCode c.range sample
    let n := match r.pendingFault with
      | some (.wireLow, m) => m + 1
      | _ => 1
    let seen := { r with raw := raw, corrected := raw, supplyFault := false, age := 0, stale := false }
    let becomes (after : ChanRec) : Prop := ∃ e : Dev, Runs (.conversionComplete sample peak) s e ∧
      ∀ ch, e.chan ch = if ch = c.channel then after else s.dev.chan ch
    r.adcFault = false → p.ratiometric = false → overVoltage c.range sample peak = false →
    (r.wiring = none → raw < p.t1 → becomes
      (if n < p.setCount then { seen with pendingFault := some (.wireLow, n) }
      else if p.substitute then { seen with
        wiring := some .wireLow, pendingFault := none, heal := some 0, value := p.default, instant := p.default }
      else { seen with wiring := some .wireLow, pendingFault := none, heal := some 0 })) ∧
    (∀ x, r.wiring = some x → raw < p.t1 → becomes
      (if x = .wireLow then { seen with heal := some 0, pendingFault := none }
      else if n < p.setCount then { seen with heal := some 0, pendingFault := some (.wireLow, n) }
      else { seen with heal := some 0, pendingFault := none, wiring := some .wireLow })) ∧
    (∀ x, r.wiring = some x → p.switch = false → p.t1 ≤ raw → raw < p.t4 →
      let healed := r.heal.getD 0 + 1
      let y := curve p.points raw
      becomes
        (if healed < p.healLimit then { seen with pendingFault := none, heal := some healed }
        else { seen with
          pendingFault := none, heal := none, wiring := none, acc := y * 256, value := y, instant := y
          primed := true, notYet := false }))) ∧
  ∀ (p : PinCfg) (r : ChanRec) (x y : WiringFault) (level : Bool), r.wiring = some x →
    (y ≠ x → p.setCount ≤ pendingCount r y → (takeCandidate p y r).reports = [(x, false), (y, true)]) ∧
    (y ≠ x → pendingCount r y < p.setCount → (takeCandidate p y r).reports = []) ∧
    (p.healLimit ≤ r.heal.getD 0 + 1 → (takeNormal p .inRange r).reports = [(x, false)] ∧
      (takeNormal p (.level level) r).reports = [(x, false)])

/-! ## Pulses (chapter 3) -/

/-- PULSE_EDGE (R42, R47). The clock moves on until the counter reads the stamp. An edge outside SWEEP, RUN, SERVICE
and SAVING, or closer than minPeriod to the last, does nothing more. An accepted edge is captured and counted; a road
edge also advances the distance by 100 / ppk of 10 m, with the remainder in frac, and a whole kilometre asks for an
odometer write (R50). The clock moves on to the moment of the event if it lags it (the model's choice, Log 2). -/
def Obligations.PulseEdgeIsCaptured : Prop :=
  ∀ (s : State) (i : PulseInput) (stamp : BitVec 32),
    let now := s.dev.clock + (stamp - BitVec.ofNat 32 s.dev.clock).toNat
    let p := s.dev.pulse i
    let taken := (s.dev.mod.mode = .sweep ∨ s.dev.mod.mode = .run ∨ s.dev.mod.mode = .service ∨
        s.dev.mod.mode = .saving) ∧
      (∀ last, p.lastEdge = some last → (s.dev.pulseCfg i).minPeriod ≤ (stamp - last).toNat)
    let captured := { p with lastEdge := some stamp, tLast := some stamp, count := p.count + 1 }
    (¬taken → Runs (.pulseEdge i stamp) s { s.dev with clock := now }) ∧
    (taken → i = .engine → Runs (.pulseEdge i stamp) s
      { s.dev with clock := now, pls := { s.dev.pls with engine := captured } }) ∧
    (taken → i = .road →
      let ppk := (s.dev.pulseCfg .road).perUnit
      let distance := min 4294967295 (s.dev.pls.distance + (s.dev.pls.frac + 100) / ppk)
      let moved := { s.dev.pls with
        road := captured, frac := (s.dev.pls.frac + 100) % ppk, distance := distance }
      ∃ e : Dev, Runs (.pulseEdge i stamp) s e ∧
        Told 0 { s.dev with clock := now, pls := moved } e ∧
        (distance / 100 ≤ s.dev.pls.distance / 100 → e = { s.dev with clock := now, pls := moved }) ∧
        (s.dev.pls.distance / 100 < distance / 100 → s.dev.pls.ringTaken = true → s.dev.sto.storage ≠ .absent →
          e.pls.odoJob ≠ .none))

/-- PULSE_UPDATE with edges in the window and a reference from an earlier one (R43, R45): the period is the rounded
mean of the intervals, raw the rounded and limited speed, the reference the last edge; the record takes raw through
the filter with quality causes cleared; the update timer restarts with 10 ms. The other input and the other records
stay. The clock moves on to the moment of the event if it lags it (the model's choice, Log 2). -/
def Obligations.PulseUpdateComputesSpeed : Prop :=
  ∀ (s : State) (i : PulseInput) (t : Nat) (ref last : BitVec 32),
    (s.dev.pulse i).timer = some t → (s.dev.pulse i).count ≠ 0 → (s.dev.pulse i).tRef = some ref →
    (s.dev.pulse i).tLast = some last →
    let p := s.dev.pulse i
    let g := s.dev.pulseCfg i
    let period := (2 * (last - ref).toNat + p.count) / (2 * p.count)
    let raw : Nat := match i with
      | .road => min 2000 ((2 * 36000000000 + period * g.perUnit) / (2 * (period * g.perUnit)))
      | .engine => min 4000 ((2 * 60000000 + period * g.perUnit) / (2 * (period * g.perUnit)))
    let ch := match i with
      | .road => 44
      | .engine => 45
    let r := s.dev.chan ch
    let acc := if r.primed then r.acc + ((raw : Int) * 256 - r.acc) / (2 ^ g.k : Nat) else (raw : Int) * 256
    ∃ e : Dev, Runs (.pulseUpdate i) s e ∧
      e.pulse i = { p with raw := raw, tRef := some last, count := 0, timer := some (max s.dev.clock t + 10000) } ∧
      (∀ j, j ≠ i → e.pulse j = s.dev.pulse j) ∧
      (∀ c, e.chan c =
        if c = ch then { r with
          acc := acc, value := (acc + 128) / 256, instant := raw, primed := true, stale := false, notYet := false }
        else s.dev.chan c) ∧
      (i = .road → 0 < raw → e.pls.standstill = false) ∧
      e.pls.distance = s.dev.pls.distance ∧ e.seq = s.dev.seq ∧ e.cal = s.dev.cal

/-- PULSE_UPDATE of the road input in silence (R44, R46): with no edge in the window, after the standstill time since
the last edge raw is 0 and standstill is set; before it raw is lowered to the speed the silence still allows. The
engine input, the distance and the other records stay. The clock moves on to the moment of the event if it lags it
(the model's choice, Log 2). -/
def Obligations.PulseSilenceReachesStandstill : Prop :=
  ∀ (s : State) (t : Nat) (last : BitVec 32),
    s.dev.pls.road.timer = some t → s.dev.pls.road.count = 0 → s.dev.pls.road.lastEdge = some last →
    let p := s.dev.pls.road
    let g := s.dev.pulseCfg .road
    let now := max s.dev.clock t
    let silence := (BitVec.ofNat 32 now - last).toNat
    ∃ e : Dev, Runs (.pulseUpdate .road) s e ∧
      (∀ c, c ≠ 44 → e.chan c = s.dev.chan c) ∧ e.pls.engine = s.dev.pls.engine ∧
      e.pls.distance = s.dev.pls.distance ∧ e.seq = s.dev.seq ∧ e.cal = s.dev.cal ∧
      (g.standstill ≤ silence →
        e.pls.road = { p with raw := 0, tRef := none, lastEdge := none, timer := some (now + 10000) } ∧
        e.pls.standstill = true) ∧
      (silence < g.standstill →
        e.pls.road = { p with
          raw := min p.raw (min 2000 ((2 * 36000000000 + silence * g.perUnit) / (2 * (silence * g.perUnit))))
          timer := some (now + 10000) } ∧
        e.pls.standstill = s.dev.pls.standstill)

/-! ## Gauges (chapter 4) -/

/-- GAUGE_UPDATE in RUN and SERVICE (R56, R59, R60): the update timer restarts with 10 ms; a gauge in TRACKING,
INVALID or OVERRIDE stays within its dead band of the target and otherwise moves toward it by at most its slew, with
the duties of its new position; a gauge that is not driven keeps its record. Nothing outside GAU changes. The clock
moves on to the moment of the event if it lags it (the model's choice, Log 2). -/
def Obligations.GaugeUpdatePursuesTargets : Prop :=
  ∀ (s : State) (t : Nat), s.dev.gau.timer = some t → (s.dev.mod.mode = .run ∨ s.dev.mod.mode = .service) →
    ∃ e : Dev, Runs .gaugeUpdate s e ∧
      e = { s.dev with clock := max s.dev.clock t, gau := e.gau } ∧
      e.gau.timer = some (max s.dev.clock t + 10000) ∧
      ∀ g, let r := s.dev.gauge g
        let c := s.dev.gaugeCfg g
        let p :=
          if max (r.target - r.position) (r.position - r.target) ≤ c.deadBand then r.position
          else if r.position ≤ r.target then min r.target (r.position + c.slew)
          else max r.target (r.position - c.slew)
        ((r.state = .tracking ∨ r.state = .invalid ∨ r.state = .override) →
          e.gauge g = { r with position := p, sinDuty := sinDuty p.toNat, cosDuty := cosDuty p.toNat }) ∧
        ((r.state = .off ∨ r.state = .shutdown ∨ r.state = .lockedOff ∨ r.state = .supplyOff) →
          (e.gauge g) = r)

/-- GAUGE_UPDATE of a gauge in SWEEP while the bulb-check timer runs, and HOLD_TIMER_EXPIRY (R67): in RISING it moves
up by a hundredth of its full angle, rounded up, and at the full angle holds for 200 ms; at the hold timer's expiry it
begins to fall, and nothing else changes but the clock; in FALLING it moves down by as much, and at rest it is DONE;
in HOLDING and DONE an update leaves it. The clock moves on to the moment of the event if it lags it (the model's
choice, Log 2). -/
def Obligations.GaugeSweepRisesHoldsFalls : Prop :=
  ∀ (s : State) (g : Fin 6) (t : Nat), (s.dev.gauge g).state = .sweep →
    let r := s.dev.gauge g
    let c := s.dev.gaugeCfg g
    let now := max s.dev.clock t
    let step : Int := ((c.full.toNat + 99) / 100 : Nat)
    let up := min (r.position + step) c.full
    let down := max (r.position - step) c.rest
    let moved (p : Int) : GaugeRec := { r with position := p, sinDuty := sinDuty p.toNat, cosDuty := cosDuty p.toNat }
    (∀ b, s.dev.gau.timer = some t → s.dev.mod.mode = .sweep → s.dev.mod.bulb = .running b →
      ∃ e : Dev, Runs .gaugeUpdate s e ∧
        e.gauge g = (match r.phase with
          | some .rising =>
            if up = c.full then { moved up with phase := some .holding, holdTimer := some (now + 200000) } else moved up
          | some .falling => if down = c.rest then { moved down with phase := some .done } else moved down
          | some .holding | some .done | none => r)) ∧
    (r.holdTimer = some t → ∃ e : Dev, Runs (.holdTimerExpiry g) s e ∧
      e = { s.dev with clock := now, gau := e.gau } ∧ e.gau.timer = s.dev.gau.timer ∧
      ∀ k, e.gauge k = if k = g then { r with phase := some .falling, holdTimer := none } else s.dev.gauge k)

/-- COIL_CURRENT_LIMIT and PWM_PERIOD_END (R61-R63, R65). More than 250 mA past 40 counts of blanking ends a pulse
still running, and any other sensed current changes nothing. Of a driven gauge a clean period sets the terminated
count to 0 and a terminated one raises it by one; then the duties of the position are loaded and the pulses begin
afresh. With the fault held (R65) a clean period counts toward 16 and a terminated one starts that count afresh; the
sixteenth clean period in a row ends the fault, and 0x10gg is reported absent. The sixteenth terminated period in a
row is an over-current: SHUTDOWN with the fault held and the restart timer at 1,000 ms. Of a gauge that is not driven
a period end changes nothing. That one command ends a period and begins the next is the model's reading (Log 27). That
an excess at exactly 40 counts is still blanked is the model's reading too (Log 52). -/
def Obligations.CoilCurrentShutsGaugeDown : Prop :=
  ∀ (s : State) (g : Fin 6),
    let r := s.dev.gauge g
    let loaded (n : Nat) : GaugeRec :=
      { r with terminated := n, pwm := some (r.sinDuty, r.cosDuty), sinEnded := false, cosEnded := false }
    (∀ (coil : Coil) (milliamps counts : Nat),
      let tooMuch (duty : Int) (ended : Bool) : Prop :=
        ended = false ∧ 40 < counts ∧ counts < duty.natAbs ∧ 250 < milliamps
      let ends := ∃ sd cd, r.pwm = some (sd, cd) ∧ (match coil with
        | .sin => tooMuch sd r.sinEnded
        | .cos => tooMuch cd r.cosEnded)
      (¬ends → Runs (.coilCurrentLimit g coil milliamps counts) s s.dev) ∧
      (ends → r.state.driven = true → ∃ e : Dev, Runs (.coilCurrentLimit g coil milliamps counts) s e ∧
        e = { s.dev with gau := e.gau } ∧ e.gau.timer = s.dev.gau.timer ∧
        ∀ k, e.gauge k = if k = g then (match coil with
          | .sin => { r with sinEnded := true }
          | .cos => { r with cosEnded := true }) else s.dev.gauge k)) ∧
    (r.state.driven = false → Runs (.pwmPeriodEnd g) s s.dev) ∧
    (r.state.driven = true → r.held = false → r.clean = none →
      (r.sinEnded = false → r.cosEnded = false → ∃ e : Dev, Runs (.pwmPeriodEnd g) s e ∧
        e.gauge g = loaded 0 ∧ (∀ k, k ≠ g → e.gauge k = s.dev.gauge k) ∧ e = { s.dev with gau := e.gau }) ∧
      ((r.sinEnded = true ∨ r.cosEnded = true) → r.terminated + 1 < 16 → ∃ e : Dev, Runs (.pwmPeriodEnd g) s e ∧
        e.gauge g = loaded (r.terminated + 1) ∧ (∀ k, k ≠ g → e.gauge k = s.dev.gauge k) ∧
        e = { s.dev with gau := e.gau }) ∧
      ((r.sinEnded = true ∨ r.cosEnded = true) → 16 ≤ r.terminated + 1 → ∃ e : Dev, Runs (.pwmPeriodEnd g) s e ∧
        Told 2 s.dev e ∧ (e.gauge g).state = .shutdown ∧ (e.gauge g).held = true ∧ (e.gauge g).terminated = 0 ∧
        (e.gauge g).restartTimer = some (s.dev.clock + 1000000) ∧ (e.gauge g).pwm = none ∧
        ∀ k, k ≠ g → e.gauge k = s.dev.gauge k)) ∧
    (∀ n, r.state.driven = true → r.held = true → r.clean = some n →
      let ended := { loaded 0 with clean := none, held := false }
      (r.sinEnded = false → r.cosEnded = false → n + 1 < 16 → ∃ e : Dev, Runs (.pwmPeriodEnd g) s e ∧
        e.gauge g = { loaded 0 with clean := some (n + 1) } ∧ (∀ k, k ≠ g → e.gauge k = s.dev.gauge k) ∧
        e = { s.dev with gau := e.gau }) ∧
      (r.sinEnded = false → r.cosEnded = false → 16 ≤ n + 1 → ∃ e : Dev, Runs (.pwmPeriodEnd g) s e ∧
        Told 2 s.dev e ∧ e.gauge g = ended ∧ ∀ k, k ≠ g → e.gauge k = s.dev.gauge k) ∧
      (r.sinEnded = false → r.cosEnded = false → 16 ≤ n + 1 → (∀ w : Fin 64, (s.dev.wrn.cfg[w]).kind ≠ .gauge) →
        Runs (.pwmPeriodEnd g) s (fltAbsent (BitVec.ofNat 16 (0x1000 + g.val)) { s.dev with
          gau := { s.dev.gau with gauges := s.dev.gau.gauges.set g ended } })) ∧
      ((r.sinEnded = true ∨ r.cosEnded = true) → r.terminated + 1 < 16 → ∃ e : Dev, Runs (.pwmPeriodEnd g) s e ∧
        e.gauge g = { loaded (r.terminated + 1) with clean := some 0 } ∧
        (∀ k, k ≠ g → e.gauge k = s.dev.gauge k) ∧ e = { s.dev with gau := e.gau }))

/-- RESTART_TIMER_EXPIRY (R64): with automatic restart and fewer than three restarts used, the gauge starts again from
its rest angle with one more restart used: in RUN and SERVICE it follows a GOOD source at its angle. Otherwise it is
locked off. The other gauges stay. The clock moves on to the moment of the event if it lags it (the model's choice,
Log 2). -/
def Obligations.RestartExpiryRestartsOrLocks : Prop :=
  ∀ (s : State) (g : Fin 6) (t : Nat), (s.dev.gauge g).restartTimer = some t → (s.dev.gauge g).state = .shutdown →
    (s.dev.mod.mode = .run ∨ s.dev.mod.mode = .service) →
    let r := s.dev.gauge g
    let c := s.dev.gaugeCfg g
    ((c.autoRestart = true ∧ r.restarts < 3) → r.overrideAngle = none → (s.dev.chan c.source).isGood = true →
      ∃ e : Dev, Runs (.restartTimerExpiry g) s e ∧ Told 2 { s.dev with clock := max s.dev.clock t } e ∧
        (e.gauge g).state = .tracking ∧ (e.gauge g).position = c.rest ∧ (e.gauge g).restarts = r.restarts + 1 ∧
        (e.gauge g).target = max 0 (min c.full (curve c.points (s.dev.chan c.source).value)) ∧
        (e.gauge g).restartTimer = none ∧ (e.gauge g).terminated = 0 ∧
        ∀ k, k ≠ g → e.gauge k = s.dev.gauge k) ∧
    (¬(c.autoRestart = true ∧ r.restarts < 3) →
      ∃ e : Dev, Runs (.restartTimerExpiry g) s e ∧ Told 2 { s.dev with clock := max s.dev.clock t } e ∧
        (e.gauge g).state = .lockedOff ∧ (e.gauge g).restartTimer = none ∧ (e.gauge g).restarts = r.restarts ∧
        ∀ k, k ≠ g → e.gauge k = s.dev.gauge k)

/-! ## Warnings, lamps and the chime (chapter 5) -/

/-- WARNING_DELAY_EXPIRY (R84, R85): PENDING_ON becomes ACTIVE_NEW; PENDING_OFF becomes CLEARED_UNACKED for a latched
warning that was new, and INACTIVE otherwise. The delay timer is stopped, the condition and the other warnings' states
stay, and beside WRN only reports and notices follow. The clock moves on to the moment of the event if it lags it (the
model's choice, Log 2). -/
def Obligations.WarningDelayExpiry : Prop :=
  ∀ (s : State) (w : Fin 64) (t : Nat), (s.dev.warning w).timer = some t →
    let r := s.dev.warning w
    ∀ next : WarningState,
      ((r.state = .pendingOn ∧ next = .activeNew) ∨
        (r.state = .pendingOff ∧ r.remembered = some .activeNew ∧ (s.dev.wrn.cfg[w]).latched = true ∧
          next = .clearedUnacked) ∨
        (r.state = .pendingOff ∧ r.remembered = some .activeNew ∧ (s.dev.wrn.cfg[w]).latched = false ∧
          next = .inactive) ∨
        (r.state = .pendingOff ∧ r.remembered = some .activeAcked ∧ next = .inactive)) →
      ∃ e : Dev, Runs (.warningDelayExpiry w) s e ∧ Told 1 { s.dev with clock := max s.dev.clock t } e ∧
        (e.warning w).state = next ∧ (e.warning w).timer = none ∧ (e.warning w).remembered = none ∧
        (e.warning w).condition = r.condition ∧ (∀ v, v ≠ w → e.warning v = s.dev.warning v)

/-- FLASH_PHASE_EXPIRY in RUN (R90): the phase changes half for 250 ms; every lamp's output is on exactly while the
driver supply is ON, its driver state lets it, and its demand is steady, or flashing in the on half. Nothing outside
WRN changes. The clock moves on to the moment of the event if it lags it (the model's choice, Log 2). -/
def Obligations.FlashPhaseSwitchesLamps : Prop :=
  ∀ (s : State) (f : Flash), s.dev.wrn.flash = some f → s.dev.mod.mode = .run →
    ∃ e : Dev, Runs .flashPhaseExpiry s e ∧
      e = { s.dev with clock := max s.dev.clock f.deadline, wrn := e.wrn } ∧
      e.wrn.flash = some ⟨!f.on, max s.dev.clock f.deadline + 250000⟩ ∧ e.wrn.warnings = s.dev.wrn.warnings ∧
      ∀ l, (e.lamp l).output = true ↔ s.dev.mod.supply = .on ∧ (s.dev.lamp l).driver.lets = true ∧
        ((s.dev.lamp l).demand = .steady ∨ ((s.dev.lamp l).demand = .flashing ∧ f.on = false))

/-- DIAGNOSIS_TIMER_EXPIRY of a lamp while WRN runs with the supply ON (R91, R92): OK with the output on and no
current becomes OPEN_LOAD, OK with the output off and the pin low becomes SHORT_TO_GROUND, each with its fault held;
OPEN_LOAD with its current back and SHORT_TO_GROUND with its pin high become OK with the fault no longer held. Beside
WRN only reports and notices follow, and the driver states of the other lamps stay. The clock moves on to the moment
of the event if it lags it (the model's choice, Log 2). -/
def Obligations.DiagnosisExpiryJudgesLamp : Prop :=
  ∀ (s : State) (l : Fin 24) (t : Nat), (s.dev.lamp l).diagTimer = some t → s.dev.wrn.flash.isSome = true →
    s.dev.mod.supply = .on →
    let r := s.dev.lamp l
    let others (e : Dev) : Prop := ∀ k, k ≠ l → (e.lamp k).driver = (s.dev.lamp k).driver
    ((r.driver = .ok ∧ r.output = true ∧ r.currentOk = false) → ∃ e : Dev, Runs (.diagnosisTimerExpiry l) s e ∧
      Told 1 { s.dev with clock := max s.dev.clock t } e ∧ others e ∧
      (e.lamp l).driver = .openLoad ∧ (e.lamp l).heldOpen = true ∧ (e.lamp l).heldShort = r.heldShort) ∧
    ((r.driver = .ok ∧ r.output = false ∧ r.pinHigh = false) → ∃ e : Dev, Runs (.diagnosisTimerExpiry l) s e ∧
      Told 1 { s.dev with clock := max s.dev.clock t } e ∧ others e ∧
      (e.lamp l).driver = .shortToGround ∧ (e.lamp l).heldShort = true ∧ (e.lamp l).heldOpen = r.heldOpen) ∧
    ((r.driver = .openLoad ∧ r.output = true ∧ r.currentOk = true) → ∃ e : Dev, Runs (.diagnosisTimerExpiry l) s e ∧
      Told 1 { s.dev with clock := max s.dev.clock t } e ∧ others e ∧
      (e.lamp l).driver = .ok ∧ (e.lamp l).heldOpen = false) ∧
    ((r.driver = .shortToGround ∧ r.output = false ∧ r.pinHigh = true) →
      ∃ e : Dev, Runs (.diagnosisTimerExpiry l) s e ∧
        Told 1 { s.dev with clock := max s.dev.clock t } e ∧ others e ∧
        (e.lamp l).driver = .ok ∧ (e.lamp l).heldShort = false)

/-- LAMP_OVERCURRENT, and the end of an over-current fault (R93). More than 1,500 mA in an output that has been on for
5 ms cuts it: OVERCURRENT_WAIT, the output off, the retry timer at 500 ms, the over-current fault held and the other
two not. The driver states of the other lamps stay. A current no greater, or sensed earlier, changes nothing but the
clock, and one in an output that is off changes nothing. A lamp in OK whose fault is held and whose output has been on
with its current for the 100 ms of its diagnosis timer no longer holds it, and 0x22ll is reported absent. The clock
moves on to the moment of the event if it lags it (the model's choice, Log 2). That a current at exactly 5 ms is no
longer blanked is the model's choice (Log 56). -/
def Obligations.LampOvercurrentCutsOutput : Prop :=
  (∀ (s : State) (l : Fin 24) (milliamps sinceOn : Nat), (s.dev.lamp l).output = false →
    Runs (.lampOvercurrent l milliamps sinceOn) s s.dev) ∧
  (∀ (s : State) (l : Fin 24) (milliamps sinceOn t : Nat),
    (s.dev.lamp l).onSince = some t → (s.dev.lamp l).output = true →
    let now := max s.dev.clock (t + sinceOn)
    (¬(5000 ≤ now - t ∧ 1500 < milliamps) →
      Runs (.lampOvercurrent l milliamps sinceOn) s { s.dev with clock := now }) ∧
    (5000 ≤ now - t → 1500 < milliamps → s.dev.wrn.flash.isSome = true →
      ∃ e : Dev, Runs (.lampOvercurrent l milliamps sinceOn) s e ∧ Told 1 { s.dev with clock := now } e ∧
        (e.lamp l).driver = .overcurrentWait ∧ (e.lamp l).output = false ∧
        (e.lamp l).retryTimer = some (now + 500000) ∧ (e.lamp l).heldOver = true ∧
        (e.lamp l).heldOpen = false ∧ (e.lamp l).heldShort = false ∧
        ∀ k, k ≠ l → (e.lamp k).driver = (s.dev.lamp k).driver)) ∧
  ∀ (s : State) (l : Fin 24) (t : Nat), (s.dev.lamp l).diagTimer = some t → s.dev.wrn.flash.isSome = true →
    s.dev.mod.supply = .on →
    let r := s.dev.lamp l
    r.driver = .ok → r.output = true → r.currentOk = true → r.heldOver = true → lampOn s.dev r = true →
    Runs (.diagnosisTimerExpiry l) s (fltAbsent (BitVec.ofNat 16 (0x2200 + l.val)) { s.dev with
      clock := max s.dev.clock t
      wrn := { s.dev.wrn with lamps := s.dev.wrn.lamps.set l { r with heldOver := false, diagTimer := none } } })

/-- RETRY_TIMER_EXPIRY (R93): with fewer than three retries used the lamp is OK again with one more used; otherwise it
is locked off with its output off. The driver states of the other lamps stay. The clock moves on to the moment of the
event if it lags it (the model's choice, Log 2). -/
def Obligations.RetryExpiryRetriesOrLocks : Prop :=
  ∀ (s : State) (l : Fin 24) (t : Nat), (s.dev.lamp l).retryTimer = some t →
    ∃ e : Dev, Runs (.retryTimerExpiry l) s e ∧ Told 1 { s.dev with clock := max s.dev.clock t } e ∧
      (e.lamp l).retryTimer = none ∧ (∀ k, k ≠ l → (e.lamp k).driver = (s.dev.lamp k).driver) ∧
      ((s.dev.lamp l).retries < 3 →
        (e.lamp l).driver = .ok ∧ (e.lamp l).retries = (s.dev.lamp l).retries + 1) ∧
      (3 ≤ (s.dev.lamp l).retries →
        (e.lamp l).driver = .lockedOff ∧ (e.lamp l).output = false ∧ (e.lamp l).retries = (s.dev.lamp l).retries)

/-- LAMP_SENSE_CHANGE (R91, section 5.5), for a lamp whose output is as R90 has it: a current is taken while the
output is on, as 5 mA or more or not, and a readback while it is off; the other sense and all else of the lamp but its
diagnosis timer stay, and the diagnosis timer stops where nothing is left to judge. Every other lamp stays, and
nothing outside WRN changes. Which sense applies when is the model's choice (Log 9). -/
def Obligations.LampSenseIsTaken : Prop :=
  ∀ (s : State) (l : Fin 24) (sense : LampSense),
    let r := s.dev.lamp l
    ∃ e : Dev, Runs (.lampSenseChange l sense) s e ∧ e = { s.dev with wrn := e.wrn } ∧
      e.wrn = { s.dev.wrn with lamps := e.wrn.lamps } ∧
      (e.lamp l).driver = r.driver ∧ (∀ k, k ≠ l → e.lamp k = s.dev.lamp k) ∧
      (lampOn s.dev r = r.output →
        e.lamp l = { r with
          currentOk := (match sense with
            | .current milliamps => if r.output then decide (5 ≤ milliamps) else r.currentOk
            | .readback _ => r.currentOk)
          pinHigh := (match sense with
            | .current _ => r.pinHigh
            | .readback high => if r.output then r.pinHigh else high)
          diagTimer := (e.lamp l).diagTimer } ∧
        (r.driver = .ok → r.output = true → r.heldOver = false → (e.lamp l).currentOk = true →
          (e.lamp l).diagTimer = none) ∧
        (r.driver = .ok → r.output = false → (e.lamp l).pinHigh = true → (e.lamp l).diagTimer = none))

/-- CHIME_PLAYER_STEP (R100, R101, R104). A play of the low group that ends a beep while the high group holds a
request or a test request waits is preempted, and its group's last grant is set back. Any other play goes on to the
next segment of its pattern; at the end of the pattern silence follows for 200 ms, and the test request leaves the
arbiter, and the request of the warning played leaves the list at the end of a SINGLE or TRIPLE. Nothing outside WRN
changes but the clock. That the end of a last beep is preempted too is the model's reading (Log 24). The clock moves
on to the moment of the event if it lags it (the model's choice, Log 2). -/
def Obligations.ChimeStepPlaysPattern : Prop :=
  ∀ (s : State) (p : Play), s.dev.wrn.player = .playing p →
    let now := max s.dev.clock p.deadline
    let silence : Player := .silence (now + 200000)
    let n := p.pattern.segments.length
    let preempted := p.high = false ∧ p.beeping = true ∧
      (s.dev.wrn.test.isSome = true ∨ ∃ q ∈ s.dev.wrn.requests, q.high = true)
    (preempted → Runs .chimePlayerStep s
      { s.dev with clock := now, wrn := { s.dev.wrn with lastLow := p.lowBefore, player := silence } }) ∧
    (¬preempted → p.segment + 1 < n → Runs .chimePlayerStep s
      { s.dev with clock := now, wrn := { s.dev.wrn with player := .playing { p with
        segment := p.segment + 1
        deadline := now + (p.pattern.segments.getD (p.segment + 1) (false, 0)).2 } } }) ∧
    (¬preempted → n ≤ p.segment + 1 → p.warning = none → Runs .chimePlayerStep s
      { s.dev with clock := now, wrn := { s.dev.wrn with test := none, player := silence } }) ∧
    (∀ w, ¬preempted → n ≤ p.segment + 1 → p.warning = some w → (p.pattern = .single ∨ p.pattern = .triple) →
      (∃ q, s.dev.wrn.requests.find? (·.warning == w) = some q ∧ q.pattern = p.pattern) →
      Runs .chimePlayerStep s { s.dev with clock := now, wrn := { s.dev.wrn with
        requests := s.dev.wrn.requests.filter (·.warning != w), player := silence } }) ∧
    (∀ w, ¬preempted → n ≤ p.segment + 1 → p.warning = some w → p.pattern = .continuous →
      Runs .chimePlayerStep s { s.dev with clock := now, wrn := { s.dev.wrn with player := silence } })

/-- CHIME_SILENCE_END (R99, R100): with the chime enabled a test request is granted first, then the high group before
the low group, each round-robin by warning number from its last grant; the grant plays the request from its first
segment, at 2.0 kHz for the high group, and becomes its group's last grant. With no request the player is idle. The
clock moves on to the moment of the event if it lags it (the model's choice, Log 2). -/
def Obligations.SilenceEndGrantsAfresh : Prop :=
  ∀ (s : State) (t : Nat), s.dev.wrn.player = .silence t →
    (s.dev.mod.mode = .run ∨ s.dev.mod.mode = .service) → s.dev.mod.supply = .on →
    let now := max s.dev.clock t
    let first (q : ChimeRequest) (last : Option (Fin 64)) : Prop :=
      ∀ v ∈ s.dev.wrn.requests, v.high = q.high → match last with
        | none => q.warning ≤ v.warning
        | some l => (l < q.warning ∧ (l < v.warning → q.warning ≤ v.warning)) ∨
            (q.warning ≤ l ∧ v.warning ≤ l ∧ q.warning ≤ v.warning)
    let play (w : Option (Fin 64)) (pattern : Chime) (high tone : Bool) : Player := .playing ⟨w, pattern, high, tone, 0,
      now + (pattern.segments.getD 0 (false, 0)).2, s.dev.wrn.lastLow⟩
    (∀ q, s.dev.wrn.test = some q → Runs .chimeSilenceEnd s
      { s.dev with clock := now, wrn := { s.dev.wrn with player := play none q.pattern true q.highTone } }) ∧
    (s.dev.wrn.test = none → s.dev.wrn.requests = [] → Runs .chimeSilenceEnd s
      { s.dev with clock := now, wrn := { s.dev.wrn with player := .idle } }) ∧
    (s.dev.wrn.test = none → (∃ q ∈ s.dev.wrn.requests, q.high = true) →
      ∃ q ∈ s.dev.wrn.requests, q.high = true ∧ first q s.dev.wrn.lastHigh ∧ Runs .chimeSilenceEnd s
        { s.dev with
          clock := now
          wrn := { s.dev.wrn with
            player := play (some q.warning) q.pattern true true, lastHigh := some q.warning } }) ∧
    (s.dev.wrn.test = none → (∀ q ∈ s.dev.wrn.requests, q.high = false) → s.dev.wrn.requests ≠ [] →
      ∃ q ∈ s.dev.wrn.requests, q.high = false ∧ first q s.dev.wrn.lastLow ∧ Runs .chimeSilenceEnd s
        { s.dev with
          clock := now
          wrn := { s.dev.wrn with
            player := play (some q.warning) q.pattern false false, lastLow := some q.warning } })

/-! ## Doors (chapter 6) -/

/-- DOOR_HOLD_TIMER_EXPIRY, CLOSE_TIMEOUT and BRAKE_DELAY_EXPIRY (R114, R117, R122-R124). A door in PENDING goes to
HELD with its timers stopped, and one in CLOSING to STUCK with its fault held; then the door condition C holds exactly
while every configured door is shut, or UNKNOWN under an active bypass, and HELD, and DRIVE_PERMIT exactly while C
does in RUN or SERVICE with the kneel and ramp conditions met. At the brake delay's end BRAKE_RELEASE_PERMIT is high.
The other doors stay, and so does all else but FLT, WRN, the notices and what the storage port has to do. The clock
moves on to the moment of the event if it lags it (the model's choice, Log 2). -/
def Obligations.DoorTimersExpire : Prop :=
  ∀ (s : State) (i : Fin 4) (t : Nat),
    let r := s.dev.door i
    let now := max s.dev.clock t
    let ends (c : Instr) (after : DoorRec) : Prop := ∃ e : Dev, Runs c s e ∧
      Told 1 { s.dev with clock := now, dor := e.dor } e ∧
      e.dor = { s.dev.dor with doors := e.dor.doors, interlock := e.dor.interlock } ∧
      e.door i = after ∧ (∀ k, k ≠ i → e.door k = s.dev.door k) ∧
      (e.dor.interlock.doorCondition = true ↔ ∀ k, configured s.dev k = true →
        ((e.door k).position.shut = true ∨ ((e.door k).position = .unknown ∧ bypassActive s.dev = true)) ∧
        (e.door k).release = .held) ∧
      (e.dor.interlock.drivePermit = true ↔ e.dor.interlock.doorCondition = true ∧
        (s.dev.mod.mode = .run ∨ s.dev.mod.mode = .service) ∧
        inactiveOpt s.dev s.dev.dor.cfg.kneel = true ∧ inactiveOpt s.dev s.dev.dor.cfg.ramp = true)
    (r.holdTimer = some t → r.release = .pending → configured s.dev i = true →
      ends (.doorHoldTimerExpiry i) { r with
        release := .held, holdTimer := none, closeTimer := none, held := r.held && !r.position.shut, line := false }) ∧
    (r.closeTimer = some t → r.release = .closing → configured s.dev i = true →
      ends (.closeTimeout i) { r with release := .stuck, closeTimer := none, held := true, line := false }) ∧
    (s.dev.dor.interlock.brakeTimer = some t → ∃ e : Dev, Runs .brakeDelayExpiry s e ∧
      Told 1 { s.dev with
        clock := now
        dor := { s.dev.dor with
          interlock := { s.dev.dor.interlock with brakeTimer := none, brakePermit := true } } } e)

/-- DOOR_COMMAND (R113-R118). A RELEASE with the speed ok releases a door that is HELD, CLOSING or STUCK; with the
speed not ok one that is HELD waits PENDING for its hold time, if it has one. A CLOSE takes PENDING to HELD, and
RELEASED to CLOSING, or to HELD where the door is shut. In every other state the request changes nothing. The reply
carries the outcome and the release state. A door that is not configured is answered BAD_ARGUMENT. -/
def Obligations.DoorCommandsMoveRelease : Prop :=
  ∀ (s : State) (tag door : Byte) (rest : List Byte),
    let f (action : Byte) : Frame := ⟨0x09#8, tag, door :: action :: rest⟩
    (∀ i : Fin 4, door.toNat = i.val → configured s.dev i = true →
      let r := s.dev.door i
      let c := s.dev.doorSettings i
      let ok : Bool := s.dev.dor.roadQuality == .good && decide (s.dev.dor.roadInstant ≤ (c.releaseSpeed : Int))
      let released := { r with release := .released, holdTimer := none, closeTimer := none, line := true }
      let held := { r with
        release := .held, holdTimer := none, closeTimer := none, held := r.held && !r.position.shut, line := false }
      let done (cmd : Instr) (action outcome : Byte) (after : DoorRec) : Prop := ∃ e : Dev, Runs cmd s e ∧
        e.door i = after ∧ (∀ k, k ≠ i → e.door k = s.dev.door k) ∧
        e.lnk.requests = (taken (f action) s.dev).lnk.requests ∧
        e.lnk.replies = s.dev.lnk.replies ++ [⟨0x89#8, tag, [0#8, outcome, byte after.release.code], false⟩] ∧
        e.clock = s.dev.clock ∧ e.seq = s.dev.seq ∧ e.sig = s.dev.sig ∧ e.gau = s.dev.gau ∧
        e.cal = s.dev.cal ∧ e.mod = s.dev.mod
      (served s.dev (f 0#8) = true →
        let after := match r.release with
          | .held => if ok then released
            else if 0 < c.holdTime then
              { r with release := .pending, holdTimer := some (s.dev.clock + c.holdTime), line := false }
            else r
          | .closing | .stuck => if ok then released else r
          | .pending | .released => r
        done (.doorCommandRelease tag door rest) 0#8
          (if after.release = .released then 0#8 else if after.release = .pending then 1#8 else 2#8) after) ∧
      (served s.dev (f 1#8) = true →
        done (.doorCommandClose tag door rest) 1#8 3#8
          (match r.release with
          | .pending => held
          | .released => if r.position.shut then held
            else { r with
              release := .closing, holdTimer := none, closeTimer := some (s.dev.clock + c.closeTimeout), line := false }
          | .held | .closing | .stuck => r))) ∧
    (4 ≤ door.toNat ∨ s.dev.dor.cfg.count ≤ door.toNat →
      (served s.dev (f 0#8) = true →
        Runs (.doorCommandRelease tag door rest) s (replied (f 0#8) [5#8] (taken (f 0#8) s.dev))) ∧
      (served s.dev (f 1#8) = true →
        Runs (.doorCommandClose tag door rest) s (replied (f 1#8) [5#8] (taken (f 1#8) s.dev))))

/-! ## Storage (chapter 8) -/

/-- STORAGE_POLL_TICK and PROBE_COMPLETE (R150, R151, R155). A polled write ends well at the first status byte with
the busy bit clear; at 0xFF or the 20th poll the attempt fails, to be made again up to two times; otherwise it is
polled again after 1 ms. The ready check of a read begins with a status read and is polled likewise, the read then
proceeding, and so is a probe that finds the device busy, but with one attempt. A probe that ends with the busy bit
clear finds storage PRESENT, and with RAM invalid the header is fetched; one that ends with 0xFF, or with the device
busy after its polls, finds it ABSENT: the ring and slots count as taken, no job is made and the part enters
AWAITING_IMAGE (R158). The polls are commands of their own (Log 3). The clock moves on to the moment of the event if
it lags it (the model's choice, Log 2). -/
def Obligations.StatusBytesAreJudged : Prop :=
  ∀ (s : State) (j : Job) (status : Byte), s.dev.sto.job = some j →
    let after (clock : Nat) (k : Job) : Dev :=
      { s.dev with clock := clock, sto := { s.dev.sto with job := some k } }
    let polled := { j with polls := j.polls + 1 }
    let ready := status.getLsbD 0 = false
    let fails := status = 0xFF#8 ∨ 20 ≤ j.polls + 1
    (∀ address bytes t, j.op = .write address bytes → j.phase = .polling t →
      let now := max s.dev.clock t
      Runs (.storagePollTick status) s (after now
        (if ready then { polled with phase := .ended true }
        else if fails then
          if j.attempt < 3 then { j with attempt := j.attempt + 1, polls := 0, phase := .polling (now + 1000) }
          else { polled with phase := .ended false }
        else { polled with phase := .polling (now + 1000) }))) ∧
    (∀ address length, j.op = .read address length → j.phase = .started →
      Runs (.storagePollTick status) s (after s.dev.clock
        (if ready then { j with phase := .transfer }
        else if status = 0xFF#8 then
          if j.attempt < 3 then { j with attempt := j.attempt + 1, polls := 0, phase := .started }
          else { j with phase := .ended false }
        else { j with phase := .polling (s.dev.clock + 1000) }))) ∧
    (∀ address length t, j.op = .read address length → j.phase = .polling t →
      let now := max s.dev.clock t
      Runs (.storagePollTick status) s (after now
        (if ready then { polled with phase := .transfer }
        else if fails then
          if j.attempt < 3 then { j with attempt := j.attempt + 1, polls := 0, phase := .started }
          else { polled with phase := .ended false }
        else { polled with phase := .polling (now + 1000) }))) ∧
    (∀ t, j.op = .probe → j.phase = .polling t →
      let now := max s.dev.clock t
      Runs (.storagePollTick status) s (after now
        (if ready then { polled with phase := .ended true }
        else if fails then { polled with phase := .ended false }
        else { polled with phase := .polling (now + 1000) }))) ∧
    (j.op = .probe → j.phase = .started → ¬ready → status ≠ 0xFF#8 →
      Runs (.probeComplete status) s (after s.dev.clock { j with phase := .polling (s.dev.clock + 1000) })) ∧
    (j.op = .probe → s.dev.sto.loader.stop = none → s.dev.sto.storeQueued = false →
      s.dev.cal.valid = false → s.dev.mod.flush = .none →
      let found (present : Bool) : Prop := match j.phase with
        | .started => if present then ready else status = 0xFF#8
        | .polling _ | .transfer => if present then ready else ¬ready
        | .ended ok => ok = present
      (found true → ∃ e : Dev, Runs (.probeComplete status) s e ∧
        e.sto.storage = .present ∧ e.sto.loader.state = .fetchingHeader ∧ e.sto.job.isSome = true ∧
        e.mod = s.dev.mod ∧ e.cal = s.dev.cal) ∧
      (found false → ∃ e : Dev, Runs (.probeComplete status) s e ∧
        e.sto.storage = .absent ∧ e.sto.absentCond = true ∧ e.sto.job = none ∧ e.sto.loader.state = .idle ∧
        e.pls.ringTaken = true ∧ e.flt.slotsTaken = true ∧
        e.mod.mode = .awaitingImage ∧ e.mod.cause = .noImage ∧ e.cal = { s.dev.cal with origin := .loading }))

/-- READ_JOB_COMPLETE (R48, R146, R147, R150, R158). A body read of a fetch, but for the last, puts its 128 bytes into
calibration RAM at their place and nowhere else, and the next read follows. The read of the odometer ring gives PLS
the valid slot with the highest sequence, distance and cycles being raised to that slot's where it is ahead, and an
owed increase being made; with no valid slot, or after a failed read, the last slot is 3 and the last sequence 0. The
reads of the fault slots are kept, and the tenth hands the forty to FLT, which takes them in ascending order: a slot
with a bad CRC, one whose code is already held and one whose place is occupied leave the place as it is but dirty, an
empty slot and one of a failed read leave it as it is, and any other is loaded PASSIVE. The read of a deferred
FAULT_READ whose slot still holds the code brings the reply: the stored frame where its CRC and code are good, and
STORAGE_FAILED after a failed read. The outcome comes with the command (Log 3, Log 37). -/
def Obligations.ReadJobIsDelivered : Prop :=
  (∀ (s : State) (j : Job) (address length : Nat), s.dev.sto.job = some j → j.op = .read address length →
    j.phase = .transfer →
    (∀ (data : List Byte) (k : Nat), j.requester = .loader → s.dev.sto.loader.stop = none →
      s.dev.sto.loader.state = .fetchingBody → s.dev.sto.loader.index = k → k < 38 → data.length = 128 →
      s.dev.sto.storage = .present → s.dev.sto.storeQueued = false → Memory.wf s.dev.cal.ram = true →
      ∃ e : Dev, Runs (.readJobComplete (.delivered data)) s e ∧
        e.sto.loader.state = .fetchingBody ∧ e.sto.loader.index = k + 1 ∧ e.sto.job.isSome = true ∧
        e.mod = s.dev.mod ∧ e.cal = { s.dev.cal with ram := e.cal.ram } ∧ Memory.wf e.cal.ram = true ∧
        ∀ a, Memory.read e.cal.ram a =
          if 16 + 128 * k ≤ a ∧ a < 16 + 128 * k + 128 then data.getD (a - (16 + 128 * k)) 0#8
          else Memory.read s.dev.cal.ram a) ∧
    (∀ (h : HostRead) (r : FaultRec) (q : Request) (result : ReadEnd) (payload : List Byte),
      j.requester = .hostRead → j.hostRead = some h → (s.dev.slot h.slot).record = some r → r.code = h.code →
      r.frame = .stored → s.dev.lnk.requests = [q] → q.tag = h.tag → q.kind = 0x0E#8 →
      ((result = .failed ∧ payload = [8#8]) ∨
        (∃ data, result = .delivered data ∧ data.length = 64 ∧ frameSlotGood r.code data = true ∧
          payload = [0#8, byte h.slot.val] ++ recordForm (s.dev.slot h.slot) r ++ [2#8] ++ data.take 32)) →
      ∃ e : Dev, Runs (.readJobComplete result) s e ∧
        e.lnk = { s.dev.lnk with
          requests := [{ q with deferred := false }]
          replies := s.dev.lnk.replies ++ [⟨0x8E#8, h.tag, payload, false⟩] } ∧
        (∀ i, e.slot i = s.dev.slot i) ∧ e.cal = s.dev.cal ∧ e.mod = s.dev.mod ∧ e.wrn = s.dev.wrn) ∧
    (∀ result : ReadEnd, j.requester = .loader → s.dev.sto.loader.stop = none →
      s.dev.sto.loader.state = .readingRing → s.dev.flt.slotsTaken = false → s.dev.sto.storage = .present →
      s.dev.sto.storeQueued = false →
      let p := s.dev.pls
      let slot (k : Nat) : List Byte := match result with
        | .delivered data => (data.drop (16 * k)).take 16
        | .failed => []
      let valid (k : Nat) : Prop := k < 4 ∧ (slot k).length = 16 ∧
        (crc16 ((slot k).take 14)).toNat = be16At (slot k) 14
      let counted (cycles : Nat) : Nat := if p.cycleOwed then min 65535 (cycles + 1) else cycles
      let takes (after : PlsState) : Prop := ∃ e : Dev, Runs (.readJobComplete result) s e ∧
        e.pls = { after with ringTaken := true, cycleOwed := false, odoJob := e.pls.odoJob } ∧
        e.sto.loader.state = .readingSlots ∧ e.sto.loader.index = 0 ∧ e.sto.loader.slots = [] ∧
        e.sto.job.isSome = true ∧ (∀ i, e.slot i = s.dev.slot i) ∧ e.clock = s.dev.clock ∧ e.mod = s.dev.mod ∧
        e.cal = s.dev.cal ∧ e.wrn = s.dev.wrn ∧ e.lnk = s.dev.lnk
      (∀ data, result = .delivered data → data.length = 64) →
      (∀ k, valid k → (∀ i, i ≠ k → valid i → be32At (slot i) 0 < be32At (slot k) 0) → takes { p with
        distance := max p.distance (be32At (slot k) 4), cycles := counted (max p.cycles (be16At (slot k) 8))
        lastSlot := k, lastSeq := be32At (slot k) 0 }) ∧
      ((∀ k, ¬valid k) → takes { p with cycles := counted p.cycles, lastSlot := 3, lastSeq := 0 })) ∧
    (∀ (result : ReadEnd) (k : Nat), j.requester = .loader → s.dev.sto.loader.stop = none →
      s.dev.sto.loader.state = .readingSlots → s.dev.sto.loader.index = k →
      s.dev.sto.storage = .present → s.dev.sto.storeQueued = false →
      (∀ data, result = .delivered data → data.length = 128) →
      (k < 9 → ∃ e : Dev, Runs (.readJobComplete result) s e ∧
        e.sto.loader.state = .readingSlots ∧ e.sto.loader.index = k + 1 ∧
        e.sto.loader.slots = s.dev.sto.loader.slots ++ (match result with
          | .delivered data => [some (data.take 32), some ((data.drop 32).take 32), some ((data.drop 64).take 32),
              some ((data.drop 96).take 32)]
          | .failed => [none, none, none, none]) ∧
        e.sto.job.isSome = true ∧ (∀ i, e.slot i = s.dev.slot i) ∧ e.mod = s.dev.mod ∧ e.cal = s.dev.cal) ∧
      (k = 9 → s.dev.cal.valid = false → s.dev.mod.flush = .none →
        ∃ e : Dev, Runs (.readJobComplete result) s e ∧ e.flt.slotsTaken = true ∧ e.flt.persistent = true ∧
          e.sto.loader.state = .idle ∧ e.mod.mode = .awaitingImage ∧ e.mod.cause = .noImage))) ∧
  ∀ (d : Dev) (stored : List (Option (List Byte))),
    let e := takeSlots stored d
    let holds (slot : FaultSlot) (code : Nat) : Prop := ∃ r, slot.record = some r ∧ r.code.toNat = code
    Told 0 d e ∧ e.flt.slotsTaken = true ∧ e.flt.persistent = true ∧ e.flt.pool = d.flt.pool ∧
    e.flt.dropped = d.flt.dropped ∧
    (d.sto.job.isSome = true → e.flt.queue = (List.finRange 40).filter fun i => (e.slot i).dirty) ∧
    ∀ i : Fin 40,
      (stored.getD i.val none = none → e.slot i = d.slot i) ∧
      ∀ b, stored.getD i.val none = some b →
        let good := (crc16 (b.take 30)).toNat = be16At b 30
        let code := be16At b 0
        let known := (∃ k, holds (d.slot k) code) ∨ ∃ k, k < i ∧ holds (e.slot k) code
        (¬good → e.slot i = { d.slot i with dirty := true }) ∧
        (good → code = 0 → e.slot i = d.slot i) ∧
        (good → code ≠ 0 → (known ∨ (d.slot i).record ≠ none) → e.slot i = { d.slot i with dirty := true }) ∧
        (good → code ≠ 0 → ¬known → (d.slot i).record = none → e.slot i = ⟨some {
          code := BitVec.ofNat 16 code, active := false, severity := severityOf (byteAt b 3)
          occurrences := byteAt b 4, aging := byteAt b 5
          firstDistance := be32At b 6, lastDistance := be32At b 10
          firstCycle := be16At b 14, lastCycle := be16At b 16
          frame := if byteAt b 18 = 2 then .stored else .absent
          frameLost := flagOf (byteAt b 19) }, false⟩)

/-- WRITE_JOB_COMPLETE (R51, R140, R151, R163). An odometer write that succeeds moves the last slot round the ring
with a sequence one higher, and one that fails is queued again, with the write-failed condition set. An image page
that is written moves the store on, the 40th ending it with the image-unstored condition clear, and a failed one
stays. A fault record written in an unchanged slot leaves the slot clean. The outcome comes with the command (Log 3,
Log 37). -/
def Obligations.WriteJobIsTaken : Prop :=
  ∀ (s : State) (j : Job) (address : Nat) (bytes : List Byte), s.dev.sto.job = some j → j.op = .write address bytes →
    s.dev.mod.flush = .none →
    (∀ ok, j.phase = .ended ok → j.requester = .odometer → ∃ e : Dev, Runs (.writeJobComplete ok) s e ∧
      e.sto.writeFailedCond = !ok ∧ e.pls.distance = s.dev.pls.distance ∧ e.pls.frac = s.dev.pls.frac ∧
      e.pls.writeOwed = false ∧
      (ok = true → e.pls.lastSlot = (s.dev.pls.lastSlot + 1) % 4 ∧
        (s.dev.pls.lastSeq < 4294967295 → e.pls.lastSeq = s.dev.pls.lastSeq + 1) ∧
        (s.dev.pls.writeOwed = false → e.pls.odoJob = .none)) ∧
      (ok = false → e.pls.lastSlot = s.dev.pls.lastSlot ∧ e.pls.lastSeq = s.dev.pls.lastSeq ∧
        e.pls.odoJob ≠ .none)) ∧
    (∀ ok, j.phase = .ended ok → j.requester = .imageStore → s.dev.sto.storePage = some j.page →
      s.dev.sto.storeQueued = false → ∃ e : Dev, Runs (.writeJobComplete ok) s e ∧
        (ok = false → e.sto.storePage = some j.page) ∧
        (ok = true → j.page < 39 → e.sto.storePage = some (j.page + 1)) ∧
        (ok = true → 39 ≤ j.page → e.sto.storePage = none ∧ e.sto.unstoredCond = false) ∧ e.cal = s.dev.cal) ∧
    (∀ w, j.phase = .ended true → j.requester = .faultWriter → s.dev.flt.write = some w → w.recordStage = true →
      w.mark = .clear → s.dev.sto.writeFailedHeld = false → ∃ e : Dev, Runs (.writeJobComplete true) s e ∧
        (e.slot w.slot).dirty = false ∧ (∀ i, i ≠ w.slot → e.slot i = s.dev.slot i) ∧
        e.cal = s.dev.cal ∧ e.mod = s.dev.mod)

/-- Arbitration of the storage port (R154): the low group is served when it holds a job and has waited for 4 high
grants or the high group holds none; within a group the first requester after the last grant that holds a job; the
grant becomes the last one, and the count rises with a high grant while the low group holds a job and is 0 after every
other. The record job of a fault write follows its frame job with no new grant: it writes the snapshot's record, or an
empty slot, to the slot's place, and the last grants and the count are as they were. The premise is that a group's
last grant is one of its own. -/
def Obligations.ArbitrationIsRoundRobin : Prop :=
  ∀ d : Dev,
    (∀ r, d.sto.lastHigh = some r → r.isHigh = true) → (∀ r, d.sto.lastLow = some r → r.isHigh = false) →
    let waits (high : Bool) : Prop := ∃ r : Requester, r.isHigh = high ∧ holdsJob d r = true
    let place : Requester → Nat
      | .faultWriter | .hostRead => 0
      | .odometer | .imageStore => 1
      | .loader => 2
    let turn (r : Requester) : Nat :=
      let size := if r.isHigh then 3 else 2
      match (if r.isHigh then d.sto.lastHigh else d.sto.lastLow) with
      | none => place r
      | some l => (place r + size - (place l + 1)) % size
    (arbitrate d = none ↔ ¬waits true ∧ ¬waits false) ∧
    (∀ r, arbitrate d = some r → holdsJob d r = true ∧
      (r.isHigh = false ↔ waits false ∧ (d.sto.highWhileLow = 4 ∨ ¬waits true)) ∧
      (∀ q, q.isHigh = r.isHigh → holdsJob d q = true → turn r ≤ turn q) ∧
      (r.isHigh = true → waits false →
        countGrant r d = { d with sto := { d.sto with
          lastHigh := some r, highWhileLow := d.sto.highWhileLow + 1 } }) ∧
      (r.isHigh = true → ¬waits false →
        countGrant r d = { d with sto := { d.sto with lastHigh := some r, highWhileLow := 0 } }) ∧
      (r.isHigh = false →
        countGrant r d = { d with sto := { d.sto with lastLow := some r, highWhileLow := 0 } })) ∧
    ∀ w : FaultWrite,
      let covered : List Byte := match w.record with
        | none => List.replicate 30 0#8
        | some r => be16 r.code.toNat ++ [if r.active then 0#8 else 1#8, byte r.severity.code, byte r.occurrences,
            byte r.aging] ++ be32 r.firstDistance ++ be32 r.lastDistance ++ be16 r.firstCycle ++ be16 r.lastCycle ++
            [if r.frame = .absent then 0#8 else 2#8, if r.frameLost then 1#8 else 0#8] ++ List.replicate 10 0#8
      continueWrite w d = { d with
        flt := { d.flt with write := some { w with recordStage := true } }
        sto := { d.sto with job := some ⟨.faultWriter,
          .write (0x4100 + 32 * w.slot.val) (covered ++ be16 (crc16 covered).toNat), 1, 0,
          .polling (d.clock + 1000), none, 0⟩ } }

/-! ## The host link (chapter 10) -/

/-- RX_BYTE and GAP_TIMER_EXPIRY (R184). With the receiver off a byte is ignored. Hunting, only 0xA5 begins a frame,
and any other byte changes nothing. From the sync byte on a good byte is kept and the gap timer of 3 ms restarts; a
missing stop bit, a LEN above 240, a wrong CRC or the gap timer's expiry discards the frame and is counted. A hunted
byte with a missing stop bit is not counted (Log 44). The clock moves on to the moment of the event if it lags it (the
model's choice, Log 2). -/
def Obligations.ReceiverTakesBytes : Prop :=
  ∀ (s : State) (b : Byte) (stop : Bool),
    let kept (bs : List Byte) : Dev := { s.dev with lnk := { s.dev.lnk with
      assembly := some bs, gapTimer := some (s.dev.clock + 3000) } }
    let discarded (clock : Nat) : Dev := { s.dev with
      clock := clock
      lnk := { s.dev.lnk with
        assembly := none, gapTimer := none, rxErrors := min 65535 (s.dev.lnk.rxErrors + 1) } }
    (s.dev.mod.mode = .standby → Runs (.rxByte b stop) s s.dev) ∧
    (s.dev.mod.mode ≠ .standby → s.dev.lnk.assembly = none →
      (stop = true ∧ b = 0xA5#8 → Runs (.rxByte b stop) s (kept [])) ∧
      (¬(stop = true ∧ b = 0xA5#8) → Runs (.rxByte b stop) s s.dev)) ∧
    (∀ bs, s.dev.mod.mode ≠ .standby → s.dev.lnk.assembly = some bs →
      let bytes := bs ++ [b]
      let len := (bytes.getD 0 0#8).toNat
      (stop = false → Runs (.rxByte b stop) s (discarded s.dev.clock)) ∧
      (stop = true → 240 < len → Runs (.rxByte b stop) s (discarded s.dev.clock)) ∧
      (stop = true → len ≤ 240 → bytes.length < len + 5 → Runs (.rxByte b stop) s (kept bytes)) ∧
      (stop = true → len ≤ 240 → len + 5 ≤ bytes.length →
        (crc16 (bytes.take (3 + len))).toNat ≠ be16At bytes (3 + len) →
        Runs (.rxByte b stop) s (discarded s.dev.clock))) ∧
    (∀ t, s.dev.lnk.gapTimer = some t → Runs .gapTimerExpiry s (discarded (max s.dev.clock t)))

/-- The last byte of a valid frame is that frame's command (R184, Log 4): where the bytes received so far and this one
are those of a frame of at most 240 payload bytes, taking the byte is taking the command the frame spells. -/
def Obligations.FrameBytesAreTheirCommand : Prop :=
  ∀ (s : State) (bs payload : List Byte) (b kind tag : Byte), s.dev.mod.mode ≠ .standby →
    s.dev.lnk.assembly = some bs → payload.length ≤ 240 →
    0xA5#8 :: (bs ++ [b]) = frameBytes kind tag payload →
    exec (.rxByte b true) s = exec (decodeFrame ⟨kind, tag, payload⟩) s

/-- Every well-formed command that is a frame of the host is read back from that frame, whose payload the receiver
takes. Which row a frame is, is Log 4. -/
def Obligations.DecodeFrameReadsEncoded : Prop :=
  ∀ (i : Instr) (f : Frame), WellFormed i = true → encodeFrame i = some f →
    decodeFrame f = i ∧ f.payload.length ≤ 240

/-- KEEP_ALIVE and the rejections (R185). With the link not lost, a keep-alive restarts the link timer if it runs and
does nothing else. A frame whose tag an outstanding request carries, or that finds 4 requests outstanding, is not
taken: its rejection TAG_IN_USE or BUSY joins the reply queue while that holds fewer than 4 rejections, and is dropped
and counted otherwise. The KIND of the reply to a KIND of 0x80 or above is a free value (Log 14). A frame with tag 0
is this row whatever its kind (Log 4). -/
def Obligations.KeepAlivesAndRejections : Prop :=
  ∀ s : State, s.dev.mod.mode ≠ .standby → s.dev.lnk.lost = false →
    let seen : LnkState := { s.dev.lnk with
      assembly := none, gapTimer := none
      timer := if s.dev.lnk.timer.isSome then some (s.dev.clock + s.dev.linkTimeout) else none }
    (∀ kind payload, Runs (.keepAlive kind payload) s { s.dev with lnk := seen }) ∧
    ∀ (c : Instr) (f : Frame) (status : Byte), encodeFrame c = some f → f.tag ≠ 0#8 →
      let kind := if f.kind.toNat < 0x80 then f.kind + 0x80#8 else Config.highReplyKind f.kind
      (((∃ q ∈ s.dev.lnk.requests, q.tag = f.tag) ∧ status = 2#8) ∨
        ((∀ q ∈ s.dev.lnk.requests, q.tag ≠ f.tag) ∧ 4 ≤ s.dev.lnk.requests.length ∧ status = 1#8)) →
      ((s.dev.lnk.replies.filter (·.rejection)).length < 4 → Runs c s { s.dev with lnk := { seen with
        replies := s.dev.lnk.replies ++ [⟨kind, f.tag, [status], true⟩] } }) ∧
      (4 ≤ (s.dev.lnk.replies.filter (·.rejection)).length → Runs c s { s.dev with lnk := { seen with
        rejectionDrops := min 65535 (s.dev.lnk.rejectionDrops + 1) } })

/-- The judgement of a taken request (R186, R187), for every command that is one: REFUSED_CONDITION under a pending
reset, UNKNOWN_KIND outside the catalogue, REFUSED_MODE where the mode does not admit the kind, BAD_LENGTH where LEN
does not fit, in that order; and a frame that passes all four but names no action of its kind is answered
BAD_ARGUMENT. Which frames are the row UNKNOWN_KIND is the model's choice (Log 4). -/
def Obligations.RequestsJudgedInOrder : Prop :=
  ∀ (s : State) (c : Instr) (f : Frame), encodeFrame c = some f → s.dev.mod.mode ≠ .standby →
    s.dev.lnk.lost = false → f.tag ≠ 0#8 → f.kind.toNat < 0x80 → (∀ q ∈ s.dev.lnk.requests, q.tag ≠ f.tag) →
    s.dev.lnk.requests.length < 4 →
    let k := f.kind.toNat
    let answers (status : Byte) : Prop := Runs c s (replied f [status] (taken f s.dev))
    let admitted : Prop := match s.dev.mod.mode with
      | .standby => False
      | .loading | .awaitingImage => k ∈ [0x01, 0x02, 0x13, 0x14, 0x15, 0x16, 0x17, 0x19]
      | .sweep | .run => k ∉ [0x0F, 0x12]
      | .service => True
      | .saving => k ∈ [0x01, 0x02, 0x04, 0x06, 0x0A, 0x0B, 0x0C, 0x0D, 0x0E, 0x17, 0x19, 0x1A]
    (s.dev.mod.resetPending = true → answers 7#8) ∧
    (s.dev.mod.resetPending = false → (k < 1 ∨ 0x1A < k) → answers 3#8) ∧
    (s.dev.mod.resetPending = false → 1 ≤ k → k ≤ 0x1A → ¬admitted → answers 6#8) ∧
    (s.dev.mod.resetPending = false → 1 ≤ k → k ≤ 0x1A → admitted → lengthFits f.kind f.payload = false →
      answers 4#8) ∧
    (∀ kind tag payload, c = .unknownKind kind tag payload → s.dev.mod.resetPending = false → 1 ≤ k → k ≤ 0x1A →
      admitted → lengthFits f.kind f.payload = true → answers 5#8)

/-- LINK_TIMER_EXPIRY and the end of link loss (R192, R193). At the expiry the link is lost and its fault held, the
timer stops, the mask, the notices and the overflow flag are cleared, and the host lamp bits with them (R105); the
request list, the replies, the transmitter and the receiver stay. A keep-alive that finds the link lost ends the loss:
the timer starts where the mode is SWEEP, RUN or SERVICE, the fault is no longer held and reported absent, the
LINK_LOST warnings evaluate false while WRN runs, and the mask and the host lamp bits stay as they are. In both, of
the other blocks only FLT, WRN, the notices and what the storage port has to do change. The clock moves on to the
moment of the event if it lags it (the model's choice, Log 2). -/
def Obligations.LinkTimerExpiryLosesLink : Prop :=
  (∀ (s : State) (t : Nat), s.dev.lnk.timer = some t →
    let lost : LnkState := { s.dev.lnk with
      lost := true, held := true, timer := none, mask := 0#8, notices := [], overflow := false }
    ∃ e : Dev, Runs .linkTimerExpiry s e ∧ Told 1 { s.dev with clock := max s.dev.clock t, lnk := lost } e ∧
      e.lnk = lost ∧ e.wrn.linkLost = true ∧ (∀ l, (e.lamp l).hostBit = false)) ∧
  ∀ (s : State) (kind : Byte) (payload : List Byte), s.dev.mod.mode ≠ .standby → s.dev.lnk.lost = true →
    let found : LnkState := { s.dev.lnk with
      assembly := none, gapTimer := none, lost := false
      timer := if s.dev.mod.mode.active = true ∨ s.dev.lnk.timer.isSome = true then
        some (s.dev.clock + s.dev.linkTimeout) else none }
    let d := fltAbsent 0x6000#16 { s.dev with lnk := found }
    let free := { d with lnk := { d.lnk with held := false } }
    (∃ e : Dev, Runs (.keepAlive kind payload) s e ∧
      Told 1 { s.dev with lnk := { found with held := false } } e ∧
      e.wrn.linkLost = false ∧ (∀ l, (e.lamp l).hostBit = (s.dev.lamp l).hostBit) ∧
      (s.dev.wrn.flash.isSome = true → ∀ w, (s.dev.wrn.cfg[w]).enabled = true → (s.dev.wrn.cfg[w]).kind = .system →
        (s.dev.wrn.cfg[w]).condition = .linkLost → (e.warning w).condition = false)) ∧
    ((∀ w : Fin 64, (s.dev.wrn.cfg[w]).condition ≠ .linkLost) →
      let p := lnkPost .systemChange 0 (systemContent free) free
      Runs (.keepAlive kind payload) s { p with wrn := { s.dev.wrn with linkLost := false } })

/-- TRANSMIT_COMPLETE while no flush runs (R189): a reply that has been sent ends its request's place in the list, and
the transmitter starts the head of the reply queue, else the head of the notice queue, which leaves its queue; with
both empty it is idle. The next frame starts at the end of the event (Log 6). -/
def Obligations.TransmitterSendsNextFrame : Prop :=
  ∀ (s : State) (t : Transmission), s.dev.lnk.tx = some t → s.dev.mod.flush = .none →
    let left := match t.answers with
      | some tag => s.dev.lnk.requests.filter (·.tag != tag)
      | none => s.dev.lnk.requests
    let after (l : LnkState) : Prop :=
      exec .transmitComplete s = .next { s with dev := { s.dev with lnk := { l with requests := left } } }
    (∀ r rest, s.dev.lnk.replies = r :: rest → after { s.dev.lnk with
      replies := rest
      tx := some ⟨frameBytes r.kind r.tag r.payload, if r.rejection then none else some r.tag⟩ }) ∧
    (∀ n rest, s.dev.lnk.replies = [] → s.dev.lnk.notices = n :: rest → after { s.dev.lnk with
      notices := rest
      tx := some ⟨frameBytes (byte n.kind.code) 0#8 (flagByte n.marker :: n.content), none⟩ }) ∧
    (s.dev.lnk.replies = [] → s.dev.lnk.notices = [] → after { s.dev.lnk with tx := none })

/-- Posting a notice (R190): discarded where its group is not subscribed; given to the entry of its kind and subject,
which keeps its place; queued at the tail of fewer than 32; and otherwise dropped with the overflow flag set. An entry
written or queued takes the marker when the flag is set, and the flag clears. -/
def Obligations.NoticesCoalesceOrQueue : Prop :=
  ∀ (d : Dev) (k : NoticeKind) (subject : Nat) (content : List Byte),
    let post := lnkPost k subject content d
    let l := d.lnk
    let queued := ∃ n ∈ l.notices, n.kind = k ∧ n.subject = subject
    (l.mask.getLsbD k.group = false → post = d) ∧
    (l.mask.getLsbD k.group = true → queued → post = { d with lnk := { l with
      notices := l.notices.map fun n => if n.kind = k ∧ n.subject = subject then
        { n with content := content, marker := n.marker || l.overflow } else n
      overflow := false } }) ∧
    (l.mask.getLsbD k.group = true → ¬queued → l.notices.length < 32 → post = { d with lnk := { l with
      notices := l.notices ++ [⟨k, subject, content, l.overflow⟩], overflow := false } }) ∧
    (l.mask.getLsbD k.group = true → ¬queued → 32 ≤ l.notices.length →
      post = { d with lnk := { l with overflow := true } })

/-! ## Fault memory (chapter 7) -/

/-- Reports to the fault memory, and SAVING entry. An absent report of a code held by an ACTIVE record makes the
record PASSIVE and its slot dirty, and nothing else of it changes; of a code that no ACTIVE record holds it changes
nothing (R136). A present report of a masked code, or of one held ACTIVE, changes nothing; of one held PASSIVE it
makes the record ACTIVE again with one more occurrence (R132); of an unmasked code that no slot holds it writes a new
record in the lowest free slot, with the lowest free pool entry where its severity asks for a frame (R130, R133,
R135). With no slot free it overwrites the PASSIVE record of the lowest severity, of those the one aged most, of those
the one in the lowest slot, if its severity is at or below the new fault's, and is dropped and counted otherwise
(R134). At SAVING entry every ACTIVE record becomes PASSIVE with aging 0, and once in a cycle every other record not
active in it ages by one, and is erased at the limit (R142). Beside FLT only the notices and the storage port move. A
frame is taken while RAM is valid, in LOADING too (Log 35). -/
def Obligations.FaultReportsWriteRecords : Prop :=
  (∀ (d : Dev) (code : BitVec 16),
    let holds (i : Fin 40) : Prop := ∃ r, (d.slot i).record = some r ∧ r.code = code
    let first (i : Fin 40) (r : FaultRec) : Prop :=
      (d.slot i).record = some r ∧ r.code = code ∧ ∀ k, k < i → ¬holds k
    let writes (e : Dev) (i : Fin 40) (r : FaultRec) : Prop :=
      Told 0 d e ∧ e.slot i = ⟨some r, true⟩ ∧ (∀ k, k ≠ i → e.slot k = d.slot k) ∧ e.flt.dropped = d.flt.dropped
    (∀ i r, first i r → r.active = true →
      writes (fltAbsent code d) i { r with active := false } ∧ (fltAbsent code d).flt.pool = d.flt.pool) ∧
    ((∀ i r, (d.slot i).record = some r → r.code = code → r.active = false) → fltAbsent code d = d) ∧
    ∀ g, groupEntry (code.toNat / 256) = some g →
      let sev := (d.groupSetting g).2
      let framed := sev ≠ .minor ∧ d.cal.valid = true
      let e := fltPresent code d
      let creates (i : Fin 40) (pool : Vector (Option FreezeFrame) 8) : Prop := ∃ frame lost,
        writes e i {
          code := code, active := true, severity := sev, occurrences := 1
          firstDistance := d.pls.distance, lastDistance := d.pls.distance
          firstCycle := d.pls.cycles, lastCycle := d.pls.cycles
          aging := 0, frame := frame, frameLost := lost } ∧
        (¬framed → frame = .absent ∧ lost = false ∧ e.flt.pool = pool) ∧
        (framed → (∀ p : Fin 8, pool[p] ≠ none) → frame = .absent ∧ lost = true ∧ e.flt.pool = pool) ∧
        (∀ p : Fin 8, framed → pool[p] = none → (∀ q : Fin 8, q < p → pool[q] ≠ none) →
          frame = .inPool p ∧ lost = false ∧ e.flt.pool = pool.set p (some (freezeFrame d code)))
      ((d.groupSetting g).1 = true → e = d) ∧
      ((d.groupSetting g).1 = false →
        (∀ i r, first i r → r.active = true → e = d) ∧
        (∀ i r, first i r → r.active = false → e.flt.pool = d.flt.pool ∧ writes e i { r with
          active := true, occurrences := min 255 (r.occurrences + 1)
          lastDistance := d.pls.distance, lastCycle := d.pls.cycles, aging := 0, severity := sev }) ∧
        (∀ i, (∀ k, ¬holds k) → (d.slot i).record = none → (∀ k, k < i → (d.slot k).record ≠ none) →
          creates i d.flt.pool) ∧
        ((∀ k, ¬holds k) → (∀ k, (d.slot k).record ≠ none) →
          let drops := e = { d with flt := { d.flt with dropped := min 255 (d.flt.dropped + 1) } }
          ((∀ k r, (d.slot k).record = some r → r.active = true) → drops) ∧
          ∀ i r, (d.slot i).record = some r → r.active = false →
            (∀ k q, k ≠ i → (d.slot k).record = some q → q.active = false →
              r.severity.code < q.severity.code ∨ (r.severity.code = q.severity.code ∧
                (q.aging < r.aging ∨ (q.aging = r.aging ∧ i < k)))) →
            (r.severity.code ≤ sev.code → creates i (match r.frame with
              | .inPool p => d.flt.pool.set p none
              | .absent | .stored => d.flt.pool)) ∧
            (sev.code < r.severity.code → drops)))) ∧
  ∀ d : Dev,
    let e := fltSaving d
    Told 0 d e ∧ e.flt.cycleAged = some d.pls.cycles ∧ e.flt.dropped = d.flt.dropped ∧
    ∀ i, ((d.slot i).record = none → e.slot i = d.slot i) ∧
      ∀ r, (d.slot i).record = some r →
        let aged := min 255 (r.aging + 1)
        let ages := r.active = false ∧ d.flt.cycleAged ≠ some d.pls.cycles ∧ r.lastCycle ≠ d.pls.cycles
        (r.active = true → e.slot i = ⟨some { r with active := false, aging := 0 }, true⟩) ∧
        (r.active = false → ¬ages → e.slot i = d.slot i) ∧
        (ages → aged < d.flt.agingLimit → e.slot i = ⟨some { r with aging := aged }, true⟩) ∧
        (ages → d.flt.agingLimit ≤ aged → e.slot i = ⟨none, true⟩ ∧
          ∀ p : Fin 8, r.frame = .inPool p → e.flt.pool[p] = none)

/-! ## Requests (section 10.6) -/

/-- The requests that read (R54, R76, R107, R129, R145, R195): each is answered at once, byte by byte as chapter 11
lays its reply out, with the state as it stands, and nothing else changes. The codes are those of section 11.5 and, of
the enumerations it does not list, the order of their rule. An index or a count out of range is answered BAD_ARGUMENT.
The revision is a free value (Log 11), the rounding of a remaining time another (Log 12), the id none while RAM is
invalid (Log 23), the kneel and ramp conditions are sent as whether they let DRIVE_PERMIT be high (Log 22), and the
widths follow Log 21. -/
def Obligations.ReadRequestsAnswerAtOnce : Prop :=
  ([Mode.standby, .loading, .awaitingImage, .sweep, .run, .service, .saving].map Mode.code = List.range 7 ∧
    [ResetCause.powerOn, .hostRequest].map ResetCause.code = List.range 2 ∧
    [Flush.none, .saving, .reset].map Flush.code = List.range 3 ∧
    [Supply.on, .off, .waitingRestore].map Supply.code = List.range 3 ∧
    [StorageState.unprobed, .present, .absent].map StorageState.code = List.range 3 ∧
    [LoaderState.idle, .probing, .fetchingHeader, .fetchingBody, .readingRing, .readingSlots, .verifying].map
      LoaderState.code = List.range 7 ∧
    [Quality.good, .notYet, .wireLow, .wireHigh, .shortSupply, .undefinedLevel, .supplyFault, .adcFault, .stale].map
      Quality.code = List.range 9 ∧
    [ChanKind.analog, .switch, .supply, .pulse].map ChanKind.code = List.range 4 ∧
    [WarningState.inactive, .pendingOn, .activeNew, .activeAcked, .pendingOff, .clearedUnacked].map
      WarningState.code = List.range 6 ∧
    [Chime.none, .single, .triple, .continuous].map Chime.code = List.range 4 ∧
    [Demand.off, .steady, .flashing].map Demand.code = List.range 3 ∧
    [LampDriver.ok, .openLoad, .shortToGround, .overcurrentWait, .lockedOff].map LampDriver.code = List.range 5 ∧
    [DoorPosition.unknown, .emergency, .obstructed, .opened, .closed, .closedLocked].map DoorPosition.code =
      List.range 6 ∧
    [ReleaseState.held, .pending, .released, .closing, .stuck].map ReleaseState.code = List.range 5 ∧
    [GaugeState.off, .sweep, .tracking, .invalid, .shutdown, .lockedOff, .supplyOff, .override].map GaugeState.code =
      List.range 8 ∧
    [Severity.minor, .major, .critical].map Severity.code = List.range 3) ∧
  ∀ (s : State) (tag : Byte) (p : List Byte),
    let d := s.dev
    let first := (p.getD 0 0#8).toNat
    let count := (p.getD 1 0#8).toNat
    let answers (c : Instr) (kind : Byte) (payload : List Byte) : Prop :=
      served d ⟨kind, tag, p⟩ = true → Runs c s (replied ⟨kind, tag, p⟩ payload (taken ⟨kind, tag, p⟩ d))
    let flag (b : Bool) : Byte := if b then 1#8 else 0#8
    let index (o : Option Nat) : Byte := match o with
      | some n => byte n
      | none => 0xFF#8
    let int16 (v : Int) : List Byte := be16 (v % 65536).toNat
    let time (t : Timer) : List Byte := match t with
      | none => [0xFF#8, 0xFF#8]
      | some end_ => be16 ((end_ - d.clock) / 100000 +
          if (end_ - d.clock) % 100000 = 0 then 0 else if Config.remainingRoundsUp (end_ - d.clock) then 1 else 0)
    let id := be32 (if d.cal.valid then d.cal.calId.getD 0xFFFFFFFF else 0xFFFFFFFF)
    let records := ((List.finRange 40).filter fun i => (d.slot i).record.isSome).length
    let channel (ch : Nat) : List Byte :=
      let r := d.chan ch
      [byte ch, byte r.kind.code, byte r.quality.code] ++ int16 r.value ++ int16 r.instant ++ be16 r.raw ++
        be16 r.corrected
    let door (i : Fin 4) : List Byte :=
      let r := d.door i
      [byte r.position.code, byte r.release.code] ++
        time (match r.holdTimer with
          | some t => some t
          | none => r.closeTimer) ++
        [flag r.requestPending] ++ be16 r.obstructions ++ [flag r.held, flag r.line]
    let gauge (g : Fin 6) : List Byte :=
      let r := d.gauge g
      [flag (d.gaugeCfg g).enabled, byte (d.gaugeCfg g).source, byte r.state.code] ++ int16 r.position ++
        int16 r.target ++
        (match r.overrideAngle with
          | some a => int16 a
          | none => [0xFF#8, 0xFF#8]) ++
        int16 r.sinDuty ++ int16 r.cosDuty ++ [byte r.terminated, byte r.restarts, flag r.held]
    let lamp (l : Fin 24) : List Byte :=
      let r := d.lamp l
      [flag r.hostBit, byte r.demand.code, (match r.force with
        | none => 0#8
        | some true => 1#8
        | some false => 2#8), flag r.output, byte r.driver.code, byte r.retries, flag r.heldOpen, flag r.heldShort,
        flag r.heldOver]
    let warning (w : Fin 64) : List Byte :=
      let r := d.warning w
      [byte w.val, byte r.state.code, flag r.condition, (match r.remembered with
        | none => 0xFF#8
        | some .activeNew => 2#8
        | some .activeAcked => 3#8), flag r.held]
    let chime : List Byte := (match d.wrn.player with
      | .idle => [0#8, 0xFF#8, 0#8]
      | .playing q => [1#8, (match q.warning with
        | some w => byte w.val
        | none => 0x40#8), byte q.pattern.code]
      | .silence _ => [2#8, 0xFF#8, 0#8]) ++
      [byte (d.wrn.requests.filter fun q => q.high).length, byte (d.wrn.requests.filter fun q => !q.high).length]
    let fault (i : Fin 40) : List Byte := match (d.slot i).record with
      | none => []
      | some r => byte i.val :: (be16 r.code.toNat ++ [if r.active then 0#8 else 1#8, byte r.severity.code,
          byte r.occurrences, byte r.aging] ++ be32 r.firstDistance ++ be32 r.lastDistance ++ be16 r.firstCycle ++
          be16 r.lastCycle ++ [(match r.frame with
            | .absent => 0#8
            | .inPool _ => 1#8
            | .stored => 2#8), flag r.frameLost, (match r.frame with
            | .inPool q => byte q.val
            | .absent | .stored => 0xFF#8), flag (d.slot i).dirty])
    let named := (List.finRange 64).filter fun w => decide (first ≤ w.val) && decide (w.val < first + count)
    let listed := (List.finRange 40).filter fun i =>
      decide (first ≤ i.val) && decide (i.val < first + 8) && (d.slot i).record.isSome
    answers (.identify tag p) 0x01#8
      ([0#8, 0x04#8, 0x80#8, Config.designRevision, 1#8, 1#8, 240#8, 4#8] ++ id) ∧
    answers (.status tag p) 0x02#8
      ([0#8, byte d.mod.mode.code, index (d.mod.previous.map Mode.code), byte d.mod.resetCause.code,
        flag d.mod.ignition, byte d.mod.flush.code] ++ time d.mod.flushTimer ++
        [flag d.mod.resetPending, byte d.mod.supply.code, flag d.mod.undervolt, flag d.mod.overvolt,
          flag d.mod.overtemp, flag d.pls.standstill, flag d.seq.adcFault, byte d.seq.fast.overruns,
          byte d.seq.medium.overruns, byte d.seq.slow.overruns, flag d.sig.supplyFault, byte d.sto.storage.code,
          flag d.sto.absentCond, flag d.sto.writeFailedCond, flag d.sto.unstoredCond, byte d.sto.loader.state.code,
          flag d.cal.valid] ++
        (match d.cal.validation with
          | .none => [0#8, 0xFF#8, 0xFF#8]
          | .pass => [1#8, 0xFF#8, 0xFF#8]
          | .failure sec entry => [2#8, byte sec, byte entry]) ++ id ++
        [byte records, byte d.flt.dropped, flag d.lnk.lost, 0#8, d.lnk.mask, flag d.lnk.overflow] ++
        be16 d.lnk.rxErrors ++ be16 d.lnk.rejectionDrops) ∧
    answers (.readDoors tag p) 0x0A#8
      (0#8 :: (((List.finRange 4).filter fun i => decide (i.val < d.dor.cfg.count)).flatMap door ++
        [flag d.dor.interlock.doorCondition, flag d.dor.interlock.bypass, flag d.dor.interlock.drivePermit,
          flag d.dor.interlock.brakePermit] ++ time d.dor.interlock.brakeTimer ++
        [flag (inactiveOpt d d.dor.cfg.kneel), flag (inactiveOpt d d.dor.cfg.ramp), byte d.dor.roadQuality.code] ++
        int16 d.dor.roadInstant)) ∧
    answers (.readGauges tag p) 0x0B#8 (0#8 :: (List.finRange 6).flatMap gauge) ∧
    answers (.readOdometer tag p) 0x0C#8
      ([0#8] ++ be32 d.pls.distance ++ be16 d.pls.frac ++ be16 d.pls.cycles ++
        [flag d.pls.ringTaken, byte d.pls.lastSlot] ++ be32 d.pls.lastSeq ++
        [match d.pls.odoJob with
          | .none => 0#8
          | .queued => 1#8
          | .inFlight => 2#8]) ∧
    answers (.readLamps tag p) 0x1A#8 (0#8 :: (List.finRange 24).flatMap lamp) ∧
    (first ≤ 45 → 1 ≤ count → count ≤ 16 → answers (.readChannels tag p) 0x04#8
      (0#8 :: byte (min count (46 - first)) ::
        ((List.range (min count (46 - first))).map (first + ·)).flatMap channel)) ∧
    ((45 < first ∨ count = 0 ∨ 16 < count) → answers (.readChannels tag p) 0x04#8 [5#8]) ∧
    (first ≤ 63 → 1 ≤ count → count ≤ 32 → answers (.readWarnings tag p) 0x06#8
      (0#8 :: byte named.length :: (named.flatMap warning ++ chime))) ∧
    ((63 < first ∨ count = 0 ∨ 32 < count) → answers (.readWarnings tag p) 0x06#8 [5#8]) ∧
    (first ≤ 39 → answers (.faultList tag p) 0x0D#8
      ([0#8, byte records, byte d.flt.dropped, flag d.flt.persistent,
        if first + 8 ≤ 39 then byte (first + 8) else 0xFF#8, byte listed.length] ++ listed.flatMap fault)) ∧
    (39 < first → answers (.faultList tag p) 0x0D#8 [5#8])

/-- SUBSCRIBE (R191): the mask is bits 0-7 of the request, no notice of a group it disables is left, and the reply
carries the mask in force. Where it enables no new group the kept notices are all; where MODE is the one group it
newly enables and the queue has room, the MODE_CHANGE snapshot joins them. The mask is sent in two bytes (Log 21). -/
def Obligations.SubscribeReplacesMask : Prop :=
  ∀ (s : State) (tag high mask : Byte),
    let f : Frame := ⟨0x03#8, tag, [high, mask]⟩
    let old := s.dev.lnk.mask
    let kept := s.dev.lnk.notices.filter fun n => !old.getLsbD n.kind.group || mask.getLsbD n.kind.group
    let m := s.dev.mod
    served s.dev f = true → ∃ e : Dev, Runs (.subscribe tag [high, mask]) s e ∧
      e = { s.dev with lnk := e.lnk } ∧ e.lnk.mask = mask ∧
      e.lnk.requests = (taken f s.dev).lnk.requests ∧
      e.lnk.replies = s.dev.lnk.replies ++ [⟨0x83#8, tag, [0#8, 0#8, mask], false⟩] ∧
      (∀ n ∈ e.lnk.notices, old.getLsbD n.kind.group = true → mask.getLsbD n.kind.group = true) ∧
      ((∀ g, mask.getLsbD g = true → old.getLsbD g = true) →
        e.lnk.notices = kept ∧ e.lnk.overflow = s.dev.lnk.overflow) ∧
      (mask = old ||| 0x40#8 → old.getLsbD 6 = false → (∀ n ∈ s.dev.lnk.notices, n.kind ≠ .modeChange) →
        s.dev.lnk.notices.length < 32 →
        e.lnk.notices = kept ++ [⟨.modeChange, 0,
          [byte m.mode.code, (m.previous.map fun p => byte p.code).getD 0xFF#8, byte m.cause.code],
          s.dev.lnk.overflow⟩])

/-- SAMPLE_NOW (R13): with 1 to 8 channels of 0-43 and room for them, one entry for each joins the on-demand list in
the request's order and the request is deferred; the scans stay, and a converter that is not idle. With too little
room it is answered BUSY, and with a wrong channel or number of channels BAD_ARGUMENT, and no entry joins. -/
def Obligations.SampleNowJoinsList : Prop :=
  ∀ (s : State) (tag count : Byte) (channels : List Byte),
    let f : Frame := ⟨0x05#8, tag, count :: channels⟩
    let named := 1 ≤ channels.length ∧ channels.length ≤ 8 ∧ ∀ c ∈ channels, c.toNat ≤ 43
    let room := s.dev.seq.onDemand.length + channels.length ≤ 8
    served s.dev f = true →
    (named → room → ∃ e : Dev, Runs (.sampleNow tag (count :: channels)) s e ∧
      e = { taken f s.dev with
        seq := { s.dev.seq with
          onDemand := s.dev.seq.onDemand ++ channels.map fun c => ⟨tag, c.toNat, none⟩
          converter := e.seq.converter }
        lnk := { (taken f s.dev).lnk with requests := s.dev.lnk.requests ++ [⟨tag, 0x05#8, true⟩] } } ∧
      (s.dev.seq.converter ≠ .idle → e.seq.converter = s.dev.seq.converter) ∧
      (s.dev.seq.converter = .idle → e.seq.converter ≠ .idle)) ∧
    (named → ¬room → Runs (.sampleNow tag (count :: channels)) s (replied f [1#8] (taken f s.dev))) ∧
    (¬named → Runs (.sampleNow tag (count :: channels)) s (replied f [5#8] (taken f s.dev)))

/-- ACK_WARNINGS (R86, R88): of the enabled warnings the scope selects, ACTIVE_NEW becomes ACTIVE_ACKED,
CLEARED_UNACKED becomes INACTIVE, and PENDING_OFF remembers ACTIVE_ACKED; every other warning stays as it was. The
reply carries how many changed. A scope or argument out of range is answered BAD_ARGUMENT. The argument of ALL is not
looked at (Log 43). -/
def Obligations.AckWarningsAcknowledges : Prop :=
  ∀ (s : State) (tag scope arg : Byte),
    let f : Frame := ⟨0x07#8, tag, [scope, arg]⟩
    let ranged := (scope = 0#8 ∧ arg.toNat ≤ 63) ∨ (scope = 1#8 ∧ arg.toNat ≤ 2) ∨ scope = 2#8
    let chosen (w : Fin 64) : Bool := (s.dev.wrn.cfg[w]).enabled &&
      (if scope = 0#8 then w.val == arg.toNat
      else if scope = 1#8 then (s.dev.wrn.cfg[w]).cls.code == arg.toNat else true)
    let changes (w : Fin 64) : Bool := match (s.dev.warning w).state with
      | .activeNew | .clearedUnacked => true
      | .pendingOff => (s.dev.warning w).remembered == some .activeNew
      | .inactive | .pendingOn | .activeAcked => false
    served s.dev f = true →
    (¬ranged → Runs (.ackWarnings tag [scope, arg]) s (replied f [5#8] (taken f s.dev))) ∧
    (ranged → ∃ e : Dev, Runs (.ackWarnings tag [scope, arg]) s e ∧
      (∀ w, (e.warning w).condition = (s.dev.warning w).condition ∧
        (chosen w = true → match (s.dev.warning w).state with
          | .activeNew => (e.warning w).state = .activeAcked
          | .clearedUnacked => (e.warning w).state = .inactive
          | .pendingOff => e.warning w = { s.dev.warning w with remembered := some .activeAcked }
          | .inactive | .pendingOn | .activeAcked => e.warning w = s.dev.warning w) ∧
        (chosen w = false → e.warning w = s.dev.warning w)) ∧
      e.lnk.requests = (taken f s.dev).lnk.requests ∧
      e.lnk.replies = s.dev.lnk.replies ++ [⟨0x87#8, tag,
        [0#8, byte ((List.finRange 64).filter fun w => chosen w && changes w).length], false⟩] ∧
      e.clock = s.dev.clock ∧ e.seq = s.dev.seq ∧ e.sig = s.dev.sig ∧ e.gau = s.dev.gau ∧ e.dor = s.dev.dor ∧
      e.cal = s.dev.cal ∧ e.mod = s.dev.mod)

/-- SET_LAMPS (R89): every lamp takes its bit of the 24; a lamp is demanded flashing exactly while an enabled flashing
warning on it is unacknowledged, and off exactly while its bit is clear and no enabled warning on it is shown. Nothing
but WRN's lamps and the reply OK follows. -/
def Obligations.SetLampsDemandsLamps : Prop :=
  ∀ (s : State) (tag a b c : Byte),
    let f : Frame := ⟨0x08#8, tag, [a, b, c]⟩
    let bits := a.toNat * 65536 + b.toNat * 256 + c.toNat
    let mapped (l : Fin 24) (w : Fin 64) : Prop :=
      (s.dev.wrn.cfg[w]).enabled = true ∧ (s.dev.wrn.cfg[w]).lamp = some l.val
    served s.dev f = true → ∃ e : Dev, Runs (.setLamps tag [a, b, c]) s e ∧
      e = { replied f [0#8] (taken f s.dev) with wrn := { s.dev.wrn with lamps := e.wrn.lamps } } ∧
      ∀ l, (e.lamp l).hostBit = bits.testBit l.val ∧
        ((e.lamp l).demand = .flashing ↔ ∃ w, mapped l w ∧ (s.dev.wrn.cfg[w]).flash = true ∧
          ((s.dev.warning w).state = .activeNew ∨ (s.dev.warning w).state = .clearedUnacked)) ∧
        ((e.lamp l).demand = .off ↔ bits.testBit l.val = false ∧
          ∀ w, mapped l w → (s.dev.warning w).state = .inactive ∨ (s.dev.warning w).state = .pendingOn) ∧
        (e.lamp l).driver = (s.dev.lamp l).driver ∧ (e.lamp l).force = (s.dev.lamp l).force

/-- OUTPUT_TEST (R71, R72, R96, R104). A gauge item overrides a gauge that follows its source or an override at its
angle, limited to the full angle, or releases an override, and a release of a gauge that has none changes nothing. A
lamp item forces a lamp ON or OFF, or releases it. A chime item plays a test pattern at once where the player is idle,
ends a low play that is in a gap, and otherwise waits for the end of what is played. A gauge that is not driven (Log
53), a lamp cut or locked off, and a test that waits or a supply that is off are answered REFUSED_CONDITION; a
disabled gauge, and a number or action out of range, BAD_ARGUMENT. Bytes marked zero are not looked at (Log 43). -/
def Obligations.OutputTestsActInService : Prop :=
  ∀ (s : State) (tag x y z v : Byte),
    let f (item : Byte) : Frame := ⟨0x12#8, tag, [item, x, y, z, v]⟩
    let refused (c : Instr) (item status : Byte) : Prop := Runs c s (replied (f item) [status] (taken (f item) s.dev))
    (served s.dev (f 0#8) = true →
      let cmd : Instr := .outputTestGauge tag [x, y, z, v]
      (∀ g : Fin 6, x.toNat = g.val → (s.dev.gaugeCfg g).enabled = true → y.toNat ≤ 1 →
        let r := s.dev.gauge g
        let a := min (s.dev.gaugeCfg g).full.toNat (z.toNat * 256 + v.toNat)
        let follows := r.state = .tracking ∨ r.state = .invalid ∨ r.state = .override
        (¬follows → refused cmd 0#8 7#8) ∧
        (follows → ∃ e : Dev, Runs cmd s e ∧ (∀ k, k ≠ g → e.gauge k = s.dev.gauge k) ∧
          e.lnk.requests = (taken (f 0#8) s.dev).lnk.requests ∧
          (y = 0#8 → e.gauge g = { r with overrideAngle := some (a : Int), target := a, state := .override } ∧
            e.lnk.replies = s.dev.lnk.replies ++ [⟨0x92#8, tag, 0#8 :: be16 a, false⟩]) ∧
          (y = 1#8 → r.state ≠ .override → e = replied (f 0#8) [0#8] (taken (f 0#8) s.dev)) ∧
          (y = 1#8 → r.state = .override → (e.gauge g).overrideAngle = none ∧ (e.gauge g).position = r.position ∧
            ((e.gauge g).state = .tracking ∨ (e.gauge g).state = .invalid) ∧
            e.lnk.replies = s.dev.lnk.replies ++ [⟨0x92#8, tag, [0#8], false⟩]) ∧
          e.clock = s.dev.clock ∧ e.seq = s.dev.seq ∧ e.sig = s.dev.sig ∧ e.dor = s.dev.dor ∧ e.cal = s.dev.cal ∧
          e.mod = s.dev.mod)) ∧
      ((6 ≤ x.toNat ∨ 1 < y.toNat) → refused cmd 0#8 5#8) ∧
      (∀ g : Fin 6, x.toNat = g.val → (s.dev.gaugeCfg g).enabled = false → refused cmd 0#8 5#8)) ∧
    (served s.dev (f 1#8) = true →
      let cmd : Instr := .outputTestLamp tag [x, y, z, v]
      (∀ l : Fin 24, x.toNat = l.val → y.toNat ≤ 1 → (s.dev.lamp l).driver.lets = false → refused cmd 1#8 7#8) ∧
      (∀ l : Fin 24, x.toNat = l.val → (y.toNat = 2 ∨ (y.toNat ≤ 1 ∧ (s.dev.lamp l).driver.lets = true)) →
        ∃ e : Dev, Runs cmd s e ∧
          e = { replied (f 1#8) [0#8] (taken (f 1#8) s.dev) with wrn := { s.dev.wrn with lamps := e.wrn.lamps } } ∧
          (∀ k, k ≠ l → e.lamp k = s.dev.lamp k) ∧
          (e.lamp l).force = (if y = 2#8 then none else some (y == 1#8)) ∧
          (y ≠ 2#8 → ((e.lamp l).output = true ↔ y = 1#8 ∧ s.dev.wrn.flash.isSome = true ∧ s.dev.mod.supply = .on))) ∧
      ((24 ≤ x.toNat ∨ 2 < y.toNat) → refused cmd 1#8 5#8)) ∧
    (served s.dev (f 2#8) = true →
      let cmd : Instr := .outputTestChime tag [x, y, z, v]
      (∀ pattern : Chime, pattern ≠ .none → x = byte pattern.code → y.toNat ≤ 1 →
        ((s.dev.wrn.test.isSome = true ∨ s.dev.mod.supply ≠ .on) → refused cmd 2#8 7#8) ∧
        (s.dev.wrn.test = none → s.dev.mod.supply = .on → s.dev.wrn.player = .idle →
          Runs cmd s { replied (f 2#8) [0#8] (taken (f 2#8) s.dev) with
            wrn := { s.dev.wrn with
              test := some ⟨pattern, y == 1#8⟩
              player := .playing ⟨none, pattern, true, y == 1#8, 0,
                s.dev.clock + (pattern.segments.getD 0 (false, 0)).2, s.dev.wrn.lastLow⟩ } }) ∧
        (s.dev.wrn.test = none → s.dev.mod.supply = .on →
          (∀ p, s.dev.wrn.player = .playing p → p.high = false →
            (p.pattern.segments.getD p.segment (false, 0)).1 = false →
            Runs cmd s { replied (f 2#8) [0#8] (taken (f 2#8) s.dev) with
              wrn := { s.dev.wrn with
                test := some ⟨pattern, y == 1#8⟩, lastLow := p.lowBefore
                player := .silence (s.dev.clock + 200000) } }) ∧
          (((∃ at_, s.dev.wrn.player = .silence at_) ∨ ∃ p, s.dev.wrn.player = .playing p ∧
              (p.high = true ∨ (p.pattern.segments.getD p.segment (false, 0)).1 = true)) →
            Runs cmd s { replied (f 2#8) [0#8] (taken (f 2#8) s.dev) with
              wrn := { s.dev.wrn with test := some ⟨pattern, y == 1#8⟩ } }))) ∧
      ((x = 0#8 ∨ 3 < x.toNat ∨ 1 < y.toNat) → refused cmd 2#8 5#8))

/-- FAULT_READ (R146). A code that no slot holds is answered BAD_ARGUMENT. A record whose frame is absent or in the
pool is answered at once from RAM. One whose frame is STORED is deferred, and its frame slot is read: at once where
the port is idle with nothing else queued, and queued while a job is in flight. -/
def Obligations.FaultReadAnswersOrDefers : Prop :=
  ∀ (s : State) (tag a b : Byte),
    let f : Frame := ⟨0x0E#8, tag, [a, b]⟩
    let code := BitVec.ofNat 16 (a.toNat * 256 + b.toNat)
    let cmd : Instr := .faultRead tag [a, b]
    let holds (i : Fin 40) : Prop := ∃ r, (s.dev.slot i).record = some r ∧ r.code = code
    served s.dev f = true →
    ((∀ i, ¬holds i) → Runs cmd s (replied f [5#8] (taken f s.dev))) ∧
    (∀ i r, (s.dev.slot i).record = some r → r.code = code → (∀ k, k < i → ¬holds k) →
      let record := [0#8, byte i.val] ++ recordForm (s.dev.slot i) r
      let deferred : LnkState :=
        { (taken f s.dev).lnk with requests := s.dev.lnk.requests ++ [⟨tag, 0x0E#8, true⟩] }
      (r.frame = .absent → Runs cmd s (replied f (record ++ [0#8]) (taken f s.dev))) ∧
      (∀ p fr, r.frame = .inPool p → s.dev.flt.pool[p] = some fr →
        Runs cmd s (replied f (record ++ [1#8] ++ frameBytes32 fr) (taken f s.dev))) ∧
      (r.frame = .stored → s.dev.sto.job.isSome = true → Runs cmd s { s.dev with
        lnk := deferred, sto := { s.dev.sto with hostReads := s.dev.sto.hostReads ++ [⟨tag, i, code⟩] } }) ∧
      (r.frame = .stored → s.dev.sto.job = none → s.dev.sto.storage = .present → s.dev.flt.queue = [] →
        s.dev.pls.odoJob ≠ .queued → s.dev.sto.loader.queued = none → s.dev.sto.hostReads = [] →
        s.dev.sto.storeQueued = false → Runs cmd s { s.dev with
          lnk := deferred
          sto := { s.dev.sto with
            job := some ⟨.hostRead, .read (0x4600 + 64 * i.val) 64, 1, 0, .started, some ⟨tag, i, code⟩, 0⟩
            lastLow := some .hostRead, highWhileLow := 0 } }))

/-- FAULT_CLEAR (R143, R144). ALL erases every PASSIVE record, keeps every ACTIVE one, and sets the dropped count to
0. ONE erases the record of its code if it is PASSIVE, and no other. The pool entry of an erased record is free and
its slot dirty. The reply counts the records erased and the ACTIVE ones kept within the scope. The code of ALL is not
looked at (Log 43). -/
def Obligations.FaultClearErasesPassive : Prop :=
  ∀ (s : State) (tag a b : Byte),
    let f (scope : Byte) : Frame := ⟨0x0F#8, tag, [scope, a, b]⟩
    let code := BitVec.ofNat 16 (a.toNat * 256 + b.toNat)
    let count (active : Bool) : Byte := byte ((List.finRange 40).filter fun i =>
      match (s.dev.slot i).record with
      | some r => r.active == active
      | none => false).length
    let cleared (c : Instr) (scope : Byte) (reply : List Byte) (erased : Fin 40 → Prop) : Prop :=
      ∃ e : Dev, Runs c s e ∧
        (∀ i, erased i → e.slot i = ⟨none, true⟩) ∧ (∀ i, ¬erased i → e.slot i = s.dev.slot i) ∧
        (∀ i r p, erased i → (s.dev.slot i).record = some r → r.frame = .inPool p → e.flt.pool[p] = none) ∧
        (scope = 0#8 → e.flt.dropped = 0) ∧
        e.lnk.requests = (taken (f scope) s.dev).lnk.requests ∧
        e.lnk.replies = s.dev.lnk.replies ++ [⟨0x8F#8, tag, 0#8 :: reply, false⟩] ∧
        e.wrn = s.dev.wrn ∧ e.gau = s.dev.gau ∧ e.dor = s.dev.dor ∧ e.cal = s.dev.cal ∧ e.mod = s.dev.mod
    let holds (i : Fin 40) (active : Bool) : Prop :=
      ∃ r, (s.dev.slot i).record = some r ∧ r.code = code ∧ r.active = active
    (served s.dev (f 0#8) = true → cleared (.faultClearAll tag [a, b]) 0#8 [count false, count true]
      fun i => ∃ r, (s.dev.slot i).record = some r ∧ r.active = false) ∧
    (served s.dev (f 1#8) = true →
      ((∀ i active, ¬holds i active) → cleared (.faultClearOne tag [a, b]) 1#8 [0#8, 0#8] fun _ => False) ∧
      (∀ i, holds i true → (∀ k active, k < i → ¬holds k active) →
        cleared (.faultClearOne tag [a, b]) 1#8 [0#8, 1#8] fun _ => False) ∧
      (∀ i, holds i false → (∀ k active, k < i → ¬holds k active) →
        cleared (.faultClearOne tag [a, b]) 1#8 [1#8, 0#8] fun k => k = i))

/-- SERVICE_ENTER and SERVICE_EXIT (R176, R177). SERVICE is entered from RUN at standstill with the parking brake, if
configured, GOOD and active; otherwise the request is refused and RUN stays. SERVICE_EXIT returns to RUN, and every
gauge override, lamp force and chime test ends. Where the part is already there, nothing changes but the reply OK, and
in SWEEP both are answered REFUSED_MODE. -/
def Obligations.ServiceIsEnteredAndLeft : Prop :=
  ∀ (s : State) (tag : Byte),
    let f (kind : Byte) : Frame := ⟨kind, tag, []⟩
    let answers (c : Instr) (kind status : Byte) : Prop := Runs c s (replied (f kind) [status] (taken (f kind) s.dev))
    let queued (kind : Byte) (e : Dev) : Prop := e.lnk.requests = (taken (f kind) s.dev).lnk.requests ∧
      e.lnk.replies = s.dev.lnk.replies ++ [⟨kind + 0x80#8, tag, [0#8], false⟩]
    let ready := s.dev.pls.standstill = true ∧
      ∀ ch, s.dev.parkingChannel = some ch → (s.dev.chan ch).quality = .good ∧ (s.dev.chan ch).value = 1
    (served s.dev (f 0x10#8) = true →
      (s.dev.mod.mode = .run → ready → ∃ e : Dev, Runs (.serviceEnter tag []) s e ∧ queued 0x10#8 e ∧
        e.mod = { s.dev.mod with mode := .service, previous := some .run, cause := .serviceRequest } ∧
        e.gau = s.dev.gau ∧ e.dor.doors = s.dev.dor.doors ∧ e.seq = s.dev.seq ∧ e.sig = s.dev.sig ∧
        e.cal = s.dev.cal ∧ e.clock = s.dev.clock) ∧
      (s.dev.mod.mode = .run → ¬ready → answers (.serviceEnter tag []) 0x10#8 7#8) ∧
      (s.dev.mod.mode = .service → answers (.serviceEnter tag []) 0x10#8 0#8) ∧
      (s.dev.mod.mode = .sweep → answers (.serviceEnter tag []) 0x10#8 6#8)) ∧
    (served s.dev (f 0x11#8) = true →
      (s.dev.mod.mode = .service → ∃ e : Dev, Runs (.serviceExit tag []) s e ∧ queued 0x11#8 e ∧
        e.mod = { s.dev.mod with mode := .run, previous := some .service, cause := .serviceExit } ∧
        (∀ g, (e.gauge g).overrideAngle = none ∧ (s.dev.gauge g).overrideAngle = none → e.gauge g = s.dev.gauge g) ∧
        (∀ g, (e.gauge g).overrideAngle = none) ∧ (∀ l, (e.lamp l).force = none) ∧ e.wrn.test = none ∧
        e.dor.doors = s.dev.dor.doors ∧ e.seq = s.dev.seq ∧ e.sig = s.dev.sig ∧ e.cal = s.dev.cal) ∧
      (s.dev.mod.mode = .run → answers (.serviceExit tag []) 0x11#8 0#8) ∧
      (s.dev.mod.mode = .sweep → answers (.serviceExit tag []) 0x11#8 6#8))

/-- CAL_WRITE and CAL_READ (R161), with calibration RAM in its canonical form. In AWAITING_IMAGE with the loader IDLE,
CAL_WRITE writes its bytes at its offset and no other byte of RAM; where they would pass the end it is answered
BAD_ARGUMENT, with the loader at work REFUSED_CONDITION, and in another mode REFUSED_MODE. CAL_READ is answered with
the validity flag and the bytes as they stand. -/
def Obligations.CalWriteAndReadRam : Prop :=
  ∀ (s : State) (tag a b : Byte), Memory.wf s.dev.cal.ram = true →
    let offset := a.toNat * 256 + b.toNat
    let m := s.dev.mod.mode
    (∀ data : List Byte,
      let f : Frame := ⟨0x14#8, tag, a :: b :: data⟩
      let cmd : Instr := .calWrite tag (a :: b :: data)
      let answers (status : Byte) : Prop := Runs cmd s (replied f [status] (taken f s.dev))
      served s.dev f = true →
      (m ≠ .awaitingImage → answers 6#8) ∧
      (m = .awaitingImage → s.dev.sto.loader.state ≠ .idle → answers 7#8) ∧
      (m = .awaitingImage → s.dev.sto.loader.state = .idle → 5008 < offset + data.length → answers 5#8) ∧
      (m = .awaitingImage → s.dev.sto.loader.state = .idle → offset + data.length ≤ 5008 →
        ∃ e : Dev, Runs cmd s e ∧
          e = { replied f [0#8] (taken f s.dev) with cal := { s.dev.cal with ram := e.cal.ram } } ∧
          Memory.wf e.cal.ram = true ∧
          ∀ k, Memory.read e.cal.ram k =
            if offset ≤ k ∧ k < offset + data.length then data.getD (k - offset) 0#8
            else Memory.read s.dev.cal.ram k)) ∧
    (∀ n : Byte,
      let f : Frame := ⟨0x17#8, tag, [a, b, n]⟩
      served s.dev f = true →
      ((n = 0#8 ∨ 192 < n.toNat ∨ 5008 < offset + n.toNat) →
        Runs (.calRead tag [a, b, n]) s (replied f [5#8] (taken f s.dev))) ∧
      (n ≠ 0#8 → n.toNat ≤ 192 → offset + n.toNat ≤ 5008 →
        Runs (.calRead tag [a, b, n]) s (replied f
          ([0#8, if s.dev.cal.valid then 1#8 else 0#8] ++
            (List.range n.toNat).map fun k => Memory.read s.dev.cal.ram (offset + k)) (taken f s.dev))))

/-- CAL_BEGIN, CAL_COMMIT and CAL_ABORT (R160, R162, R165). CAL_BEGIN in SERVICE with no image store and the loader
IDLE marks RAM invalid and enters AWAITING_IMAGE, its bytes kept. There, CAL_COMMIT, and CAL_ABORT without PRESENT
storage, validate RAM: a failure is answered IMAGE_REJECTED with its section and entry, and the part stays; PASS makes
RAM valid and leads by the recorded origin to SWEEP or RUN, a commit with the image-unstored condition set. With
PRESENT storage CAL_ABORT is deferred and the loader verifies. -/
def Obligations.CalBeginCommitAbort : Prop :=
  ∀ (s : State) (tag : Byte),
    let f (kind : Byte) : Frame := ⟨kind, tag, []⟩
    let storing := s.dev.sto.storePage.isSome = true ∨ ∃ j, s.dev.sto.job = some j ∧ j.requester = .imageStore
    let busy := s.dev.sto.loader.state ≠ .idle
    let valid : CalState :=
      { s.dev.cal with validation := .pass, valid := true, calId := some (be32At (Memory.readAll s.dev.cal.ram 0 16) 8) }
    let reached := match s.dev.cal.origin with
      | .loading => Mode.sweep
      | .service => Mode.run
    (served s.dev (f 0x13#8) = true → s.dev.mod.mode = .service →
      (storing ∨ busy → Runs (.calBegin tag []) s (replied (f 0x13#8) [7#8] (taken (f 0x13#8) s.dev))) ∧
      (¬(storing ∨ busy) → ∃ e : Dev, Runs (.calBegin tag []) s e ∧
        e.cal = { s.dev.cal with valid := false, origin := .service } ∧
        e.mod.mode = .awaitingImage ∧ e.mod.previous = some .service ∧ e.mod.cause = .calBegin ∧ e.mod.supply = .on ∧
        e.dor.running = false ∧ (∀ i, (e.door i).release = .held ∧ (e.door i).line = false) ∧
        (∀ g, (e.gauge g).state = .off) ∧ e.wrn.flash = none ∧ e.seq.onDemand = [] ∧ e.lnk.timer = none ∧
        ∃ more, e.lnk.replies = s.dev.lnk.replies ++ [⟨0x93#8, tag, [0#8], false⟩] ++ more)) ∧
    (s.dev.mod.mode = .awaitingImage → ¬busy →
      (served s.dev (f 0x15#8) = true →
        (∀ sec entry, s.dev.validate = .failure sec entry → Runs (.calCommit tag []) s
          (replied (f 0x15#8) [9#8, byte sec, byte entry] { taken (f 0x15#8) s.dev with
            cal := { s.dev.cal with validation := .failure sec entry, valid := false } })) ∧
        (s.dev.validate = .pass → ∃ e : Dev, Runs (.calCommit tag []) s e ∧
          e.cal = valid ∧ e.mod.mode = reached ∧ e.mod.cause = .calCommit ∧ e.dor.running = true ∧
          e.sto.unstoredCond = true ∧ (s.dev.sto.storage = .present → e.sto.storePage = some 0) ∧
          e.lnk.replies = s.dev.lnk.replies ++ [⟨0x95#8, tag, [0#8], false⟩])) ∧
      (served s.dev (f 0x16#8) = true →
        (∀ sec entry, s.dev.sto.storage ≠ .present → s.dev.validate = .failure sec entry →
          Runs (.calAbort tag []) s (replied (f 0x16#8) [9#8, byte sec, byte entry] { taken (f 0x16#8) s.dev with
            cal := { s.dev.cal with validation := .failure sec entry, valid := false }
            sto := { s.dev.sto with loader := Loader.resetValue } })) ∧
        (s.dev.sto.storage ≠ .present → s.dev.validate = .pass → ∃ e : Dev, Runs (.calAbort tag []) s e ∧
          e.cal = valid ∧ e.mod.mode = reached ∧ e.mod.cause = .calAbort ∧ e.dor.running = true ∧
          e.sto.unstoredCond = s.dev.sto.unstoredCond ∧
          e.lnk.replies = s.dev.lnk.replies ++ [⟨0x96#8, tag, [0#8], false⟩]) ∧
        (s.dev.sto.storage = .present → ∃ e : Dev, Runs (.calAbort tag []) s e ∧
          e.sto.loader.state = .verifying ∧ e.sto.loader.abortTag = some tag ∧
          e.lnk = { (taken (f 0x16#8) s.dev).lnk with requests := s.dev.lnk.requests ++ [⟨tag, 0x16#8, true⟩] } ∧
          e.cal = s.dev.cal ∧ e.mod = s.dev.mod)))

/-- RESTORE_OUTPUTS and RESET (R178, R182). With a cause set RESTORE_OUTPUTS is refused; otherwise a supply that waits
for it comes on, and no gauge and no lamp is left in LOCKED_OFF. RESET sets the reset-pending flag and is answered OK:
in SWEEP, RUN and SERVICE the flush RESET begins with its timer at 5,000 ms and the mode stays; in SAVING the flush
that runs is the reset's. That the flush field keeps its name in SAVING is the model's reading (Log 26). -/
def Obligations.RestoreFreesAndResetFlushes : Prop :=
  ∀ (s : State) (tag : Byte),
    let f (kind : Byte) : Frame := ⟨kind, tag, []⟩
    let cause := s.dev.mod.undervolt = true ∨ s.dev.mod.overvolt = true ∨ s.dev.mod.overtemp = true
    (served s.dev (f 0x18#8) = true →
      (cause → Runs (.restoreOutputs tag []) s (replied (f 0x18#8) [7#8] (taken (f 0x18#8) s.dev))) ∧
      (¬cause → ∃ e : Dev, Runs (.restoreOutputs tag []) s e ∧
        e.mod.supply = (if s.dev.mod.supply = .waitingRestore then .on else s.dev.mod.supply) ∧
        (∀ g, (e.gauge g).state ≠ .lockedOff) ∧ (∀ l, (e.lamp l).driver ≠ .lockedOff) ∧
        e.lnk.requests = (taken (f 0x18#8) s.dev).lnk.requests ∧
        e.lnk.replies = s.dev.lnk.replies ++ [⟨0x98#8, tag, [0#8, byte e.mod.supply.code], false⟩] ∧
        (∀ i, e.door i = s.dev.door i) ∧ e.seq = s.dev.seq ∧ e.sig = s.dev.sig ∧ e.cal = s.dev.cal)) ∧
    (served s.dev (f 0x19#8) = true →
      (s.dev.mod.mode = .saving → Runs (.reset tag []) s (replied (f 0x19#8) [0#8]
        { taken (f 0x19#8) s.dev with mod := { s.dev.mod with resetPending := true } })) ∧
      (s.dev.mod.mode.active = true → ∃ e : Dev, Runs (.reset tag []) s e ∧
        e.mod = { s.dev.mod with
          resetPending := true, flush := .reset, flushTimer := some (s.dev.clock + 5000000) } ∧
        e.lnk = (replied (f 0x19#8) [0#8] (taken (f 0x19#8) s.dev)).lnk ∧
        e.wrn = s.dev.wrn ∧ e.gau = s.dev.gau ∧ e.dor = s.dev.dor ∧ e.seq = s.dev.seq ∧ e.sig = s.dev.sig ∧
        e.cal = s.dev.cal ∧ e.pls.distance = s.dev.pls.distance))
end

