-- ==== Sys2Proof/Laws/Told.lean ====
section
/-! SUPPORT. What the operations of FLT, WRN and GAU, the notices and the grants of the storage port leave as it was:
one lemma for each, `told_<operation>`, in the form that a chain of them is taken off from the outside. -/

namespace Sys2Proof.Machine

variable {n : Nat} {d₀ d : Dev}

theorem Told.refl (n : Nat) (d : Dev) : Told n d d :=
  ⟨rfl, rfl, rfl, rfl, fun _ => rfl, fun _ => rfl, rfl, rfl, rfl, rfl, rfl, id, fun _ => rfl⟩

theorem Told.trans {a b c : Dev} (h : Told n a b) (k : Told n b c) : Told n a c := by
  refine ⟨k.clock.trans h.clock, k.seq.trans h.seq, k.sig.trans h.sig, ?_, fun r => (k.gau r).trans (h.gau r),
    fun r => (k.wrn r).trans (h.wrn r), k.dor.trans h.dor, ?_, k.cal.trans h.cal, k.mod.trans h.mod, ?_,
    fun r => k.room (h.room r), fun r => ?_⟩
  · rw [k.pls, h.pls]
  · rw [k.sto, h.sto]
  · rw [k.lnk, h.lnk]
  · have e := h.flight r
    rw [k.flight (by rw [e]; exact r), e]

/-- A larger reach says less. -/
theorem Told.widen (h : Told n d₀ d) (m : Nat) (hm : n ≤ m) : Told m d₀ d :=
  { h with gau := fun r => h.gau (by omega), wrn := fun r => h.wrn (by omega) }

theorem told_flt (w : FltState) (h : Told n d₀ d) : Told n d₀ { d with flt := w } := { h with }

theorem told_wrn (w : WrnState) (h : Told (n + 1) d₀ d) : Told (n + 1) d₀ { d with wrn := w } :=
  { h with wrn := fun r => absurd r (by omega) }

theorem told_gau (w : GauState) (h : Told (n + 2) d₀ d) : Told (n + 2) d₀ { d with gau := w } :=
  { h with gau := fun r => absurd r (by omega), wrn := fun r => absurd r (by omega) }

theorem told_forEach {k : Nat} {f : Fin k → Dev → Dev} (hf : ∀ i e, Told n d₀ e → Told n d₀ (f i e))
    (h : Told n d₀ d) : Told n d₀ (forEach k f d) := by
  unfold forEach
  generalize List.finRange k = l
  induction l generalizing d with
  | nil => exact h
  | cons i l ih => exact ih (hf i d h)

theorem told_withIndex {k i : Nat} {f : Fin k → Dev → Dev} (hf : ∀ i e, Told n d₀ e → Told n d₀ (f i e))
    (h : Told n d₀ d) : Told n d₀ (withIndex k i f d) := by
  unfold withIndex
  split
  · exact hf _ _ h
  · exact h

/-! ## Notices -/

theorem told_lnkPost (k : NoticeKind) (s : Nat) (c : List Byte) (h : Told n d₀ d) :
    Told n d₀ (lnkPost k s c d) := by
  unfold lnkPost
  split
  · exact h
  split
  · exact { h with lnk := by simp only; rw [h.lnk], room := fun r => by simpa [replaceNotice] using h.room r }
  split
  · exact { h with lnk := by simp only; rw [h.lnk], room := fun r => by simp; omega }
  · exact { h with lnk := by simp only; rw [h.lnk], room := fun r => h.room r }

/-! ## The storage port -/

/-- A job joins a queue of STO or is put in flight where none is. -/
theorem told_grantTo (r : Requester) (h : Told n d₀ d) (hj : d.sto.job.isSome = false) :
    Told n d₀ (grantTo r d) := by
  have hj₀ : ¬ d₀.sto.job.isSome = true := fun hs => by
    have := h.flight hs
    rw [this] at hj
    simp [hs] at hj
  cases r with
  | faultWriter =>
    simp only [grantTo]
    split
    · exact { h with
        sto := by simp only [startJob]; rw [h.sto]
        flight := fun r => absurd r hj₀ }
    · exact h
  | odometer =>
    simp only [grantTo]
    exact { h with
      pls := by simp only [startJob]; rw [h.pls]
      sto := by simp only [startJob]; rw [h.sto]
      flight := fun r => absurd r hj₀ }
  | loader =>
    simp only [grantTo]
    split
    · exact { h with
        sto := by simp only [startJob]; rw [h.sto]
        flight := fun r => absurd r hj₀ }
    · exact h
  | hostRead =>
    simp only [grantTo]
    split
    · exact { h with
        sto := by simp only [startJob]; rw [h.sto]
        flight := fun r => absurd r hj₀ }
    · exact h
  | imageStore =>
    simp only [grantTo]
    split
    · exact { h with
        sto := by simp only [startJob]; rw [h.sto]
        flight := fun r => absurd r hj₀ }
    · exact h

theorem told_countGrant (r : Requester) (h : Told n d₀ d) : Told n d₀ (countGrant r d) := by
  unfold countGrant
  split
  · exact { h with sto := by simp only; rw [h.sto], flight := h.flight }
  · exact { h with sto := by simp only; rw [h.sto], flight := h.flight }

theorem countGrant_job (r : Requester) (d : Dev) : (countGrant r d).sto.job = d.sto.job := by
  unfold countGrant; split <;> rfl

theorem told_stoGrant (h : Told n d₀ d) : Told n d₀ (stoGrant d) := by
  unfold stoGrant
  split
  · exact h
  · rename_i hc
    split
    · refine told_grantTo _ (told_countGrant _ h) ?_
      rw [countGrant_job]
      simp only [Bool.or_eq_true, not_or, Bool.not_eq_true] at hc
      exact hc.1
    · exact h

theorem told_plsAskWrite (h : Told n d₀ d) : Told n d₀ (plsAskWrite d) := by
  unfold plsAskWrite
  split
  · exact h
  · split
    · exact told_stoGrant { h with pls := by simp only; rw [h.pls] }
    · exact h
    · exact { h with pls := by simp only; rw [h.pls] }

theorem told_postSystem (h : Told n d₀ d) :
    Told n d₀ (postSystem d) := by
  unfold postSystem
  iterate 12 all_goals try first
    | with_reducible assumption | with_reducible apply told_lnkPost

/-! ## Faults -/

theorem told_freeFrame (f : FrameRef) (h : Told n d₀ d) :
    Told n d₀ (freeFrame f d) := by
  unfold freeFrame
  iterate 12 all_goals try first
    | with_reducible assumption | split | with_reducible apply told_flt

theorem told_setSlot (i : Fin 40) (s : FaultSlot) (h : Told n d₀ d) : Told n d₀ (d.setSlot i s) :=
  told_flt _ h

theorem told_fltDirty (i : Fin 40) (renewed : Bool) (h : Told n d₀ d) : Told n d₀ (fltDirty i renewed d) := by
  have k : ∀ e, Told n d₀ e → Told n d₀ (fltDirty.enqueue i e) := by
    intro e he
    unfold fltDirty.enqueue
    split
    · exact he
    · exact told_stoGrant (told_flt _ he)
  unfold fltDirty
  iterate 9 all_goals try first
    | with_reducible assumption | with_reducible apply told_setSlot
    | with_reducible apply k | split | with_reducible apply told_flt

theorem told_postFault (i : Fin 40) (r : FaultRec) (status : Nat) (h : Told n d₀ d) :
    Told n d₀ (postFault i r status d) := by
  unfold postFault
  iterate 12 all_goals try first
    | with_reducible assumption | with_reducible apply told_lnkPost

theorem told_commitRecord (i : Fin 40) (r : FaultRec) (renewed : Bool) (h : Told n d₀ d) :
    Told n d₀ (commitRecord i r renewed d) := by
  unfold commitRecord
  iterate 12 all_goals try first
    | with_reducible assumption | with_reducible apply told_setSlot | with_reducible apply told_fltDirty
    | with_reducible apply told_postFault

theorem told_takeFrame (code : BitVec 16) (sev : Severity) (h : Told n d₀ d) :
    Told n d₀ (takeFrame code sev d).1 := by
  unfold takeFrame
  repeat' split
  all_goals first | exact h | exact told_flt _ h

theorem told_createRecord (i : Fin 40) (code : BitVec 16) (sev : Severity) (renewed : Bool) (h : Told n d₀ d) :
    Told n d₀ (createRecord i code sev renewed d) :=
  told_commitRecord _ _ _ (told_takeFrame code sev h)

theorem told_replaceRecord (code : BitVec 16) (sev : Severity) (h : Told n d₀ d) :
    Told n d₀ (replaceRecord code sev d) := by
  unfold replaceRecord
  iterate 12 all_goals try first
    | with_reducible assumption | with_reducible apply told_freeFrame | with_reducible apply told_createRecord
    | split | with_reducible apply told_flt

theorem told_reactivate (i : Fin 40) (r : FaultRec) (sev : Severity) (h : Told n d₀ d) :
    Told n d₀ (reactivate i r sev d) := by
  unfold reactivate
  iterate 12 all_goals try first
    | with_reducible assumption | with_reducible apply told_commitRecord

theorem told_fltPresent (code : BitVec 16) (h : Told n d₀ d) :
    Told n d₀ (fltPresent code d) := by
  unfold fltPresent
  iterate 12 all_goals try first
    | with_reducible assumption | with_reducible apply told_createRecord
    | with_reducible apply told_replaceRecord | with_reducible apply told_reactivate | split
    | (extract_lets +lift)

theorem told_fltAbsent (code : BitVec 16) (h : Told n d₀ d) :
    Told n d₀ (fltAbsent code d) := by
  unfold fltAbsent
  iterate 12 all_goals try first
    | with_reducible assumption | with_reducible apply told_commitRecord | split

theorem told_fltReport (group : Nat) (index : Nat) (present : Bool) (h : Told n d₀ d) :
    Told n d₀ (fltReport group index present d) := by
  unfold fltReport
  iterate 12 all_goals try first
    | with_reducible assumption | with_reducible apply told_fltPresent | with_reducible apply told_fltAbsent
    | split

theorem told_fltReportIf (cond : Bool) (group : Nat) (index : Nat) (present : Bool) (h : Told n d₀ d) :
    Told n d₀ (fltReportIf cond group index present d) := by
  unfold fltReportIf
  iterate 12 all_goals try first
    | with_reducible assumption | with_reducible apply told_fltReport | split

theorem told_eraseSlot (i : Fin 40) (r : FaultRec) (h : Told n d₀ d) :
    Told n d₀ (eraseSlot i r d) := by
  unfold eraseSlot
  iterate 12 all_goals try first
    | with_reducible assumption | with_reducible apply told_freeFrame | with_reducible apply told_setSlot
    | with_reducible apply told_fltDirty | with_reducible apply told_postFault

theorem told_passivateSlot (i : Fin 40) (h : Told n d₀ d) :
    Told n d₀ (passivateSlot i d) := by
  unfold passivateSlot
  iterate 12 all_goals try first
    | with_reducible assumption | with_reducible apply told_commitRecord | split

theorem told_ageSlot (i : Fin 40) (h : Told n d₀ d) :
    Told n d₀ (ageSlot i d) := by
  unfold ageSlot
  iterate 12 all_goals try first
    | with_reducible assumption | with_reducible apply told_commitRecord | with_reducible apply told_eraseSlot
    | split | (extract_lets +lift)

theorem told_fltSaving (h : Told n d₀ d) :
    Told n d₀ (fltSaving d) := by
  unfold fltSaving
  iterate 12 all_goals try first
    | with_reducible assumption | with_reducible (apply told_forEach; intro _ _ _)
    | with_reducible apply told_passivateSlot | with_reducible apply told_ageSlot | split | (extract_lets +lift)
    | with_reducible apply told_flt

theorem told_fltReadSettings (h : Told n d₀ d) :
    Told n d₀ (fltReadSettings d) := by
  unfold fltReadSettings
  iterate 12 all_goals try first
    | with_reducible assumption | with_reducible apply told_flt

/-! ## Chime -/

theorem told_setPlayer (p : Player) (h : Told (n + 1) d₀ d) :
    Told (n + 1) d₀ (setPlayer p d) := by
  unfold setPlayer
  iterate 12 all_goals try first
    | with_reducible assumption | with_reducible apply told_wrn

theorem told_chimeSilence (h : Told (n + 1) d₀ d) :
    Told (n + 1) d₀ (chimeSilence d) := by
  unfold chimeSilence
  iterate 12 all_goals try first
    | with_reducible assumption | with_reducible apply told_setPlayer

theorem told_startPlay (warning : Option (Fin 64)) (pattern : Chime) (high : Bool) (highTone : Bool) (lowBefore : Option (Fin 64)) (h : Told (n + 1) d₀ d) :
    Told (n + 1) d₀ (startPlay warning pattern high highTone lowBefore d) := by
  unfold startPlay
  iterate 12 all_goals try first
    | with_reducible assumption | with_reducible apply told_setPlayer

theorem told_grantRequest (r : ChimeRequest) (h : Told (n + 1) d₀ d) :
    Told (n + 1) d₀ (grantRequest r d) := by
  unfold grantRequest
  iterate 12 all_goals try first
    | with_reducible assumption | with_reducible apply told_startPlay | split | (extract_lets +lift)
    | with_reducible apply told_wrn

theorem told_chimeArbitrate (h : Told (n + 1) d₀ d) :
    Told (n + 1) d₀ (chimeArbitrate d) := by
  unfold chimeArbitrate
  iterate 12 all_goals try first
    | with_reducible assumption | with_reducible apply told_startPlay | with_reducible apply told_grantRequest
    | split

theorem told_chimeGrant (h : Told (n + 1) d₀ d) :
    Told (n + 1) d₀ (chimeGrant d) := by
  unfold chimeGrant
  iterate 12 all_goals try first
    | with_reducible assumption | with_reducible apply told_chimeArbitrate | split

theorem told_preempt (p : Play) (h : Told (n + 1) d₀ d) :
    Told (n + 1) d₀ (preempt p d) := by
  unfold preempt
  iterate 12 all_goals try first
    | with_reducible assumption | with_reducible apply told_chimeSilence | with_reducible apply told_wrn

theorem told_chimeArrival (h : Told (n + 1) d₀ d) :
    Told (n + 1) d₀ (chimeArrival d) := by
  unfold chimeArrival
  iterate 12 all_goals try first
    | with_reducible assumption | with_reducible apply told_chimeGrant | with_reducible apply told_preempt
    | split

theorem told_chimeJoin (w : Fin 64) (pattern : Chime) (high : Bool) (h : Told (n + 1) d₀ d) :
    Told (n + 1) d₀ (chimeJoin w pattern high d) := by
  unfold chimeJoin
  iterate 12 all_goals try first
    | with_reducible assumption | with_reducible apply told_chimeArrival | with_reducible apply told_wrn

theorem told_chimeChange (w : Fin 64) (pattern : Chime) (h : Told (n + 1) d₀ d) :
    Told (n + 1) d₀ (chimeChange w pattern d) := by
  unfold chimeChange
  iterate 12 all_goals try first
    | with_reducible assumption | split | with_reducible apply told_wrn

theorem told_chimeRemove (w : Fin 64) (h : Told (n + 1) d₀ d) :
    Told (n + 1) d₀ (chimeRemove w d) := by
  unfold chimeRemove
  iterate 12 all_goals try first
    | with_reducible assumption | with_reducible apply told_wrn

theorem told_chimeLeave (w : Fin 64) (h : Told (n + 1) d₀ d) :
    Told (n + 1) d₀ (chimeLeave w d) := by
  unfold chimeLeave
  iterate 12 all_goals try first
    | with_reducible assumption | with_reducible apply told_chimeSilence | with_reducible apply told_chimeRemove
    | split | (extract_lets +lift)

theorem told_chimeRefresh (w : Fin 64) (entered : Bool) (h : Told (n + 1) d₀ d) :
    Told (n + 1) d₀ (chimeRefresh w entered d) := by
  unfold chimeRefresh
  iterate 12 all_goals try first
    | with_reducible assumption | with_reducible apply told_chimeJoin | with_reducible apply told_chimeChange
    | with_reducible apply told_chimeLeave | split | (extract_lets +lift)

theorem told_playEnd (p : Play) (h : Told (n + 1) d₀ d) :
    Told (n + 1) d₀ (playEnd p d) := by
  unfold playEnd
  iterate 12 all_goals try first
    | with_reducible assumption | with_reducible apply told_chimeSilence | with_reducible apply told_chimeRemove
    | split | with_reducible apply told_wrn

theorem told_playStep (p : Play) (h : Told (n + 1) d₀ d) :
    Told (n + 1) d₀ (playStep p d) := by
  unfold playStep
  iterate 12 all_goals try first
    | with_reducible assumption | with_reducible apply told_setPlayer | with_reducible apply told_preempt
    | with_reducible apply told_playEnd | split

theorem told_silenceEnd (h : Told (n + 1) d₀ d) :
    Told (n + 1) d₀ (silenceEnd d) := by
  unfold silenceEnd
  iterate 12 all_goals try first
    | with_reducible assumption | with_reducible apply told_setPlayer | with_reducible apply told_chimeGrant

theorem told_chimeSupplyOff (h : Told (n + 1) d₀ d) :
    Told (n + 1) d₀ (chimeSupplyOff d) := by
  unfold chimeSupplyOff
  iterate 12 all_goals try first
    | with_reducible assumption | with_reducible apply told_setPlayer

theorem told_chimePlaceTest (t : ChimeTest) (h : Told (n + 1) d₀ d) :
    Told (n + 1) d₀ (chimePlaceTest t d) := by
  unfold chimePlaceTest
  iterate 12 all_goals try first
    | with_reducible assumption | with_reducible apply told_chimeArrival | with_reducible apply told_wrn

theorem told_chimeRemoveTest (h : Told (n + 1) d₀ d) :
    Told (n + 1) d₀ (chimeRemoveTest d) := by
  unfold chimeRemoveTest
  iterate 12 all_goals try first
    | with_reducible assumption | with_reducible apply told_chimeSilence | split | (extract_lets +lift)
    | with_reducible apply told_wrn

/-! ## Warnings -/

theorem told_setLamp (l : Fin 24) (r : LampRec) (h : Told (n + 1) d₀ d) :
    Told (n + 1) d₀ (Dev.setLamp d l r) := by
  unfold Dev.setLamp
  iterate 12 all_goals try first
    | with_reducible assumption | with_reducible apply told_wrn

theorem told_lampUpdate (l : Fin 24) (f : LampRec → LampRec) (h : Told (n + 1) d₀ d) :
    Told (n + 1) d₀ (lampUpdate l f d) := by
  unfold lampUpdate
  iterate 12 all_goals try first
    | with_reducible assumption | with_reducible apply told_setLamp

theorem told_lampsRefresh (h : Told (n + 1) d₀ d) :
    Told (n + 1) d₀ (lampsRefresh d) := by
  unfold lampsRefresh
  iterate 12 all_goals try first
    | with_reducible assumption | with_reducible (apply told_forEach; intro _ _ _)
    | with_reducible apply told_lampUpdate

theorem told_lampDemandRefresh (l : Fin 24) (h : Told (n + 1) d₀ d) :
    Told (n + 1) d₀ (lampDemandRefresh l d) := by
  unfold lampDemandRefresh
  iterate 12 all_goals try first
    | with_reducible assumption | with_reducible apply told_lampUpdate

theorem told_setWarning (w : Fin 64) (r : WarningRec) (h : Told (n + 1) d₀ d) :
    Told (n + 1) d₀ (Dev.setWarning d w r) := by
  unfold Dev.setWarning
  iterate 12 all_goals try first
    | with_reducible assumption | with_reducible apply told_wrn

theorem told_postWarning (w : Fin 64) (h : Told (n + 1) d₀ d) :
    Told (n + 1) d₀ (postWarning w d) := by
  unfold postWarning
  iterate 12 all_goals try first
    | with_reducible assumption | with_reducible apply told_lnkPost

theorem told_warningReport (w : Fin 64) (h : Told (n + 1) d₀ d) :
    Told (n + 1) d₀ (warningReport w d) := by
  unfold warningReport
  iterate 12 all_goals try first
    | with_reducible assumption | with_reducible apply told_fltReport | with_reducible apply told_setWarning
    | split | (extract_lets +lift)

theorem told_warningEnter (w : Fin 64) (st : WarningState) (rem : Option Remembered) (timer : Timer) (h : Told (n + 1) d₀ d) :
    Told (n + 1) d₀ (warningEnter w st rem timer d) := by
  unfold warningEnter
  iterate 12 all_goals try first
    | with_reducible assumption | with_reducible (apply told_withIndex; intro _ _ _)
    | with_reducible apply told_chimeRefresh | with_reducible apply told_lampDemandRefresh
    | with_reducible apply told_setWarning | with_reducible apply told_postWarning
    | with_reducible apply told_warningReport | split

theorem told_warningExit (w : Fin 64) (rem : Remembered) (h : Told (n + 1) d₀ d) :
    Told (n + 1) d₀ (warningExit w rem d) := by
  unfold warningExit
  iterate 12 all_goals try first
    | with_reducible assumption | with_reducible apply told_warningEnter | split

theorem told_warningEnding (w : Fin 64) (rem : Remembered) (h : Told (n + 1) d₀ d) :
    Told (n + 1) d₀ (warningEnding w rem d) := by
  unfold warningEnding
  iterate 12 all_goals try first
    | with_reducible assumption | with_reducible apply told_warningEnter | with_reducible apply told_warningExit
    | split

theorem told_conditionTrue (w : Fin 64) (h : Told (n + 1) d₀ d) :
    Told (n + 1) d₀ (conditionTrue w d) := by
  unfold conditionTrue
  iterate 12 all_goals try first
    | with_reducible assumption | with_reducible apply told_warningEnter | split | (extract_lets +lift)

theorem told_conditionFalse (w : Fin 64) (h : Told (n + 1) d₀ d) :
    Told (n + 1) d₀ (conditionFalse w d) := by
  unfold conditionFalse
  iterate 12 all_goals try first
    | with_reducible assumption | with_reducible apply told_warningEnter
    | with_reducible apply told_warningEnding | split

theorem told_evaluate (w : Fin 64) (h : Told (n + 1) d₀ d) :
    Told (n + 1) d₀ (evaluate w d) := by
  unfold evaluate
  iterate 12 all_goals try first
    | with_reducible assumption | with_reducible apply told_setWarning | with_reducible apply told_conditionTrue
    | with_reducible apply told_conditionFalse | split | (extract_lets +lift)

theorem told_evaluateWhere (p : WarningCfg → Bool) (h : Told (n + 1) d₀ d) :
    Told (n + 1) d₀ (evaluateWhere p d) := by
  unfold evaluateWhere
  iterate 12 all_goals try first
    | with_reducible assumption | with_reducible (apply told_forEach; intro _ _ _)
    | with_reducible apply told_evaluate | split

theorem told_warningExpire (w : Fin 64) (h : Told (n + 1) d₀ d) :
    Told (n + 1) d₀ (warningExpire w d) := by
  unfold warningExpire
  iterate 12 all_goals try first
    | with_reducible assumption | with_reducible apply told_warningEnter | with_reducible apply told_warningExit
    | split | (extract_lets +lift)

theorem told_ackWarning (w : Fin 64) (h : Told (n + 1) d₀ d) :
    Told (n + 1) d₀ (ackWarning w d) := by
  unfold ackWarning
  iterate 12 all_goals try first
    | with_reducible assumption | with_reducible apply told_setWarning | with_reducible apply told_warningEnter
    | split | (extract_lets +lift)

theorem told_ackAll (ws : List (Fin 64)) (h : Told (n + 1) d₀ d) : Told (n + 1) d₀ (ackAll ws d) := by
  unfold ackAll
  induction ws generalizing d with
  | nil => exact h
  | cons w ws ih => exact ih (told_ackWarning w h)

theorem told_ackButton (h : Told (n + 1) d₀ d) :
    Told (n + 1) d₀ (ackButton d) := by
  unfold ackButton
  iterate 12 all_goals try first
    | with_reducible assumption | with_reducible apply told_ackAll

theorem told_wrnChannel (ch : Nat) (flipOn : Bool) (h : Told (n + 1) d₀ d) :
    Told (n + 1) d₀ (wrnChannel ch flipOn d) := by
  unfold wrnChannel
  iterate 12 all_goals try first
    | with_reducible assumption | with_reducible apply told_evaluateWhere | with_reducible apply told_ackButton
    | split | (extract_lets +lift)

theorem told_wrnDoor (i : Nat) (h : Told (n + 1) d₀ d) :
    Told (n + 1) d₀ (wrnDoor i d) := by
  unfold wrnDoor
  iterate 12 all_goals try first
    | with_reducible assumption | with_reducible apply told_evaluateWhere

theorem told_wrnInterlock (h : Told (n + 1) d₀ d) :
    Told (n + 1) d₀ (wrnInterlock d) := by
  unfold wrnInterlock
  iterate 12 all_goals try first
    | with_reducible assumption | with_reducible apply told_evaluateWhere

theorem told_wrnGauge (g : Nat) (h : Told (n + 1) d₀ d) :
    Told (n + 1) d₀ (wrnGauge g d) := by
  unfold wrnGauge
  iterate 12 all_goals try first
    | with_reducible assumption | with_reducible apply told_evaluateWhere

theorem told_wrnSystem (item : Condition) (h : Told (n + 1) d₀ d) :
    Told (n + 1) d₀ (wrnSystem item d) := by
  unfold wrnSystem
  iterate 12 all_goals try first
    | with_reducible assumption | with_reducible apply told_evaluateWhere

theorem told_lampsDriverChanged (changed : Nat → Bool) (h : Told (n + 1) d₀ d) :
    Told (n + 1) d₀ (lampsDriverChanged changed d) := by
  unfold lampsDriverChanged
  iterate 12 all_goals try first
    | with_reducible assumption | with_reducible (apply told_forEach; intro _ _ _)
    | with_reducible apply told_chimeRefresh | with_reducible apply told_evaluateWhere | split

theorem told_lampDriverChanged (l : Fin 24) (h : Told (n + 1) d₀ d) :
    Told (n + 1) d₀ (lampDriverChanged l d) := told_lampsDriverChanged _ h

theorem told_lampsToOk (was : LampDriver) (f : LampRec → LampRec) (h : Told (n + 1) d₀ d) :
    Told (n + 1) d₀ (lampsToOk was f d) := by
  unfold lampsToOk
  iterate 12 all_goals try first
    | with_reducible assumption | with_reducible (apply told_forEach; intro _ _ _)
    | with_reducible apply told_lampUpdate | with_reducible apply told_lampsDriverChanged | split

theorem told_lampDiagnose (l : Fin 24) (h : Told (n + 1) d₀ d) :
    Told (n + 1) d₀ (lampDiagnose l d) := by
  unfold lampDiagnose
  iterate 12 all_goals try first
    | with_reducible assumption | with_reducible apply told_fltReport | with_reducible apply told_fltReportIf
    | with_reducible apply told_setLamp | with_reducible apply told_lampUpdate
    | with_reducible apply told_lampDriverChanged | split

theorem told_lampCut (l : Fin 24) (h : Told (n + 1) d₀ d) :
    Told (n + 1) d₀ (lampCut l d) := by
  unfold lampCut
  iterate 12 all_goals try first
    | with_reducible assumption | with_reducible apply told_fltReportIf | with_reducible apply told_lampUpdate
    | with_reducible apply told_lampDriverChanged

theorem told_lampRetry (l : Fin 24) (h : Told (n + 1) d₀ d) :
    Told (n + 1) d₀ (lampRetry l d) := by
  unfold lampRetry
  iterate 12 all_goals try first
    | with_reducible assumption | with_reducible apply told_lampUpdate
    | with_reducible apply told_lampDriverChanged | split | (extract_lets +lift)

theorem told_wrnSupplyOff (h : Told (n + 1) d₀ d) :
    Told (n + 1) d₀ (wrnSupplyOff d) := by
  unfold wrnSupplyOff
  iterate 12 all_goals try first
    | with_reducible assumption | with_reducible (apply told_forEach; intro _ _ _)
    | with_reducible apply told_chimeSupplyOff | with_reducible apply told_lampUpdate | split

theorem told_wrnSupplyOn (h : Told (n + 1) d₀ d) :
    Told (n + 1) d₀ (wrnSupplyOn d) := by
  unfold wrnSupplyOn lampsRefresh
  iterate 12 all_goals try first
    | with_reducible assumption | with_reducible (apply told_forEach; intro _ _ _)
    | with_reducible apply told_chimeGrant | with_reducible apply told_lampsToOk
    | with_reducible apply told_lampUpdate | split

theorem told_wrnFree (h : Told (n + 1) d₀ d) :
    Told (n + 1) d₀ (wrnFree d) := told_lampsToOk _ _ h

theorem told_wrnLinkLost (h : Told (n + 1) d₀ d) :
    Told (n + 1) d₀ (wrnLinkLost d) := by
  unfold wrnLinkLost
  iterate 12 all_goals try first
    | with_reducible assumption | with_reducible (apply told_forEach; intro _ _ _)
    | with_reducible apply told_setLamp | with_reducible apply told_lampDemandRefresh
    | with_reducible apply told_wrnSystem | with_reducible apply told_wrn

theorem told_wrnLinkBack (h : Told (n + 1) d₀ d) :
    Told (n + 1) d₀ (wrnLinkBack d) := by
  unfold wrnLinkBack
  iterate 12 all_goals try first
    | with_reducible assumption | with_reducible apply told_wrnSystem | with_reducible apply told_wrn

theorem told_wrnTakeSettings (h : Told (n + 1) d₀ d) :
    Told (n + 1) d₀ (wrnTakeSettings d) := by
  unfold wrnTakeSettings
  iterate 12 all_goals try first
    | with_reducible assumption | with_reducible apply told_wrn

theorem told_wrnStart (h : Told (n + 1) d₀ d) :
    Told (n + 1) d₀ (wrnStart d) := by
  unfold wrnStart
  iterate 12 all_goals try first
    | with_reducible assumption | with_reducible apply told_lampsRefresh
    | with_reducible apply told_evaluateWhere | with_reducible apply told_wrnTakeSettings

theorem told_wrnReportAbsent (h : Told (n + 1) d₀ d) :
    Told (n + 1) d₀ (wrnReportAbsent d) := by
  unfold wrnReportAbsent
  iterate 12 all_goals try first
    | with_reducible assumption | with_reducible (apply told_forEach; intro _ _ _)
    | with_reducible apply told_fltReportIf

theorem told_wrnStop (h : Told (n + 1) d₀ d) :
    Told (n + 1) d₀ (wrnStop d) := by
  unfold wrnStop
  iterate 12 all_goals try first
    | with_reducible assumption | with_reducible apply told_wrnReportAbsent | with_reducible apply told_wrn

theorem told_wrnEnterRun (h : Told (n + 1) d₀ d) :
    Told (n + 1) d₀ (wrnEnterRun d) := by
  unfold wrnEnterRun
  iterate 12 all_goals try first
    | with_reducible assumption | with_reducible apply told_chimeGrant | with_reducible apply told_lampsRefresh

theorem told_wrnLeaveService (h : Told (n + 1) d₀ d) :
    Told (n + 1) d₀ (wrnLeaveService d) := by
  unfold wrnLeaveService
  iterate 12 all_goals try first
    | with_reducible assumption | with_reducible (apply told_forEach; intro _ _ _)
    | with_reducible apply told_chimeRemoveTest | with_reducible apply told_lampUpdate

/-! ## Gauges -/

theorem told_setGauge (g : Fin 6) (r : GaugeRec) (h : Told (n + 2) d₀ d) :
    Told (n + 2) d₀ (Dev.setGauge d g r) := by
  unfold Dev.setGauge
  iterate 12 all_goals try first
    | with_reducible assumption | split | (extract_lets +lift) | with_reducible apply told_gau

theorem told_postGauge (g : Fin 6) (h : Told (n + 2) d₀ d) :
    Told (n + 2) d₀ (postGauge g d) := by
  unfold postGauge
  iterate 12 all_goals try first
    | with_reducible assumption | with_reducible apply told_lnkPost

theorem told_gaugeTell (g : Fin 6) (old : GaugeRec) (h : Told (n + 2) d₀ d) :
    Told (n + 2) d₀ (gaugeTell g old d) := by
  have k : Told (n + 2) d₀ (if (d.gauge g).state != old.state then postGauge g d else d) := by
    split
    · exact told_postGauge g h
    · exact h
  unfold gaugeTell
  extract_lets
  split
  · exact told_wrnGauge _ k
  · exact k

theorem told_gaugeChange (g : Fin 6) (f : GaugeRec → GaugeRec) (h : Told (n + 2) d₀ d) :
    Told (n + 2) d₀ (gaugeChange g f d) := by
  unfold gaugeChange
  iterate 12 all_goals try first
    | with_reducible assumption | with_reducible apply told_setGauge | with_reducible apply told_gaugeTell

theorem told_gauChannel (ch : Nat) (h : Told (n + 2) d₀ d) :
    Told (n + 2) d₀ (gauChannel ch d) := by
  unfold gauChannel
  iterate 12 all_goals try first
    | with_reducible assumption | with_reducible (apply told_forEach; intro _ _ _)
    | with_reducible apply told_gaugeChange | split | (extract_lets +lift)

theorem told_gauInit (sweep : Bool) (h : Told (n + 2) d₀ d) :
    Told (n + 2) d₀ (gauInit sweep d) := by
  unfold gauInit
  iterate 12 all_goals try first
    | with_reducible assumption | with_reducible (apply told_forEach; intro _ _ _)
    | with_reducible apply told_setGauge | split | (extract_lets +lift) | with_reducible apply told_gau

theorem told_gauUpdate (h : Told (n + 2) d₀ d) :
    Told (n + 2) d₀ (gauUpdate d) := by
  unfold gauUpdate
  iterate 12 all_goals try first
    | with_reducible assumption | with_reducible (apply told_forEach; intro _ _ _)
    | with_reducible apply told_gaugeChange | split | (extract_lets +lift) | with_reducible apply told_gau

theorem told_gaugeHoldEnd (g : Fin 6) (h : Told (n + 2) d₀ d) :
    Told (n + 2) d₀ (gaugeHoldEnd g d) := by
  unfold gaugeHoldEnd
  iterate 12 all_goals try first
    | with_reducible assumption | with_reducible apply told_setGauge

theorem told_gaugeResume (g : Fin 6) (h : Told (n + 2) d₀ d) :
    Told (n + 2) d₀ (gaugeResume g d) := by
  unfold gaugeResume
  iterate 12 all_goals try first
    | with_reducible assumption | with_reducible apply told_gaugeChange

theorem told_gaugeRestart (g : Fin 6) (h : Told (n + 2) d₀ d) :
    Told (n + 2) d₀ (gaugeRestart g d) := by
  unfold gaugeRestart
  iterate 12 all_goals try first
    | with_reducible assumption | with_reducible apply told_gaugeChange | split | (extract_lets +lift)

theorem told_gauFree (h : Told (n + 2) d₀ d) :
    Told (n + 2) d₀ (gauFree d) := by
  unfold gauFree
  iterate 12 all_goals try first
    | with_reducible assumption | with_reducible (apply told_forEach; intro _ _ _)
    | with_reducible apply told_gaugeChange | split

theorem told_gaugeShutdown (g : Fin 6) (h : Told (n + 2) d₀ d) :
    Told (n + 2) d₀ (gaugeShutdown g d) := by
  unfold gaugeShutdown
  iterate 12 all_goals try first
    | with_reducible assumption | with_reducible apply told_fltReportIf | with_reducible apply told_setGauge
    | with_reducible apply told_gaugeTell

theorem told_loadDuties (g : Fin 6) (h : Told (n + 2) d₀ d) :
    Told (n + 2) d₀ (loadDuties g d) := by
  unfold loadDuties
  iterate 12 all_goals try first
    | with_reducible assumption | with_reducible apply told_setGauge | split | (extract_lets +lift)

theorem told_periodTerminated (g : Fin 6) (h : Told (n + 2) d₀ d) :
    Told (n + 2) d₀ (periodTerminated g d) := by
  unfold periodTerminated
  iterate 12 all_goals try first
    | with_reducible assumption | with_reducible apply told_setGauge | with_reducible apply told_gaugeShutdown
    | split | (extract_lets +lift)

theorem told_periodClean (g : Fin 6) (h : Told (n + 2) d₀ d) :
    Told (n + 2) d₀ (periodClean g d) := by
  unfold periodClean
  iterate 12 all_goals try first
    | with_reducible assumption | with_reducible apply told_fltReport | with_reducible apply told_setGauge
    | with_reducible apply told_gaugeTell | split | (extract_lets +lift)

theorem told_gaugePeriodEnd (g : Fin 6) (h : Told (n + 2) d₀ d) :
    Told (n + 2) d₀ (gaugePeriodEnd g d) := by
  unfold gaugePeriodEnd
  iterate 12 all_goals try first
    | with_reducible assumption | with_reducible apply told_loadDuties
    | with_reducible apply told_periodTerminated | with_reducible apply told_periodClean | split
    | (extract_lets +lift)

theorem told_endPulse (g : Fin 6) (coil : Coil) (h : Told (n + 2) d₀ d) :
    Told (n + 2) d₀ (endPulse g coil d) := by
  unfold endPulse
  iterate 12 all_goals try first
    | with_reducible assumption | with_reducible apply told_setGauge | split

theorem told_gauSupplyOff (h : Told (n + 2) d₀ d) :
    Told (n + 2) d₀ (gauSupplyOff d) := by
  unfold gauSupplyOff
  iterate 12 all_goals try first
    | with_reducible assumption | with_reducible (apply told_forEach; intro _ _ _)
    | with_reducible apply told_gaugeChange | split

theorem told_gauSupplyOn (h : Told (n + 2) d₀ d) :
    Told (n + 2) d₀ (gauSupplyOn d) := by
  unfold gauSupplyOn
  iterate 12 all_goals try first
    | with_reducible assumption | with_reducible (apply told_forEach; intro _ _ _)
    | with_reducible apply told_gaugeResume | split

theorem told_gaugeOverride (g : Fin 6) (angle : Int) (h : Told (n + 2) d₀ d) :
    Told (n + 2) d₀ (gaugeOverride g angle d) := by
  unfold gaugeOverride
  iterate 12 all_goals try first
    | with_reducible assumption | with_reducible apply told_gaugeChange

theorem told_endOverride (g : Fin 6) (h : Told (n + 2) d₀ d) :
    Told (n + 2) d₀ (endOverride g d) := by
  unfold endOverride
  iterate 12 all_goals try first
    | with_reducible assumption | with_reducible apply told_gaugeChange

theorem told_gauEndOverrides (h : Told (n + 2) d₀ d) :
    Told (n + 2) d₀ (gauEndOverrides d) := by
  unfold gauEndOverrides
  iterate 12 all_goals try first
    | with_reducible assumption | with_reducible (apply told_forEach; intro _ _ _)
    | with_reducible apply told_endOverride | split

theorem told_gauEnterRun (h : Told (n + 2) d₀ d) :
    Told (n + 2) d₀ (gauEnterRun d) := by
  unfold gauEnterRun
  iterate 12 all_goals try first
    | with_reducible assumption | with_reducible (apply told_forEach; intro _ _ _)
    | with_reducible apply told_setGauge | with_reducible apply told_gaugeChange | split

theorem told_gauSaving (h : Told (n + 2) d₀ d) :
    Told (n + 2) d₀ (gauSaving d) := by
  unfold gauSaving
  iterate 12 all_goals try first
    | with_reducible assumption | with_reducible (apply told_forEach; intro _ _ _)
    | with_reducible apply told_setGauge | with_reducible apply told_gaugeChange | split

theorem told_gauReturn (h : Told (n + 2) d₀ d) :
    Told (n + 2) d₀ (gauReturn d) := by
  unfold gauReturn
  iterate 12 all_goals try first
    | with_reducible assumption | with_reducible (apply told_forEach; intro _ _ _)
    | with_reducible apply told_fltReportIf | with_reducible apply told_gaugeChange | split
    | (extract_lets +lift)

theorem told_gauStop (clearRestarts : Bool) (h : Told (n + 2) d₀ d) :
    Told (n + 2) d₀ (gauStop clearRestarts d) := by
  unfold gauStop
  iterate 12 all_goals try first
    | with_reducible assumption | with_reducible (apply told_forEach; intro _ _ _)
    | with_reducible apply told_fltReportIf | with_reducible apply told_setGauge | split | (extract_lets +lift)
    | with_reducible apply told_gau

theorem told_gauCycleBegin (h : Told (n + 2) d₀ d) :
    Told (n + 2) d₀ (gauCycleBegin d) := by
  unfold gauCycleBegin
  iterate 12 all_goals try first
    | with_reducible assumption | with_reducible apply told_gau

end Sys2Proof.Machine
end

