-- ==== Sys2Proof/Laws/Near.lean ====
section
/-! SUPPORT. What the operations that neither write DOR nor change the mode keep of the conditions of `Inv`: one
lemma for each, `near_<operation>`. -/

namespace Sys2Proof.Machine

/-- Calibration RAM, DOR and the mode are the same, and the bounds of the lists are kept. -/
structure Near (d e : Dev) : Prop where
  ram : e.cal.ram = d.cal.ram
  dor : e.dor = d.dor
  mode : e.mod.mode = d.mod.mode
  requests : d.lnk.requests.length ≤ 4 → e.lnk.requests.length ≤ 4
  rejections : (d.lnk.replies.filter (·.rejection)).length ≤ 4 → (e.lnk.replies.filter (·.rejection)).length ≤ 4
  notices : d.lnk.notices.length ≤ 32 → e.lnk.notices.length ≤ 32
  onDemand : d.seq.onDemand.length ≤ 8 → e.seq.onDemand.length ≤ 8

variable {n : Nat} {d₀ d e : Dev}

theorem Near.refl (d : Dev) : Near d d := ⟨rfl, rfl, rfl, id, id, id, id⟩

theorem Near.trans {a b c : Dev} (h : Near a b) (k : Near b c) : Near a c :=
  ⟨k.ram.trans h.ram, k.dor.trans h.dor, k.mode.trans h.mode, k.requests ∘ h.requests,
    k.rejections ∘ h.rejections, k.notices ∘ h.notices, k.onDemand ∘ h.onDemand⟩

/-- `Inv` is kept where nothing nearer changes. -/
theorem Near.inv (h : Near d e) (i : Inv d) : Inv e := by
  obtain ⟨hr, hd, hm, h1, h2, h3, h4⟩ := h
  obtain ⟨i1, i2, i3, i4, i5, i6, i7, i8⟩ := i
  have door : ∀ i, e.door i = d.door i := fun i => congrArg (fun s => s.doors[i]) hd
  have cfg : ∀ i, e.doorSettings i = d.doorSettings i := fun i => congrArg (fun s => s.cfg.doors[i]) hd
  have conf : ∀ i, configured e i = configured d i := fun i => by rw [configured, configured, hd]
  have ok : ∀ c, speedOk e c = speedOk d c := fun c => by rw [speedOk, speedOk, hd]
  refine ⟨by rw [hr]; exact i1, h1 i2, h2 i3, h3 i4, h4 i5, fun i => ?_, fun i => ?_, ?_⟩
  · rw [lineOn, door]; exact i6 i
  · rw [door, cfg, conf, ok, hd]; exact i7 i
  · rw [hd, hm]; exact i8

theorem near_told (t : Told n d e) (h : Near d₀ d) : Near d₀ e :=
  h.trans ⟨by rw [t.cal], t.dor, by rw [t.mod], fun r => by rw [t.lnk]; exact r,
    fun r => by rw [t.lnk]; exact r, t.room, fun r => by rw [t.seq]; exact r⟩

theorem near_clock (t : Nat) (h : Near d₀ d) : Near d₀ { d with clock := t } := { h with }
theorem near_sig (w : SigState) (h : Near d₀ d) : Near d₀ { d with sig := w } := { h with }
theorem near_pls (w : PlsState) (h : Near d₀ d) : Near d₀ { d with pls := w } := { h with }
theorem near_gau (w : GauState) (h : Near d₀ d) : Near d₀ { d with gau := w } := { h with }
theorem near_wrn (w : WrnState) (h : Near d₀ d) : Near d₀ { d with wrn := w } := { h with }
theorem near_flt (w : FltState) (h : Near d₀ d) : Near d₀ { d with flt := w } := { h with }
theorem near_sto (w : StoState) (h : Near d₀ d) : Near d₀ { d with sto := w } := { h with }

theorem near_seq (w : SeqState) (h : Near d₀ d) (hw : w.onDemand.length ≤ d.seq.onDemand.length) :
    Near d₀ { d with seq := w } := { h with onDemand := fun r => Nat.le_trans hw (h.onDemand r) }

theorem near_cal (w : CalState) (h : Near d₀ d) (hw : w.ram = d.cal.ram) : Near d₀ { d with cal := w } :=
  { h with ram := hw.trans h.ram }

theorem near_mod (w : ModState) (h : Near d₀ d) (hw : w.mode = d.mod.mode) : Near d₀ { d with mod := w } :=
  { h with mode := hw.trans h.mode }

theorem near_lnk (w : LnkState) (h : Near d₀ d) (h1 : w.requests.length ≤ d.lnk.requests.length)
    (h2 : (w.replies.filter (·.rejection)).length ≤ (d.lnk.replies.filter (·.rejection)).length)
    (h3 : w.notices.length ≤ d.lnk.notices.length) : Near d₀ { d with lnk := w } :=
  { h with
    requests := fun r => Nat.le_trans h1 (h.requests r)
    rejections := fun r => Nat.le_trans h2 (h.rejections r)
    notices := fun r => Nat.le_trans h3 (h.notices r) }

theorem near_forEach {k : Nat} {f : Fin k → Dev → Dev} (hf : ∀ i e, Near d₀ e → Near d₀ (f i e))
    (h : Near d₀ d) : Near d₀ (forEach k f d) := by
  unfold forEach
  generalize List.finRange k = l
  induction l generalizing d with
  | nil => exact h
  | cons i l ih => exact ih (hf i d h)

theorem near_foldl {α : Type} {f : Dev → α → Dev} {l : List α} (hf : ∀ e a, Near d₀ e → Near d₀ (f e a))
    (h : Near d₀ d) : Near d₀ (l.foldl f d) := by
  induction l generalizing d with
  | nil => exact h
  | cons a l ih => exact ih (hf d a h)

/-! ## Replies, rejections and the transmitter -/

theorem near_lnkAnswer (tag : Byte) (p : List Byte) (h : Near d₀ d) : Near d₀ (lnkAnswer tag p d) := by
  unfold lnkAnswer
  split
  · exact h
  · exact near_lnk _ h (by simp) (by simp) (by simp)

theorem near_lnkDefer (tag : Byte) (h : Near d₀ d) : Near d₀ (lnkDefer tag d) :=
  near_lnk _ h (by simp) (by simp) (by simp)

theorem near_lnkReject (kind tag : Byte) (s : Status) (h : Near d₀ d) : Near d₀ (lnkReject kind tag s d) := by
  unfold lnkReject
  split
  · exact { h with rejections := fun _ => by simp; omega }
  · exact near_lnk _ h (by simp) (by simp) (by simp)

theorem near_txStart (h : Near d₀ d) : Near d₀ (txStart d) := by
  unfold txStart
  split
  · exact h
  split
  · rename_i r rest hr
    refine near_lnk _ h (by simp) ?_ (by simp)
    rw [hr]
    exact (List.Sublist.filter _ (List.sublist_cons_self r rest)).length_le
  split
  · rename_i m rest hn
    exact near_lnk _ h (by simp) (by simp) (by simp [hn])
  · exact h

theorem near_txEnd (h : Near d₀ d) : Near d₀ (txEnd d) := by
  unfold txEnd
  split
  · exact h
  · refine near_lnk _ h ?_ (by simp) (by simp)
    simp only
    split
    · exact List.length_filter_le _ _
    · exact le_refl _

theorem near_startJob (r : Requester) (op : JobOp) (hr : Option HostRead) (page : Nat) (h : Near d₀ d) :
    Near d₀ (startJob r op hr page d) := near_sto _ h

/-! ## The operations of `Told` -/

theorem near_lnkPost (kind : NoticeKind) (subject : Nat) (content : List Byte) (h : Near d₀ d) :
    Near d₀ (lnkPost kind subject content d) :=
  near_told (told_lnkPost _ _ _ (Told.refl 2 _)) h

theorem near_postSystem (h : Near d₀ d) :
    Near d₀ (postSystem d) :=
  near_told (told_postSystem (Told.refl 2 _)) h

theorem near_stoGrant (h : Near d₀ d) :
    Near d₀ (stoGrant d) :=
  near_told (told_stoGrant (Told.refl 2 _)) h

theorem near_plsAskWrite (h : Near d₀ d) :
    Near d₀ (plsAskWrite d) :=
  near_told (told_plsAskWrite (Told.refl 2 _)) h

theorem near_setSlot (i : Fin 40) (s : FaultSlot) (h : Near d₀ d) :
    Near d₀ (Dev.setSlot d i s) :=
  near_told (told_setSlot _ _ (Told.refl 2 _)) h

theorem near_freeFrame (f : FrameRef) (h : Near d₀ d) :
    Near d₀ (freeFrame f d) :=
  near_told (told_freeFrame _ (Told.refl 2 _)) h

theorem near_postFault (i : Fin 40) (r : FaultRec) (status : Nat) (h : Near d₀ d) :
    Near d₀ (postFault i r status d) :=
  near_told (told_postFault _ _ _ (Told.refl 2 _)) h

theorem near_fltReport (group : Nat) (index : Nat) (present : Bool) (h : Near d₀ d) :
    Near d₀ (fltReport group index present d) :=
  near_told (told_fltReport _ _ _ (Told.refl 2 _)) h

theorem near_fltReportIf (cond : Bool) (group : Nat) (index : Nat) (present : Bool) (h : Near d₀ d) :
    Near d₀ (fltReportIf cond group index present d) :=
  near_told (told_fltReportIf _ _ _ _ (Told.refl 2 _)) h

theorem near_eraseSlot (i : Fin 40) (r : FaultRec) (h : Near d₀ d) :
    Near d₀ (eraseSlot i r d) :=
  near_told (told_eraseSlot _ _ (Told.refl 2 _)) h

theorem near_fltSaving (h : Near d₀ d) :
    Near d₀ (fltSaving d) :=
  near_told (told_fltSaving (Told.refl 2 _)) h

theorem near_fltReadSettings (h : Near d₀ d) :
    Near d₀ (fltReadSettings d) :=
  near_told (told_fltReadSettings (Told.refl 2 _)) h

theorem near_playStep (p : Play) (h : Near d₀ d) :
    Near d₀ (playStep p d) :=
  near_told (told_playStep _ (Told.refl 2 _)) h

theorem near_silenceEnd (h : Near d₀ d) :
    Near d₀ (silenceEnd d) :=
  near_told (told_silenceEnd (Told.refl 2 _)) h

theorem near_chimePlaceTest (t : ChimeTest) (h : Near d₀ d) :
    Near d₀ (chimePlaceTest t d) :=
  near_told (told_chimePlaceTest _ (Told.refl 2 _)) h

theorem near_setLamp (l : Fin 24) (r : LampRec) (h : Near d₀ d) :
    Near d₀ (Dev.setLamp d l r) :=
  near_told (told_setLamp _ _ (Told.refl 2 _)) h

theorem near_lampUpdate (l : Fin 24) (f : LampRec → LampRec) (h : Near d₀ d) :
    Near d₀ (lampUpdate l f d) :=
  near_told (told_lampUpdate _ _ (Told.refl 2 _)) h

theorem near_lampsRefresh (h : Near d₀ d) :
    Near d₀ (lampsRefresh d) :=
  near_told (told_lampsRefresh (Told.refl 2 _)) h

theorem near_lampDemandRefresh (l : Fin 24) (h : Near d₀ d) :
    Near d₀ (lampDemandRefresh l d) :=
  near_told (told_lampDemandRefresh _ (Told.refl 2 _)) h

theorem near_postWarning (w : Fin 64) (h : Near d₀ d) :
    Near d₀ (postWarning w d) :=
  near_told (told_postWarning _ (Told.refl 2 _)) h

theorem near_ackAll (ws : List (Fin 64)) (h : Near d₀ d) :
    Near d₀ (ackAll ws d) :=
  near_told (told_ackAll _ (Told.refl 2 _)) h

theorem near_wrnDoor (i : Nat) (h : Near d₀ d) :
    Near d₀ (wrnDoor i d) :=
  near_told (told_wrnDoor _ (Told.refl 2 _)) h

theorem near_wrnInterlock (h : Near d₀ d) :
    Near d₀ (wrnInterlock d) :=
  near_told (told_wrnInterlock (Told.refl 2 _)) h

theorem near_wrnSystem (item : Condition) (h : Near d₀ d) :
    Near d₀ (wrnSystem item d) :=
  near_told (told_wrnSystem _ (Told.refl 2 _)) h

theorem near_lampCut (l : Fin 24) (h : Near d₀ d) :
    Near d₀ (lampCut l d) :=
  near_told (told_lampCut _ (Told.refl 2 _)) h

theorem near_wrnSupplyOff (h : Near d₀ d) :
    Near d₀ (wrnSupplyOff d) :=
  near_told (told_wrnSupplyOff (Told.refl 2 _)) h

theorem near_wrnSupplyOn (h : Near d₀ d) :
    Near d₀ (wrnSupplyOn d) :=
  near_told (told_wrnSupplyOn (Told.refl 2 _)) h

theorem near_wrnLinkLost (h : Near d₀ d) :
    Near d₀ (wrnLinkLost d) :=
  near_told (told_wrnLinkLost (Told.refl 2 _)) h

theorem near_wrnLinkBack (h : Near d₀ d) :
    Near d₀ (wrnLinkBack d) :=
  near_told (told_wrnLinkBack (Told.refl 2 _)) h

theorem near_wrnStart (h : Near d₀ d) :
    Near d₀ (wrnStart d) :=
  near_told (told_wrnStart (Told.refl 2 _)) h

theorem near_wrnStop (h : Near d₀ d) :
    Near d₀ (wrnStop d) :=
  near_told (told_wrnStop (Told.refl 2 _)) h

theorem near_wrnEnterRun (h : Near d₀ d) :
    Near d₀ (wrnEnterRun d) :=
  near_told (told_wrnEnterRun (Told.refl 2 _)) h

theorem near_wrnLeaveService (h : Near d₀ d) :
    Near d₀ (wrnLeaveService d) :=
  near_told (told_wrnLeaveService (Told.refl 2 _)) h

theorem near_postGauge (g : Fin 6) (h : Near d₀ d) :
    Near d₀ (postGauge g d) :=
  near_told (told_postGauge _ (Told.refl 2 _)) h

theorem near_gauInit (sweep : Bool) (h : Near d₀ d) :
    Near d₀ (gauInit sweep d) :=
  near_told (told_gauInit _ (Told.refl 2 _)) h

theorem near_endPulse (g : Fin 6) (coil : Coil) (h : Near d₀ d) :
    Near d₀ (endPulse g coil d) :=
  near_told (told_endPulse _ _ (Told.refl 2 _)) h

theorem near_gauSupplyOff (h : Near d₀ d) :
    Near d₀ (gauSupplyOff d) :=
  near_told (told_gauSupplyOff (Told.refl 2 _)) h

theorem near_gauSupplyOn (h : Near d₀ d) :
    Near d₀ (gauSupplyOn d) :=
  near_told (told_gauSupplyOn (Told.refl 2 _)) h

theorem near_gaugeOverride (g : Fin 6) (angle : Int) (h : Near d₀ d) :
    Near d₀ (gaugeOverride g angle d) :=
  near_told (told_gaugeOverride _ _ (Told.refl 2 _)) h

theorem near_endOverride (g : Fin 6) (h : Near d₀ d) :
    Near d₀ (endOverride g d) :=
  near_told (told_endOverride _ (Told.refl 2 _)) h

theorem near_gauEndOverrides (h : Near d₀ d) :
    Near d₀ (gauEndOverrides d) :=
  near_told (told_gauEndOverrides (Told.refl 2 _)) h

theorem near_gauEnterRun (h : Near d₀ d) :
    Near d₀ (gauEnterRun d) :=
  near_told (told_gauEnterRun (Told.refl 2 _)) h

theorem near_gauSaving (h : Near d₀ d) :
    Near d₀ (gauSaving d) :=
  near_told (told_gauSaving (Told.refl 2 _)) h

theorem near_gauReturn (h : Near d₀ d) :
    Near d₀ (gauReturn d) :=
  near_told (told_gauReturn (Told.refl 2 _)) h

theorem near_gauStop (clearRestarts : Bool) (h : Near d₀ d) :
    Near d₀ (gauStop clearRestarts d) :=
  near_told (told_gauStop _ (Told.refl 2 _)) h

theorem near_gauCycleBegin (h : Near d₀ d) :
    Near d₀ (gauCycleBegin d) :=
  near_told (told_gauCycleBegin (Told.refl 2 _)) h

/-! ## Ops -/

theorem near_advanceTo (t : Nat) (h : Near d₀ d) :
    Near d₀ (Dev.advanceTo d t) := by
  unfold Dev.advanceTo
  iterate 12 all_goals try first
    | with_reducible assumption | with_reducible apply near_clock

theorem near_tick (h : Near d₀ d) :
    Near d₀ (Dev.tick d) := by
  unfold Dev.tick
  iterate 12 all_goals try first
    | with_reducible assumption | with_reducible apply near_clock

theorem near_advanceCounter (stamp : BitVec 32) (h : Near d₀ d) :
    Near d₀ (Dev.advanceCounter d stamp) := by
  unfold Dev.advanceCounter
  iterate 12 all_goals try first
    | with_reducible assumption | with_reducible apply near_clock

theorem near_setChan (c : Nat) (r : ChanRec) (h : Near d₀ d) :
    Near d₀ (Dev.setChan d c r) := by
  unfold Dev.setChan
  iterate 12 all_goals try first
    | with_reducible assumption | split | with_reducible apply near_sig

/-! ## Link -/

theorem near_lnkStartTimer (h : Near d₀ d) :
    Near d₀ (lnkStartTimer d) := by
  unfold lnkStartTimer
  iterate 12 all_goals try first
    | with_reducible assumption | with_reducible apply near_lnk
  all_goals first | exact le_refl _

theorem near_lnkStopTimer (h : Near d₀ d) :
    Near d₀ (lnkStopTimer d) := by
  unfold lnkStopTimer
  iterate 12 all_goals try first
    | with_reducible assumption | with_reducible apply near_lnk
  all_goals first | exact le_refl _

/-! ## Doors -/

theorem near_postDoor (i : Fin 4) (cause : DoorCause) (h : Near d₀ d) :
    Near d₀ (postDoor i cause d) := by
  unfold postDoor
  iterate 12 all_goals try first
    | with_reducible assumption | with_reducible apply near_lnkPost

theorem near_postInterlock (h : Near d₀ d) :
    Near d₀ (postInterlock d) := by
  unfold postInterlock
  iterate 12 all_goals try first
    | with_reducible assumption | with_reducible apply near_lnkPost

theorem near_dorReportAbsent (h : Near d₀ d) :
    Near d₀ (dorReportAbsent d) := by
  unfold dorReportAbsent
  iterate 12 all_goals try first
    | with_reducible assumption | (with_reducible apply near_forEach; intro _ _ _)
    | with_reducible apply near_fltReportIf

/-! ## Signals -/

theorem near_postQuality (ch : Nat) (h : Near d₀ d) :
    Near d₀ (postQuality ch d) := by
  unfold postQuality
  iterate 12 all_goals try first
    | with_reducible assumption | with_reducible apply near_lnkPost

theorem near_postSwitch (ch : Nat) (cause : SwitchCause) (h : Near d₀ d) :
    Near d₀ (postSwitch ch cause d) := by
  unfold postSwitch
  iterate 12 all_goals try first
    | with_reducible assumption | with_reducible apply near_lnkPost

theorem near_qualityIf (ch : Nat) (old : Quality) (h : Near d₀ d) :
    Near d₀ (qualityIf ch old d) := by
  unfold qualityIf
  iterate 12 all_goals try first
    | with_reducible assumption | with_reducible apply near_postQuality | split

theorem near_sigInit (h : Near d₀ d) :
    Near d₀ (sigInit d) := by
  unfold sigInit
  iterate 12 all_goals try first
    | with_reducible assumption | (with_reducible apply near_forEach; intro _ _ _)
    | with_reducible apply near_qualityIf | with_reducible apply near_setChan | (extract_lets +lift) | with_reducible apply near_sig

theorem near_sigReport (present : Bool) (h : Near d₀ d) :
    Near d₀ (sigReport present d) := by
  unfold sigReport
  iterate 12 all_goals try first
    | with_reducible assumption | (with_reducible apply near_forEach; intro _ _ _)
    | with_reducible apply near_fltReport | with_reducible apply near_fltReportIf | split

theorem near_sigReturn (h : Near d₀ d) :
    Near d₀ (sigReturn d) := by
  unfold sigReturn
  iterate 12 all_goals try first
    | with_reducible assumption | with_reducible apply near_sigReport | with_reducible apply near_sig

theorem near_sigStop (h : Near d₀ d) :
    Near d₀ (sigStop d) := by
  unfold sigStop
  iterate 12 all_goals try first
    | with_reducible assumption | (with_reducible apply near_forEach; intro _ _ _)
    | with_reducible apply near_setChan | with_reducible apply near_sigReport | (extract_lets +lift)
    | with_reducible apply near_sig

/-! ## Supply -/

theorem near_postMode (h : Near d₀ d) :
    Near d₀ (postMode d) := by
  unfold postMode
  iterate 12 all_goals try first
    | with_reducible assumption | with_reducible apply near_lnkPost

theorem near_causeReport (group : Nat) (was : Bool) (is : Bool) (held : Bool) (h : Near d₀ d) :
    Near d₀ (causeReport group was is held d) := by
  unfold causeReport
  iterate 12 all_goals try first
    | with_reducible assumption | with_reducible apply near_fltReport | with_reducible apply near_fltReportIf
    | split

theorem near_handSupply (old : Supply) (h : Near d₀ d) :
    Near d₀ (handSupply old d) := by
  unfold handSupply
  iterate 12 all_goals try first
    | with_reducible assumption | with_reducible apply near_wrnSupplyOff | with_reducible apply near_wrnSupplyOn
    | with_reducible apply near_gauSupplyOff | with_reducible apply near_gauSupplyOn | split

theorem near_modClearSupply (h : Near d₀ d) :
    Near d₀ (modClearSupply d) := by
  unfold modClearSupply
  iterate 12 all_goals try first
    | with_reducible assumption | with_reducible apply near_fltReportIf | (extract_lets +lift)
    | with_reducible apply near_mod
  all_goals first | exact le_refl _ | exact Nat.zero_le _ | rfl

theorem near_modReturn (h : Near d₀ d) :
    Near d₀ (modReturn d) := by
  unfold modReturn
  iterate 12 all_goals try first
    | with_reducible assumption | with_reducible apply near_fltReportIf

/-! ## Pulses -/

theorem near_setPulse (i : PulseInput) (p : PulseState) (h : Near d₀ d) :
    Near d₀ (Dev.setPulse d i p) := by
  unfold Dev.setPulse
  iterate 12 all_goals try first
    | with_reducible assumption | split | with_reducible apply near_pls

theorem near_advanceDistance (ppk : Nat) (h : Near d₀ d) :
    Near d₀ (advanceDistance ppk d) := by
  unfold advanceDistance
  iterate 12 all_goals try first
    | with_reducible assumption | with_reducible apply near_plsAskWrite | split | (extract_lets +lift)
    | with_reducible apply near_pls

theorem near_acceptEdge (i : PulseInput) (stamp : BitVec 32) (h : Near d₀ d) :
    Near d₀ (acceptEdge i stamp d) := by
  unfold acceptEdge
  iterate 12 all_goals try first
    | with_reducible assumption | with_reducible apply near_setPulse | with_reducible apply near_advanceDistance
    | split

theorem near_plsEdge (i : PulseInput) (stamp : BitVec 32) (h : Near d₀ d) :
    Near d₀ (plsEdge i stamp d) := by
  unfold plsEdge
  iterate 12 all_goals try first
    | with_reducible assumption | with_reducible apply near_acceptEdge | split

theorem near_setStandstill (b : Bool) (h : Near d₀ d) :
    Near d₀ (setStandstill b d) := by
  unfold setStandstill
  iterate 12 all_goals try first
    | with_reducible assumption | with_reducible apply near_postSystem | split | with_reducible apply near_pls

theorem near_plsClear (timer : Timer) (h : Near d₀ d) :
    Near d₀ (plsClear timer d) := by
  unfold plsClear
  iterate 12 all_goals try first
    | with_reducible assumption | with_reducible apply near_setChan | (extract_lets +lift)
    | with_reducible apply near_pls

theorem near_plsInit (download : Bool) (h : Near d₀ d) :
    Near d₀ (plsInit download d) := by
  unfold plsInit
  iterate 12 all_goals try first
    | with_reducible assumption | with_reducible apply near_plsClear | split | (extract_lets +lift)
    | with_reducible apply near_pls

theorem near_plsStop (h : Near d₀ d) :
    Near d₀ (plsStop d) := by
  unfold plsStop
  iterate 12 all_goals try first
    | with_reducible assumption | with_reducible apply near_plsClear

theorem near_takeRing (slots : List RingSlot) (h : Near d₀ d) :
    Near d₀ (takeRing slots d) := by
  unfold takeRing
  iterate 12 all_goals try first
    | with_reducible assumption | split | (extract_lets +lift) | with_reducible apply near_pls

theorem near_plsCycleBegin (h : Near d₀ d) :
    Near d₀ (plsCycleBegin d) := by
  unfold plsCycleBegin
  iterate 12 all_goals try first
    | with_reducible assumption | split | with_reducible apply near_pls

theorem near_odometerDone (ok : Bool) (h : Near d₀ d) :
    Near d₀ (odometerDone ok d) := by
  unfold odometerDone
  iterate 12 all_goals try first
    | with_reducible assumption | split | (extract_lets +lift) | with_reducible apply near_pls

/-! ## Sequencer -/

theorem near_setScan (cls : ScanClass) (c : ClassState) (h : Near d₀ d) :
    Near d₀ (Dev.setScan d cls c) := by
  unfold Dev.setScan
  iterate 12 all_goals try first
    | with_reducible assumption | split | with_reducible apply near_seq
  all_goals first | exact le_refl _

theorem near_setConverter (c : Converter) (h : Near d₀ d) :
    Near d₀ (setConverter c d) := by
  unfold setConverter
  iterate 12 all_goals try first
    | with_reducible assumption | with_reducible apply near_seq
  all_goals first | exact le_refl _

theorem near_seqGrant (h : Near d₀ d) :
    Near d₀ (seqGrant d) := by
  unfold seqGrant
  iterate 12 all_goals try first
    | with_reducible assumption | with_reducible apply near_setConverter | split

theorem near_seqGrantIfIdle (h : Near d₀ d) :
    Near d₀ (seqGrantIfIdle d) := by
  unfold seqGrantIfIdle
  iterate 12 all_goals try first
    | with_reducible assumption | with_reducible apply near_seqGrant | split

theorem near_scanComplete (cls : ScanClass) (h : Near d₀ d) :
    Near d₀ (scanComplete cls d) := by
  unfold scanComplete
  iterate 12 all_goals try first
    | with_reducible assumption | with_reducible apply near_setScan | with_reducible apply near_fltReportIf

theorem near_raiseScan (cls : ScanClass) (h : Near d₀ d) :
    Near d₀ (raiseScan cls d) := by
  unfold raiseScan
  iterate 12 all_goals try first
    | with_reducible assumption | with_reducible apply near_setScan | with_reducible apply near_scanComplete
    | split | (extract_lets +lift)

theorem near_scanOverrun (cls : ScanClass) (h : Near d₀ d) :
    Near d₀ (scanOverrun cls d) := by
  unfold scanOverrun
  iterate 12 all_goals try first
    | with_reducible assumption | with_reducible apply near_setScan | with_reducible apply near_fltReportIf

theorem near_advanceScan (cls : ScanClass) (ch : Nat) (h : Near d₀ d) :
    Near d₀ (advanceScan cls ch d) := by
  unfold advanceScan
  iterate 12 all_goals try first
    | with_reducible assumption | with_reducible apply near_setScan | with_reducible apply near_scanComplete
    | split

theorem fillEntry_length (r : Nat × Bool) (l : List DemandEntry) : (fillEntry r l).1.length = l.length := by
  induction l with
  | nil => rfl
  | cons e l ih => unfold fillEntry; split <;> simp [ih]

theorem near_deliverOnDemand (r : Nat × Bool) (h : Near d₀ d) : Near d₀ (deliverOnDemand r d) := by
  unfold deliverOnDemand
  have k : Near d₀ { d with seq := { d.seq with onDemand := (fillEntry r d.seq.onDemand).1 } } :=
    near_seq _ h (by rw [fillEntry_length])
  extract_lets
  split
  · exact k
  · extract_lets
    split
    · exact near_lnkAnswer _ _ (near_seq _ k (List.length_filter_le _ _))
    · exact k

theorem near_seqAbort (h : Near d₀ d) :
    Near d₀ (seqAbort d) := by
  unfold seqAbort
  iterate 12 all_goals try first
    | with_reducible assumption | with_reducible apply near_setConverter | split

theorem near_seqRefuseAll (h : Near d₀ d) : Near d₀ (seqRefuseAll d) := by
  unfold seqRefuseAll
  apply near_foldl
  · intro e a he
    exact near_lnkAnswer _ _ he
  · exact near_seq _ h (by simp)

theorem near_seqStop (h : Near d₀ d) :
    Near d₀ (seqStop d) := by
  unfold seqStop
  iterate 12 all_goals try first
    | with_reducible assumption | with_reducible apply near_seqAbort | with_reducible apply near_seqRefuseAll
    | (extract_lets +lift) | with_reducible apply near_seq
  all_goals first | exact le_refl _

theorem near_seqReport (present : Bool) (h : Near d₀ d) :
    Near d₀ (seqReport present d) := by
  unfold seqReport
  iterate 12 all_goals try first
    | with_reducible assumption | with_reducible apply near_fltReportIf

theorem near_startClass (cls : ScanClass) (h : Near d₀ d) :
    Near d₀ (startClass cls d) := by
  unfold startClass
  iterate 12 all_goals try first
    | with_reducible assumption | with_reducible apply near_setScan

theorem near_seqStart (h : Near d₀ d) :
    Near d₀ (seqStart d) := by
  unfold seqStart
  iterate 12 all_goals try first
    | with_reducible assumption | with_reducible apply near_seqGrantIfIdle | with_reducible apply near_raiseScan
    | with_reducible apply near_seqReport | with_reducible apply near_startClass

theorem near_seqStandby (h : Near d₀ d) : Near d₀ (seqStandby d) := by
  unfold seqStandby
  exact near_seq _ (near_seqReport _ h) (by simp [SeqState.resetAt])

/-! ## Modes -/

theorem near_setCond (k : StorageCond) (b : Bool) (h : Near d₀ d) :
    Near d₀ (setCond k b d) := by
  unfold setCond
  iterate 12 all_goals try first
    | with_reducible assumption | split | with_reducible apply near_sto

theorem near_setHeld (k : StorageCond) (b : Bool) (h : Near d₀ d) :
    Near d₀ (setHeld k b d) := by
  unfold setHeld
  iterate 12 all_goals try first
    | with_reducible assumption | split | with_reducible apply near_sto

theorem near_changeHeld (k : StorageCond) (b : Bool) (h : Near d₀ d) :
    Near d₀ (changeHeld k b d) := by
  unfold changeHeld
  iterate 12 all_goals try first
    | with_reducible assumption | with_reducible apply near_setHeld | with_reducible apply near_postSystem
    | with_reducible apply near_fltReport | with_reducible apply near_wrnSystem | split

theorem near_stoCondition (k : StorageCond) (b : Bool) (h : Near d₀ d) :
    Near d₀ (stoCondition k b d) := by
  unfold stoCondition
  iterate 12 all_goals try first
    | with_reducible assumption | with_reducible apply near_setCond | with_reducible apply near_changeHeld
    | split | (extract_lets +lift)

theorem near_stoStandby (h : Near d₀ d) :
    Near d₀ (stoStandby d) := by
  unfold stoStandby
  iterate 12 all_goals try first
    | with_reducible assumption | (with_reducible apply near_foldl; intro _ _ _)
    | with_reducible apply near_changeHeld

theorem near_stoLoading (h : Near d₀ d) :
    Near d₀ (stoLoading d) := by
  unfold stoLoading
  iterate 12 all_goals try first
    | with_reducible assumption | (with_reducible apply near_foldl; intro _ _ _)
    | with_reducible apply near_changeHeld | split

theorem near_stoReturn (h : Near d₀ d) :
    Near d₀ (stoReturn d) := by
  unfold stoReturn
  iterate 12 all_goals try first
    | with_reducible assumption | (with_reducible apply near_foldl; intro _ _ _)
    | with_reducible apply near_fltReportIf

theorem near_takeSlot (i : Fin 40) (stored : Option (List Byte)) (h : Near d₀ d) :
    Near d₀ (takeSlot i stored d) := by
  unfold takeSlot
  iterate 12 all_goals try first
    | with_reducible assumption | with_reducible apply near_setSlot | split

theorem near_takeSlots (stored : List (Option (List Byte))) (h : Near d₀ d) :
    Near d₀ (takeSlots stored d) := by
  unfold takeSlots
  iterate 12 all_goals try first
    | with_reducible assumption | (with_reducible apply near_forEach; intro _ _ _)
    | with_reducible apply near_takeSlot | with_reducible apply near_stoGrant | (extract_lets +lift)
    | with_reducible apply near_flt

theorem near_takeNoSlots (h : Near d₀ d) :
    Near d₀ (takeNoSlots d) := by
  unfold takeNoSlots
  iterate 12 all_goals try first
    | with_reducible assumption | with_reducible apply near_flt

theorem near_lnkStandby (h : Near d₀ d) :
    Near d₀ (lnkStandby d) := by
  unfold lnkStandby
  iterate 12 all_goals try first
    | with_reducible assumption | with_reducible apply near_fltReport | with_reducible apply near_wrnLinkBack
    | split | (extract_lets +lift) | with_reducible apply near_lnk
  all_goals first | exact le_refl _ | exact Nat.zero_le _

theorem near_loaderQueue (st : LoaderState) (index : Nat) (op : JobOp) (h : Near d₀ d) :
    Near d₀ (loaderQueue st index op d) := by
  unfold loaderQueue
  iterate 12 all_goals try first
    | with_reducible assumption | with_reducible apply near_stoGrant | with_reducible apply near_sto

theorem near_loaderIdle (h : Near d₀ d) :
    Near d₀ (loaderIdle d) := by
  unfold loaderIdle
  iterate 12 all_goals try first
    | with_reducible assumption | with_reducible apply near_sto

theorem near_withdrawStore (h : Near d₀ d) :
    Near d₀ (withdrawStore d) := by
  unfold withdrawStore
  iterate 12 all_goals try first
    | with_reducible assumption | with_reducible apply near_sto

theorem near_answerDeferred (h : Near d₀ d) : Near d₀ (answerDeferred d) := by
  unfold answerDeferred
  apply near_foldl
  · intro e a he
    exact near_lnkAnswer _ _ he
  · exact h

theorem near_rejectAbort (h : Near d₀ d) :
    Near d₀ (rejectAbort d) := by
  unfold rejectAbort
  iterate 12 all_goals try first
    | with_reducible assumption | with_reducible apply near_lnkAnswer | split

theorem near_stopLoader (why : LoaderStop) (h : Near d₀ d) :
    Near d₀ (stopLoader why d) := by
  unfold stopLoader
  iterate 12 all_goals try first
    | with_reducible assumption | with_reducible apply near_loaderIdle | with_reducible apply near_rejectAbort
    | split | (extract_lets +lift) | with_reducible apply near_sto

theorem near_ignitionPin (level : Bool) (h : Near d₀ d) :
    Near d₀ (ignitionPin level d) := by
  unfold ignitionPin
  iterate 12 all_goals try first
    | with_reducible assumption | split | (extract_lets +lift) | with_reducible apply near_mod
  all_goals first | exact le_refl _ | exact Nat.zero_le _ | rfl

/-! ## Storage -/

theorem near_validateRam (h : Near d₀ d) :
    Near d₀ (validateRam d) := by
  unfold validateRam
  iterate 12 all_goals try first
    | with_reducible assumption | split | with_reducible apply near_cal
  all_goals first | exact le_refl _ | exact Nat.zero_le _ | rfl

theorem near_headerFailure (h : Near d₀ d) :
    Near d₀ (headerFailure d) := by
  unfold headerFailure
  iterate 12 all_goals try first
    | with_reducible assumption | with_reducible apply near_cal
  all_goals first | exact le_refl _ | exact Nat.zero_le _ | rfl

theorem near_abortReply (payload : List Byte) (h : Near d₀ d) :
    Near d₀ (abortReply payload d) := by
  unfold abortReply
  iterate 12 all_goals try first
    | with_reducible assumption | with_reducible apply near_lnkAnswer | with_reducible apply near_loaderIdle
    | split

theorem near_abortVerify (tag : Byte) (h : Near d₀ d) :
    Near d₀ (abortVerify tag d) := by
  unfold abortVerify
  iterate 12 all_goals try first
    | with_reducible assumption | with_reducible apply near_loaderQueue | with_reducible apply near_sto

theorem near_hostReadDone (h_ : HostRead) (result : Option (List Byte)) (h : Near d₀ d) :
    Near d₀ (hostReadDone h_ result d) := by
  unfold hostReadDone
  iterate 12 all_goals try first
    | with_reducible assumption | with_reducible apply near_lnkAnswer

theorem near_confirmFrame (w : FaultWrite) (h : Near d₀ d) :
    Near d₀ (confirmFrame w d) := by
  unfold confirmFrame
  iterate 12 all_goals try first
    | with_reducible assumption | with_reducible apply near_freeFrame | with_reducible apply near_setSlot
    | split

theorem near_requeueSlot (i : Fin 40) (h : Near d₀ d) :
    Near d₀ (requeueSlot i d) := by
  unfold requeueSlot
  iterate 12 all_goals try first
    | with_reducible assumption | with_reducible apply near_flt

theorem near_faultWriteDone (ok : Bool) (w : FaultWrite) (h : Near d₀ d) :
    Near d₀ (faultWriteDone ok w d) := by
  unfold faultWriteDone
  iterate 12 all_goals try first
    | with_reducible assumption | with_reducible apply near_confirmFrame | with_reducible apply near_requeueSlot
    | with_reducible apply near_setSlot | split | (extract_lets +lift) | with_reducible apply near_flt

theorem near_pageDone (ok : Bool) (p : Nat) (h : Near d₀ d) :
    Near d₀ (pageDone ok p d) := by
  unfold pageDone
  iterate 12 all_goals try first
    | with_reducible assumption | with_reducible apply near_stoCondition | split | with_reducible apply near_sto

theorem near_continueWrite (w : FaultWrite) (h : Near d₀ d) : Near d₀ (continueWrite w d) :=
  near_startJob _ _ _ _ (near_flt _ h)

theorem near_setJob (j : Job) (h : Near d₀ d) :
    Near d₀ (setJob j d) := by
  unfold setJob
  iterate 12 all_goals try first
    | with_reducible assumption | with_reducible apply near_sto

theorem near_attemptFailed (j : Job) (h : Near d₀ d) :
    Near d₀ (attemptFailed j d) := by
  unfold attemptFailed
  iterate 12 all_goals try first
    | with_reducible assumption | with_reducible apply near_setJob | split

theorem near_deviceReady (j : Job) (h : Near d₀ d) :
    Near d₀ (deviceReady j d) := by
  unfold deviceReady
  iterate 12 all_goals try first
    | with_reducible assumption | with_reducible apply near_setJob | split

theorem near_statusByte (j : Job) (status : Byte) (h : Near d₀ d) :
    Near d₀ (statusByte j status d) := by
  unfold statusByte
  iterate 12 all_goals try first
    | with_reducible assumption | with_reducible apply near_advanceTo | with_reducible apply near_setJob
    | with_reducible apply near_attemptFailed | with_reducible apply near_deviceReady | split
    | (extract_lets +lift)

/-! ## Requests -/

theorem near_endLoss (h : Near d₀ d) :
    Near d₀ (endLoss d) := by
  unfold endLoss
  iterate 12 all_goals try first
    | with_reducible assumption | with_reducible apply near_lnkStartTimer | with_reducible apply near_postSystem
    | with_reducible apply near_fltReport | with_reducible apply near_wrnLinkBack | split | (extract_lets +lift)
    | with_reducible apply near_lnk
  all_goals first | exact le_refl _

theorem near_frameSeen (h : Near d₀ d) :
    Near d₀ (frameSeen d) := by
  unfold frameSeen
  iterate 12 all_goals try first
    | with_reducible assumption | with_reducible apply near_lnkStartTimer | with_reducible apply near_endLoss
    | split | (extract_lets +lift)

theorem near_answer (tag : Byte) (payload : List Byte) (h : Near d₀ d) :
    Near d₀ (answer tag payload d) := by
  unfold answer
  iterate 12 all_goals try first
    | with_reducible assumption | with_reducible apply near_lnkAnswer

theorem near_refuse (tag : Byte) (s : Status) (h : Near d₀ d) :
    Near d₀ (refuse tag s d) := by
  unfold refuse
  iterate 12 all_goals try first
    | with_reducible assumption | with_reducible apply near_lnkAnswer

theorem near_rxHunt (h : Near d₀ d) :
    Near d₀ (rxHunt d) := by
  unfold rxHunt
  iterate 12 all_goals try first
    | with_reducible assumption | with_reducible apply near_lnk
  all_goals first | exact le_refl _

theorem near_rxDiscard (h : Near d₀ d) :
    Near d₀ (rxDiscard d) := by
  unfold rxDiscard
  iterate 12 all_goals try first
    | with_reducible assumption | with_reducible apply near_rxHunt | (extract_lets +lift)
    | with_reducible apply near_lnk
  all_goals first | exact le_refl _

theorem near_rxKeep (bs : List Byte) (h : Near d₀ d) :
    Near d₀ (rxKeep bs d) := by
  unfold rxKeep
  iterate 12 all_goals try first
    | with_reducible assumption | with_reducible apply near_lnk
  all_goals first | exact le_refl _

/-! ## Owners -/

theorem near_groupSnapshot (group : Nat) (h : Near d₀ d) :
    Near d₀ (groupSnapshot group d) := by
  unfold groupSnapshot
  iterate 12 all_goals try first
    | with_reducible assumption | (with_reducible apply near_forEach; intro _ _ _)
    | with_reducible apply near_postDoor | with_reducible apply near_postInterlock
    | with_reducible apply near_postQuality | with_reducible apply near_postMode
    | with_reducible apply near_postSystem | with_reducible apply near_postFault
    | with_reducible apply near_postWarning | with_reducible apply near_postGauge | split

theorem near_setMask (mask : BitVec 8) (h : Near d₀ d) : Near d₀ (setMask mask d) := by
  unfold setMask
  apply near_forEach
  · intro g e he
    split
    · exact near_groupSnapshot _ he
    · exact he
  · exact near_lnk _ h (le_refl _) (le_refl _) (List.length_filter_le _ _)

theorem near_ownIdentify (tag : Byte) (h : Near d₀ d) :
    Near d₀ (ownIdentify tag d) := by
  unfold ownIdentify
  iterate 12 all_goals try first
    | with_reducible assumption | with_reducible apply near_answer

theorem near_ownStatus (tag : Byte) (h : Near d₀ d) :
    Near d₀ (ownStatus tag d) := by
  unfold ownStatus
  iterate 12 all_goals try first
    | with_reducible assumption | with_reducible apply near_answer

theorem near_ownSubscribe (tag : Byte) (p : List Byte) (h : Near d₀ d) :
    Near d₀ (ownSubscribe tag p d) := by
  unfold ownSubscribe
  iterate 12 all_goals try first
    | with_reducible assumption | with_reducible apply near_answer | with_reducible apply near_setMask

theorem near_ownReadChannels (tag : Byte) (p : List Byte) (h : Near d₀ d) :
    Near d₀ (ownReadChannels tag p d) := by
  unfold ownReadChannels
  iterate 12 all_goals try first
    | with_reducible assumption | with_reducible apply near_answer | with_reducible apply near_refuse | split
    | (extract_lets +lift)

theorem near_ownReadWarnings (tag : Byte) (p : List Byte) (h : Near d₀ d) :
    Near d₀ (ownReadWarnings tag p d) := by
  unfold ownReadWarnings
  iterate 12 all_goals try first
    | with_reducible assumption | with_reducible apply near_answer | with_reducible apply near_refuse | split
    | (extract_lets +lift)

theorem near_ownAckWarnings (tag : Byte) (p : List Byte) (h : Near d₀ d) :
    Near d₀ (ownAckWarnings tag p d) := by
  unfold ownAckWarnings
  iterate 12 all_goals try first
    | with_reducible assumption | with_reducible apply near_answer | with_reducible apply near_refuse
    | with_reducible apply near_ackAll | split

theorem near_ownSetLamps (tag : Byte) (p : List Byte) (h : Near d₀ d) :
    Near d₀ (ownSetLamps tag p d) := by
  unfold ownSetLamps
  iterate 12 all_goals try first
    | with_reducible assumption | (with_reducible apply near_forEach; intro _ _ _)
    | with_reducible apply near_answer | with_reducible apply near_setLamp
    | with_reducible apply near_lampDemandRefresh

theorem near_ownReadLamps (tag : Byte) (h : Near d₀ d) :
    Near d₀ (ownReadLamps tag d) := by
  unfold ownReadLamps
  iterate 12 all_goals try first
    | with_reducible assumption | with_reducible apply near_answer

theorem near_ownTestLamp (tag : Byte) (rest : List Byte) (h : Near d₀ d) :
    Near d₀ (ownTestLamp tag rest d) := by
  unfold ownTestLamp
  iterate 12 all_goals try first
    | with_reducible assumption | with_reducible apply near_answer | with_reducible apply near_refuse
    | with_reducible apply near_lampUpdate | split | (extract_lets +lift)

theorem near_ownTestChime (tag : Byte) (rest : List Byte) (h : Near d₀ d) :
    Near d₀ (ownTestChime tag rest d) := by
  unfold ownTestChime
  iterate 12 all_goals try first
    | with_reducible assumption | with_reducible apply near_answer | with_reducible apply near_refuse
    | with_reducible apply near_chimePlaceTest | split

theorem near_ownReadDoors (tag : Byte) (h : Near d₀ d) :
    Near d₀ (ownReadDoors tag d) := by
  unfold ownReadDoors
  iterate 12 all_goals try first
    | with_reducible assumption | with_reducible apply near_answer

theorem near_ownReadGauges (tag : Byte) (h : Near d₀ d) :
    Near d₀ (ownReadGauges tag d) := by
  unfold ownReadGauges
  iterate 12 all_goals try first
    | with_reducible assumption | with_reducible apply near_answer

theorem near_testGauge (tag : Byte) (g : Fin 6) (release : Bool) (angle : Nat) (h : Near d₀ d) :
    Near d₀ (testGauge tag g release angle d) := by
  unfold testGauge
  iterate 12 all_goals try first
    | with_reducible assumption | with_reducible apply near_answer | with_reducible apply near_refuse
    | with_reducible apply near_gaugeOverride | with_reducible apply near_endOverride | split

theorem near_ownTestGauge (tag : Byte) (rest : List Byte) (h : Near d₀ d) :
    Near d₀ (ownTestGauge tag rest d) := by
  unfold ownTestGauge
  iterate 12 all_goals try first
    | with_reducible assumption | with_reducible apply near_refuse | with_reducible apply near_testGauge | split
    | (extract_lets +lift)

theorem near_ownReadOdometer (tag : Byte) (h : Near d₀ d) :
    Near d₀ (ownReadOdometer tag d) := by
  unfold ownReadOdometer
  iterate 12 all_goals try first
    | with_reducible assumption | with_reducible apply near_answer

theorem near_ownFaultList (tag : Byte) (p : List Byte) (h : Near d₀ d) :
    Near d₀ (ownFaultList tag p d) := by
  unfold ownFaultList
  iterate 12 all_goals try first
    | with_reducible assumption | with_reducible apply near_answer | with_reducible apply near_refuse | split

theorem near_deferFaultRead (tag : Byte) (i : Fin 40) (code : BitVec 16) (h : Near d₀ d) :
    Near d₀ (deferFaultRead tag i code d) := by
  unfold deferFaultRead
  iterate 12 all_goals try first
    | with_reducible assumption | with_reducible apply near_lnkDefer | with_reducible apply near_stoGrant
    | (extract_lets +lift) | with_reducible apply near_sto

theorem near_ownFaultRead (tag : Byte) (p : List Byte) (h : Near d₀ d) :
    Near d₀ (ownFaultRead tag p d) := by
  unfold ownFaultRead
  iterate 12 all_goals try first
    | with_reducible assumption | with_reducible apply near_answer | with_reducible apply near_refuse
    | with_reducible apply near_deferFaultRead | split | (extract_lets +lift)

theorem near_erasePassive (i : Fin 40) (h : Near d₀ d) :
    Near d₀ (erasePassive i d) := by
  unfold erasePassive
  iterate 12 all_goals try first
    | with_reducible assumption | with_reducible apply near_eraseSlot | split

theorem near_ownFaultClearAll (tag : Byte) (h : Near d₀ d) :
    Near d₀ (ownFaultClearAll tag d) := by
  unfold ownFaultClearAll
  iterate 12 all_goals try first
    | with_reducible assumption | (with_reducible apply near_forEach; intro _ _ _)
    | with_reducible apply near_answer | with_reducible apply near_erasePassive | (extract_lets +lift)
    | with_reducible apply near_flt

theorem near_ownFaultClearOne (tag : Byte) (rest : List Byte) (h : Near d₀ d) :
    Near d₀ (ownFaultClearOne tag rest d) := by
  unfold ownFaultClearOne
  iterate 12 all_goals try first
    | with_reducible assumption | with_reducible apply near_answer | with_reducible apply near_erasePassive
    | split

theorem near_startResetFlush (h : Near d₀ d) :
    Near d₀ (startResetFlush d) := by
  unfold startResetFlush
  iterate 12 all_goals try first
    | with_reducible assumption | with_reducible apply near_stopLoader | with_reducible apply near_plsAskWrite
    | split | (extract_lets +lift) | with_reducible apply near_mod
  all_goals first | exact le_refl _ | exact Nat.zero_le _ | rfl

theorem near_ownCalRead (tag : Byte) (p : List Byte) (h : Near d₀ d) :
    Near d₀ (ownCalRead tag p d) := by
  unfold ownCalRead
  iterate 12 all_goals try first
    | with_reducible assumption | with_reducible apply near_answer | with_reducible apply near_refuse | split
    | (extract_lets +lift)

/-! ## Timing -/

theorem near_settleEnd (h : Near d₀ d) :
    Near d₀ (settleEnd d) := by
  unfold settleEnd
  iterate 12 all_goals try first
    | with_reducible assumption | with_reducible apply near_advanceTo | with_reducible apply near_setConverter
    | split

theorem near_recoveryEnd (h : Near d₀ d) :
    Near d₀ (recoveryEnd d) := by
  unfold recoveryEnd
  iterate 12 all_goals try first
    | with_reducible assumption | with_reducible apply near_advanceTo | with_reducible apply near_seqGrant
    | split

theorem near_flashEnd (h : Near d₀ d) :
    Near d₀ (flashEnd d) := by
  unfold flashEnd
  iterate 12 all_goals try first
    | with_reducible assumption | with_reducible apply near_advanceTo | with_reducible apply near_lampsRefresh
    | split | (extract_lets +lift) | with_reducible apply near_wrn

theorem near_lampCurrent (l : Fin 24) (milliamps : Nat) (sinceOn : Nat) (h : Near d₀ d) :
    Near d₀ (lampCurrent l milliamps sinceOn d) := by
  unfold lampCurrent
  iterate 12 all_goals try first
    | with_reducible assumption | with_reducible apply near_advanceTo | with_reducible apply near_lampCut
    | split | (extract_lets +lift)

theorem near_lampSensed (l : Fin 24) (sense : LampSense) (h : Near d₀ d) :
    Near d₀ (lampSensed l sense d) := by
  unfold lampSensed
  iterate 12 all_goals try first
    | with_reducible assumption | with_reducible apply near_lampUpdate

theorem near_playerEnd (h : Near d₀ d) :
    Near d₀ (playerEnd d) := by
  unfold playerEnd
  iterate 12 all_goals try first
    | with_reducible assumption | with_reducible apply near_advanceTo | with_reducible apply near_playStep
    | split

theorem near_silenceOver (h : Near d₀ d) :
    Near d₀ (silenceOver d) := by
  unfold silenceOver
  iterate 12 all_goals try first
    | with_reducible assumption | with_reducible apply near_advanceTo | with_reducible apply near_silenceEnd
    | split

theorem near_statusRead (status : Byte) (h : Near d₀ d) :
    Near d₀ (statusRead status d) := by
  unfold statusRead
  iterate 12 all_goals try first
    | with_reducible assumption | with_reducible apply near_statusByte | split

theorem near_linkLoss (h : Near d₀ d) : Near d₀ (linkLoss d) := by
  unfold linkLoss
  extract_lets w a b
  have ka : Near d₀ a := near_lnk _ h (le_refl _) (le_refl _) (le_refl _)
  have kb : Near d₀ b := by
    with_reducible apply near_wrnLinkLost
    with_reducible apply near_fltReport
    exact ka
  clear_value b
  with_reducible apply near_postSystem
  exact near_lnk _ kb (le_refl _) (le_refl _) (Nat.zero_le _)

theorem near_coilCurrent (g : Fin 6) (coil : Coil) (milliamps : Nat) (counts : Nat) (h : Near d₀ d) :
    Near d₀ (coilCurrent g coil milliamps counts d) := by
  unfold coilCurrent
  iterate 12 all_goals try first
    | with_reducible assumption | with_reducible apply near_endPulse | split

end Sys2Proof.Machine
end

