-- ==== Sys2Proof/Laws/Memory.lean ====
section
/-! SUPPORT. Calibration RAM as memory: a write keeps the canonical form, a read after it gives the byte written, and
every other offset reads as before. -/

namespace Sys2Proof.Machine

/-- Cells whose offsets rise strictly from `lo` on. -/
theorem wfFrom_mono {lo lo' : Nat} {m : List Host.Cell} (h : Memory.wfFrom lo m = true) (hl : lo' ≤ lo) :
    Memory.wfFrom lo' m = true := by
  cases m with
  | nil => rfl
  | cons c t =>
    obtain ⟨x, v⟩ := c
    simp only [Memory.wfFrom, Bool.and_eq_true, decide_eq_true_eq, bne_iff_ne] at h ⊢
    exact ⟨⟨⟨by omega, h.1.1.2⟩, h.1.2⟩, h.2⟩

theorem wfFrom_write {lo : Nat} {m : List Host.Cell} (a : Nat) (b : Byte) (h : Memory.wfFrom lo m = true)
    (hl : lo ≤ a) (ha : a < imageSize) : Memory.wfFrom lo (Memory.write m a b) = true := by
  induction m generalizing lo with
  | nil =>
    unfold Memory.write
    split
    · rfl
    · simp_all [Memory.wfFrom]
  | cons c t ih =>
    obtain ⟨x, v⟩ := c
    simp only [Memory.wfFrom, Bool.and_eq_true, decide_eq_true_eq, bne_iff_ne] at h
    obtain ⟨⟨⟨h1, h2⟩, h3⟩, h4⟩ := h
    unfold Memory.write
    split
    · rename_i hax
      split
      · simp [Memory.wfFrom, h1, h2, h3, h4]
      · simp_all [Memory.wfFrom]
    · split
      · rename_i hxa
        subst hxa
        split
        · exact wfFrom_mono h4 (by omega)
        · simp_all [Memory.wfFrom]
      · simp only [Memory.wfFrom, Bool.and_eq_true, decide_eq_true_eq, bne_iff_ne]
        exact ⟨⟨⟨h1, h2⟩, h3⟩, ih h4 (by omega)⟩

/-- A write inside the image keeps the canonical form. -/
theorem wf_write {m : List Host.Cell} (a : Nat) (b : Byte) (h : Memory.wf m = true) (ha : a < imageSize) :
    Memory.wf (Memory.write m a b) = true := wfFrom_write a b h (Nat.zero_le _) ha

theorem wf_writeAll {m : List Host.Cell} (a : Nat) (bs : List Byte) (h : Memory.wf m = true)
    (ha : a + bs.length ≤ imageSize) : Memory.wf (Memory.writeAll m a bs) = true := by
  induction bs generalizing m a with
  | nil => exact h
  | cons b bs ih =>
    simp only [List.length_cons] at ha
    exact ih (a + 1) (wf_write a b h (by omega)) (by omega)

/-- Writing calibration RAM keeps its canonical form. -/
theorem wf_writeRam (d : Dev) (a : Nat) (bs : List Byte) (h : Memory.wf d.cal.ram = true) :
    Memory.wf (d.writeRam a bs).cal.ram = true := by
  show Memory.wf (Memory.writeAll d.cal.ram a (bs.take (imageSize - a))) = true
  by_cases ha : a ≤ imageSize
  · exact wf_writeAll a _ h (by simp [List.length_take]; omega)
  · have : imageSize - a = 0 := by omega
    rw [this]
    exact h

theorem read_below {lo : Nat} {m : List Host.Cell} (h : Memory.wfFrom lo m = true) {a : Nat} (ha : a < lo) :
    Memory.read m a = Memory.unlisted := by
  cases m with
  | nil => rfl
  | cons c t =>
    obtain ⟨x, v⟩ := c
    simp only [Memory.wfFrom, Bool.and_eq_true, decide_eq_true_eq, bne_iff_ne] at h
    unfold Memory.read
    rw [if_neg (by omega), if_pos (by omega)]

theorem read_write_from {lo : Nat} {m : List Host.Cell} (a c : Nat) (b : Byte) (h : Memory.wfFrom lo m = true) :
    Memory.read (Memory.write m a b) c = if c = a then b else Memory.read m c := by
  induction m generalizing lo with
  | nil =>
    unfold Memory.write
    by_cases hb : b = Memory.unlisted
    · simp [hb, Memory.read]
    · rw [if_neg hb]
      simp only [Memory.read]
      by_cases hca : c = a
      · simp [hca]
      · rw [if_neg (fun e => hca e.symm), if_neg hca]
        split <;> rfl
  | cons x t ih =>
    obtain ⟨x, v⟩ := x
    simp only [Memory.wfFrom, Bool.and_eq_true, decide_eq_true_eq, bne_iff_ne] at h
    obtain ⟨⟨⟨h1, h2⟩, h3⟩, h4⟩ := h
    unfold Memory.write
    by_cases hax : a < x
    · rw [if_pos hax]
      by_cases hb : b = Memory.unlisted
      · rw [if_pos hb]
        by_cases hca : c = a
        · rw [if_pos hca, hca, Memory.read, if_neg (by omega), if_pos hax, hb]
        · rw [if_neg hca]
      · rw [if_neg hb, Memory.read]
        by_cases hca : c = a
        · simp [hca]
        · rw [if_neg (fun e => hca e.symm), if_neg hca]
          by_cases hlt : c < a
          · rw [if_pos hlt, Memory.read, if_neg (by omega), if_pos (by omega)]
          · rw [if_neg hlt]
    · rw [if_neg hax]
      by_cases hxa : x = a
      · subst hxa
        rw [if_pos rfl]
        by_cases hb : b = Memory.unlisted
        · rw [if_pos hb]
          by_cases hcx : c = x
          · rw [if_pos hcx, hb]; exact read_below h4 (by omega)
          · rw [if_neg hcx, Memory.read, if_neg (fun e => hcx e.symm)]
            by_cases hlt : c < x
            · rw [if_pos hlt]; exact read_below h4 (by omega)
            · rw [if_neg hlt]
        · rw [if_neg hb]
          by_cases hcx : c = x
          · simp [hcx, Memory.read]
          · simp only [Memory.read, if_neg hcx, if_neg (fun e : x = c => hcx e.symm)]
      · rw [if_neg hxa, Memory.read, Memory.read]
        by_cases hxc : x = c
        · subst hxc; simp [hxa]
        · rw [if_neg hxc, if_neg hxc]
          by_cases hlt : c < x
          · rw [if_pos hlt, if_pos hlt, if_neg (by omega)]
          · rw [if_neg hlt, if_neg hlt]; exact ih h4

/-- A read after a write: the byte written at its offset, every other byte as before. -/
theorem read_write {m : List Host.Cell} (a c : Nat) (b : Byte) (h : Memory.wf m = true) :
    Memory.read (Memory.write m a b) c = if c = a then b else Memory.read m c := read_write_from a c b h

/-- `n` bytes read are the bytes at their offsets. -/
theorem take_eq {lo : Nat} {m : List Host.Cell} (a n : Nat) (h : Memory.wfFrom lo m = true) (hl : a ≤ lo) :
    Memory.take m a n = (List.range n).map fun i => Memory.read m (a + i) := by
  induction n generalizing a m lo with
  | zero => cases m <;> rfl
  | succ n ih =>
    rw [List.range_succ_eq_map]
    simp only [List.map_cons, List.map_map, Nat.add_zero]
    cases m with
    | nil =>
      show Memory.unlisted :: Memory.take [] (a + 1) n = _
      rw [ih (m := []) (lo := a + 1) (a + 1) rfl (le_refl _)]
      simp [Memory.read, Function.comp_def]
    | cons c t =>
      obtain ⟨x, v⟩ := c
      have h' := h
      simp only [Memory.wfFrom, Bool.and_eq_true, decide_eq_true_eq, bne_iff_ne] at h'
      obtain ⟨⟨⟨h1, h2⟩, h3⟩, h4⟩ := h'
      unfold Memory.take
      by_cases hxa : x = a
      · subst hxa
        rw [if_pos rfl, ih (x + 1) h4 (le_refl _)]
        refine List.cons_eq_cons.mpr ⟨by simp [Memory.read], ?_⟩
        refine List.map_congr_left fun i _ => ?_
        simp only [Function.comp, Memory.read]
        rw [if_neg (by omega), if_neg (by omega)]
        congr 1
        omega
      · rw [if_neg hxa]
        have hwf : Memory.wfFrom (a + 1) ((x, v) :: t) = true := by
          simp only [Memory.wfFrom, Bool.and_eq_true, decide_eq_true_eq, bne_iff_ne]
          exact ⟨⟨⟨by omega, h2⟩, h3⟩, h4⟩
        rw [ih (a + 1) hwf (le_refl _)]
        refine List.cons_eq_cons.mpr ⟨?_, List.map_congr_left fun i _ => ?_⟩
        · rw [Memory.read, if_neg hxa, if_pos (by omega)]
        · simp only [Function.comp]
          congr 1
          omega

theorem wfFrom_from {lo : Nat} {m : List Host.Cell} (a : Nat) (h : Memory.wfFrom lo m = true) :
    Memory.wfFrom a (Memory.from m a) = true := by
  induction m generalizing lo with
  | nil => rfl
  | cons c t ih =>
    obtain ⟨x, v⟩ := c
    have h' := h
    simp only [Memory.wfFrom, Bool.and_eq_true, decide_eq_true_eq, bne_iff_ne] at h'
    unfold Memory.from
    split
    · exact ih h'.2
    · simp only [Memory.wfFrom, Bool.and_eq_true, decide_eq_true_eq, bne_iff_ne]
      exact ⟨⟨⟨by omega, h'.1.1.2⟩, h'.1.2⟩, h'.2⟩

theorem read_from {lo : Nat} {m : List Host.Cell} (a c : Nat) (h : Memory.wfFrom lo m = true) (hc : a ≤ c) :
    Memory.read (Memory.from m a) c = Memory.read m c := by
  induction m generalizing lo with
  | nil => rfl
  | cons x t ih =>
    obtain ⟨x, v⟩ := x
    simp only [Memory.wfFrom, Bool.and_eq_true, decide_eq_true_eq, bne_iff_ne] at h
    unfold Memory.from
    split
    · rw [ih h.2, Memory.read, if_neg (by omega), if_neg (by omega)]
    · rfl

/-- Reading bytes from an offset upward is reading each of them. -/
theorem readAll_eq {m : List Host.Cell} (a n : Nat) (h : Memory.wf m = true) :
    Memory.readAll m a n = (List.range n).map fun i => Memory.read m (a + i) := by
  rw [Memory.readAll, take_eq (lo := a) a n (wfFrom_from a h) (le_refl _)]
  exact List.map_congr_left fun i _ => read_from a (a + i) h (by omega)

/-- Calibration RAM after reset has the canonical form. -/
theorem wf_reset : Memory.wf State.reset.dev.cal.ram = true := rfl

end Sys2Proof.Machine
end

