-- ==== Sys2Proof/Laws/State.lean ====
section
/-! SUPPORT. What each update of the state leaves as it was, block by block, and what is read back after it. -/

namespace Sys2Proof.Machine

/-! ## The event -/

@[simp] theorem event_pending (s : State) (f : Dev → Dev) : (s.event f).pending = s.pending := rfl
@[simp] theorem event_dev (s : State) (f : Dev → Dev) : (s.event f).dev = txStart (f s.dev) := rfl

@[simp] theorem onExpiry_none (f : Dev → Dev) (d : Dev) : onExpiry none f d = d := rfl
@[simp] theorem onExpiry_some (t : Nat) (f : Dev → Dev) (d : Dev) : onExpiry (some t) f d = f (d.advanceTo t) := rfl

/-! ## advanceTo -/

@[simp] theorem advanceTo_seq (d : Dev) (t : Nat) : (d.advanceTo t).seq = d.seq := rfl
@[simp] theorem advanceTo_sig (d : Dev) (t : Nat) : (d.advanceTo t).sig = d.sig := rfl
@[simp] theorem advanceTo_pls (d : Dev) (t : Nat) : (d.advanceTo t).pls = d.pls := rfl
@[simp] theorem advanceTo_gau (d : Dev) (t : Nat) : (d.advanceTo t).gau = d.gau := rfl
@[simp] theorem advanceTo_wrn (d : Dev) (t : Nat) : (d.advanceTo t).wrn = d.wrn := rfl
@[simp] theorem advanceTo_dor (d : Dev) (t : Nat) : (d.advanceTo t).dor = d.dor := rfl
@[simp] theorem advanceTo_flt (d : Dev) (t : Nat) : (d.advanceTo t).flt = d.flt := rfl
@[simp] theorem advanceTo_sto (d : Dev) (t : Nat) : (d.advanceTo t).sto = d.sto := rfl
@[simp] theorem advanceTo_cal (d : Dev) (t : Nat) : (d.advanceTo t).cal = d.cal := rfl
@[simp] theorem advanceTo_mod (d : Dev) (t : Nat) : (d.advanceTo t).mod = d.mod := rfl
@[simp] theorem advanceTo_lnk (d : Dev) (t : Nat) : (d.advanceTo t).lnk = d.lnk := rfl

/-! ## tick -/

@[simp] theorem tick_seq (d : Dev) : (d.tick).seq = d.seq := rfl
@[simp] theorem tick_sig (d : Dev) : (d.tick).sig = d.sig := rfl
@[simp] theorem tick_pls (d : Dev) : (d.tick).pls = d.pls := rfl
@[simp] theorem tick_gau (d : Dev) : (d.tick).gau = d.gau := rfl
@[simp] theorem tick_wrn (d : Dev) : (d.tick).wrn = d.wrn := rfl
@[simp] theorem tick_dor (d : Dev) : (d.tick).dor = d.dor := rfl
@[simp] theorem tick_flt (d : Dev) : (d.tick).flt = d.flt := rfl
@[simp] theorem tick_sto (d : Dev) : (d.tick).sto = d.sto := rfl
@[simp] theorem tick_cal (d : Dev) : (d.tick).cal = d.cal := rfl
@[simp] theorem tick_mod (d : Dev) : (d.tick).mod = d.mod := rfl
@[simp] theorem tick_lnk (d : Dev) : (d.tick).lnk = d.lnk := rfl

/-! ## advanceCounter -/

@[simp] theorem advanceCounter_seq (d : Dev) (c : BitVec 32) : (d.advanceCounter c).seq = d.seq := rfl
@[simp] theorem advanceCounter_sig (d : Dev) (c : BitVec 32) : (d.advanceCounter c).sig = d.sig := rfl
@[simp] theorem advanceCounter_pls (d : Dev) (c : BitVec 32) : (d.advanceCounter c).pls = d.pls := rfl
@[simp] theorem advanceCounter_gau (d : Dev) (c : BitVec 32) : (d.advanceCounter c).gau = d.gau := rfl
@[simp] theorem advanceCounter_wrn (d : Dev) (c : BitVec 32) : (d.advanceCounter c).wrn = d.wrn := rfl
@[simp] theorem advanceCounter_dor (d : Dev) (c : BitVec 32) : (d.advanceCounter c).dor = d.dor := rfl
@[simp] theorem advanceCounter_flt (d : Dev) (c : BitVec 32) : (d.advanceCounter c).flt = d.flt := rfl
@[simp] theorem advanceCounter_sto (d : Dev) (c : BitVec 32) : (d.advanceCounter c).sto = d.sto := rfl
@[simp] theorem advanceCounter_cal (d : Dev) (c : BitVec 32) : (d.advanceCounter c).cal = d.cal := rfl
@[simp] theorem advanceCounter_mod (d : Dev) (c : BitVec 32) : (d.advanceCounter c).mod = d.mod := rfl
@[simp] theorem advanceCounter_lnk (d : Dev) (c : BitVec 32) : (d.advanceCounter c).lnk = d.lnk := rfl

/-! ## setChan -/

@[simp] theorem setChan_clock (d : Dev) (c : Nat) (r : ChanRec) : (d.setChan c r).clock = d.clock := by unfold Dev.setChan; split <;> rfl
@[simp] theorem setChan_seq (d : Dev) (c : Nat) (r : ChanRec) : (d.setChan c r).seq = d.seq := by unfold Dev.setChan; split <;> rfl
@[simp] theorem setChan_pls (d : Dev) (c : Nat) (r : ChanRec) : (d.setChan c r).pls = d.pls := by unfold Dev.setChan; split <;> rfl
@[simp] theorem setChan_gau (d : Dev) (c : Nat) (r : ChanRec) : (d.setChan c r).gau = d.gau := by unfold Dev.setChan; split <;> rfl
@[simp] theorem setChan_wrn (d : Dev) (c : Nat) (r : ChanRec) : (d.setChan c r).wrn = d.wrn := by unfold Dev.setChan; split <;> rfl
@[simp] theorem setChan_dor (d : Dev) (c : Nat) (r : ChanRec) : (d.setChan c r).dor = d.dor := by unfold Dev.setChan; split <;> rfl
@[simp] theorem setChan_flt (d : Dev) (c : Nat) (r : ChanRec) : (d.setChan c r).flt = d.flt := by unfold Dev.setChan; split <;> rfl
@[simp] theorem setChan_sto (d : Dev) (c : Nat) (r : ChanRec) : (d.setChan c r).sto = d.sto := by unfold Dev.setChan; split <;> rfl
@[simp] theorem setChan_cal (d : Dev) (c : Nat) (r : ChanRec) : (d.setChan c r).cal = d.cal := by unfold Dev.setChan; split <;> rfl
@[simp] theorem setChan_mod (d : Dev) (c : Nat) (r : ChanRec) : (d.setChan c r).mod = d.mod := by unfold Dev.setChan; split <;> rfl
@[simp] theorem setChan_lnk (d : Dev) (c : Nat) (r : ChanRec) : (d.setChan c r).lnk = d.lnk := by unfold Dev.setChan; split <;> rfl

/-! ## setScan -/

@[simp] theorem setScan_clock (d : Dev) (k : ScanClass) (c : ClassState) : (d.setScan k c).clock = d.clock := by cases k <;> rfl
@[simp] theorem setScan_sig (d : Dev) (k : ScanClass) (c : ClassState) : (d.setScan k c).sig = d.sig := by cases k <;> rfl
@[simp] theorem setScan_pls (d : Dev) (k : ScanClass) (c : ClassState) : (d.setScan k c).pls = d.pls := by cases k <;> rfl
@[simp] theorem setScan_gau (d : Dev) (k : ScanClass) (c : ClassState) : (d.setScan k c).gau = d.gau := by cases k <;> rfl
@[simp] theorem setScan_wrn (d : Dev) (k : ScanClass) (c : ClassState) : (d.setScan k c).wrn = d.wrn := by cases k <;> rfl
@[simp] theorem setScan_dor (d : Dev) (k : ScanClass) (c : ClassState) : (d.setScan k c).dor = d.dor := by cases k <;> rfl
@[simp] theorem setScan_flt (d : Dev) (k : ScanClass) (c : ClassState) : (d.setScan k c).flt = d.flt := by cases k <;> rfl
@[simp] theorem setScan_sto (d : Dev) (k : ScanClass) (c : ClassState) : (d.setScan k c).sto = d.sto := by cases k <;> rfl
@[simp] theorem setScan_cal (d : Dev) (k : ScanClass) (c : ClassState) : (d.setScan k c).cal = d.cal := by cases k <;> rfl
@[simp] theorem setScan_mod (d : Dev) (k : ScanClass) (c : ClassState) : (d.setScan k c).mod = d.mod := by cases k <;> rfl
@[simp] theorem setScan_lnk (d : Dev) (k : ScanClass) (c : ClassState) : (d.setScan k c).lnk = d.lnk := by cases k <;> rfl

/-! ## setConverter -/

@[simp] theorem setConverter_clock (c : Converter) (d : Dev) : (setConverter c d).clock = d.clock := rfl
@[simp] theorem setConverter_sig (c : Converter) (d : Dev) : (setConverter c d).sig = d.sig := rfl
@[simp] theorem setConverter_pls (c : Converter) (d : Dev) : (setConverter c d).pls = d.pls := rfl
@[simp] theorem setConverter_gau (c : Converter) (d : Dev) : (setConverter c d).gau = d.gau := rfl
@[simp] theorem setConverter_wrn (c : Converter) (d : Dev) : (setConverter c d).wrn = d.wrn := rfl
@[simp] theorem setConverter_dor (c : Converter) (d : Dev) : (setConverter c d).dor = d.dor := rfl
@[simp] theorem setConverter_flt (c : Converter) (d : Dev) : (setConverter c d).flt = d.flt := rfl
@[simp] theorem setConverter_sto (c : Converter) (d : Dev) : (setConverter c d).sto = d.sto := rfl
@[simp] theorem setConverter_cal (c : Converter) (d : Dev) : (setConverter c d).cal = d.cal := rfl
@[simp] theorem setConverter_mod (c : Converter) (d : Dev) : (setConverter c d).mod = d.mod := rfl
@[simp] theorem setConverter_lnk (c : Converter) (d : Dev) : (setConverter c d).lnk = d.lnk := rfl

/-! ## setPulse -/

@[simp] theorem setPulse_clock (d : Dev) (i : PulseInput) (p : PulseState) : (d.setPulse i p).clock = d.clock := by cases i <;> rfl
@[simp] theorem setPulse_seq (d : Dev) (i : PulseInput) (p : PulseState) : (d.setPulse i p).seq = d.seq := by cases i <;> rfl
@[simp] theorem setPulse_sig (d : Dev) (i : PulseInput) (p : PulseState) : (d.setPulse i p).sig = d.sig := by cases i <;> rfl
@[simp] theorem setPulse_gau (d : Dev) (i : PulseInput) (p : PulseState) : (d.setPulse i p).gau = d.gau := by cases i <;> rfl
@[simp] theorem setPulse_wrn (d : Dev) (i : PulseInput) (p : PulseState) : (d.setPulse i p).wrn = d.wrn := by cases i <;> rfl
@[simp] theorem setPulse_dor (d : Dev) (i : PulseInput) (p : PulseState) : (d.setPulse i p).dor = d.dor := by cases i <;> rfl
@[simp] theorem setPulse_flt (d : Dev) (i : PulseInput) (p : PulseState) : (d.setPulse i p).flt = d.flt := by cases i <;> rfl
@[simp] theorem setPulse_sto (d : Dev) (i : PulseInput) (p : PulseState) : (d.setPulse i p).sto = d.sto := by cases i <;> rfl
@[simp] theorem setPulse_cal (d : Dev) (i : PulseInput) (p : PulseState) : (d.setPulse i p).cal = d.cal := by cases i <;> rfl
@[simp] theorem setPulse_mod (d : Dev) (i : PulseInput) (p : PulseState) : (d.setPulse i p).mod = d.mod := by cases i <;> rfl
@[simp] theorem setPulse_lnk (d : Dev) (i : PulseInput) (p : PulseState) : (d.setPulse i p).lnk = d.lnk := by cases i <;> rfl

/-! ## setGauge -/

@[simp] theorem setGauge_clock (d : Dev) (g : Fin 6) (r : GaugeRec) : (d.setGauge g r).clock = d.clock := rfl
@[simp] theorem setGauge_seq (d : Dev) (g : Fin 6) (r : GaugeRec) : (d.setGauge g r).seq = d.seq := rfl
@[simp] theorem setGauge_sig (d : Dev) (g : Fin 6) (r : GaugeRec) : (d.setGauge g r).sig = d.sig := rfl
@[simp] theorem setGauge_pls (d : Dev) (g : Fin 6) (r : GaugeRec) : (d.setGauge g r).pls = d.pls := rfl
@[simp] theorem setGauge_wrn (d : Dev) (g : Fin 6) (r : GaugeRec) : (d.setGauge g r).wrn = d.wrn := rfl
@[simp] theorem setGauge_dor (d : Dev) (g : Fin 6) (r : GaugeRec) : (d.setGauge g r).dor = d.dor := rfl
@[simp] theorem setGauge_flt (d : Dev) (g : Fin 6) (r : GaugeRec) : (d.setGauge g r).flt = d.flt := rfl
@[simp] theorem setGauge_sto (d : Dev) (g : Fin 6) (r : GaugeRec) : (d.setGauge g r).sto = d.sto := rfl
@[simp] theorem setGauge_cal (d : Dev) (g : Fin 6) (r : GaugeRec) : (d.setGauge g r).cal = d.cal := rfl
@[simp] theorem setGauge_mod (d : Dev) (g : Fin 6) (r : GaugeRec) : (d.setGauge g r).mod = d.mod := rfl
@[simp] theorem setGauge_lnk (d : Dev) (g : Fin 6) (r : GaugeRec) : (d.setGauge g r).lnk = d.lnk := rfl

/-! ## setLamp -/

@[simp] theorem setLamp_clock (d : Dev) (l : Fin 24) (r : LampRec) : (d.setLamp l r).clock = d.clock := rfl
@[simp] theorem setLamp_seq (d : Dev) (l : Fin 24) (r : LampRec) : (d.setLamp l r).seq = d.seq := rfl
@[simp] theorem setLamp_sig (d : Dev) (l : Fin 24) (r : LampRec) : (d.setLamp l r).sig = d.sig := rfl
@[simp] theorem setLamp_pls (d : Dev) (l : Fin 24) (r : LampRec) : (d.setLamp l r).pls = d.pls := rfl
@[simp] theorem setLamp_gau (d : Dev) (l : Fin 24) (r : LampRec) : (d.setLamp l r).gau = d.gau := rfl
@[simp] theorem setLamp_dor (d : Dev) (l : Fin 24) (r : LampRec) : (d.setLamp l r).dor = d.dor := rfl
@[simp] theorem setLamp_flt (d : Dev) (l : Fin 24) (r : LampRec) : (d.setLamp l r).flt = d.flt := rfl
@[simp] theorem setLamp_sto (d : Dev) (l : Fin 24) (r : LampRec) : (d.setLamp l r).sto = d.sto := rfl
@[simp] theorem setLamp_cal (d : Dev) (l : Fin 24) (r : LampRec) : (d.setLamp l r).cal = d.cal := rfl
@[simp] theorem setLamp_mod (d : Dev) (l : Fin 24) (r : LampRec) : (d.setLamp l r).mod = d.mod := rfl
@[simp] theorem setLamp_lnk (d : Dev) (l : Fin 24) (r : LampRec) : (d.setLamp l r).lnk = d.lnk := rfl

/-! ## setWarning -/

@[simp] theorem setWarning_clock (d : Dev) (w : Fin 64) (r : WarningRec) : (d.setWarning w r).clock = d.clock := rfl
@[simp] theorem setWarning_seq (d : Dev) (w : Fin 64) (r : WarningRec) : (d.setWarning w r).seq = d.seq := rfl
@[simp] theorem setWarning_sig (d : Dev) (w : Fin 64) (r : WarningRec) : (d.setWarning w r).sig = d.sig := rfl
@[simp] theorem setWarning_pls (d : Dev) (w : Fin 64) (r : WarningRec) : (d.setWarning w r).pls = d.pls := rfl
@[simp] theorem setWarning_gau (d : Dev) (w : Fin 64) (r : WarningRec) : (d.setWarning w r).gau = d.gau := rfl
@[simp] theorem setWarning_dor (d : Dev) (w : Fin 64) (r : WarningRec) : (d.setWarning w r).dor = d.dor := rfl
@[simp] theorem setWarning_flt (d : Dev) (w : Fin 64) (r : WarningRec) : (d.setWarning w r).flt = d.flt := rfl
@[simp] theorem setWarning_sto (d : Dev) (w : Fin 64) (r : WarningRec) : (d.setWarning w r).sto = d.sto := rfl
@[simp] theorem setWarning_cal (d : Dev) (w : Fin 64) (r : WarningRec) : (d.setWarning w r).cal = d.cal := rfl
@[simp] theorem setWarning_mod (d : Dev) (w : Fin 64) (r : WarningRec) : (d.setWarning w r).mod = d.mod := rfl
@[simp] theorem setWarning_lnk (d : Dev) (w : Fin 64) (r : WarningRec) : (d.setWarning w r).lnk = d.lnk := rfl

/-! ## setPlayer -/

@[simp] theorem setPlayer_clock (p : Player) (d : Dev) : (setPlayer p d).clock = d.clock := rfl
@[simp] theorem setPlayer_seq (p : Player) (d : Dev) : (setPlayer p d).seq = d.seq := rfl
@[simp] theorem setPlayer_sig (p : Player) (d : Dev) : (setPlayer p d).sig = d.sig := rfl
@[simp] theorem setPlayer_pls (p : Player) (d : Dev) : (setPlayer p d).pls = d.pls := rfl
@[simp] theorem setPlayer_gau (p : Player) (d : Dev) : (setPlayer p d).gau = d.gau := rfl
@[simp] theorem setPlayer_dor (p : Player) (d : Dev) : (setPlayer p d).dor = d.dor := rfl
@[simp] theorem setPlayer_flt (p : Player) (d : Dev) : (setPlayer p d).flt = d.flt := rfl
@[simp] theorem setPlayer_sto (p : Player) (d : Dev) : (setPlayer p d).sto = d.sto := rfl
@[simp] theorem setPlayer_cal (p : Player) (d : Dev) : (setPlayer p d).cal = d.cal := rfl
@[simp] theorem setPlayer_mod (p : Player) (d : Dev) : (setPlayer p d).mod = d.mod := rfl
@[simp] theorem setPlayer_lnk (p : Player) (d : Dev) : (setPlayer p d).lnk = d.lnk := rfl

/-! ## setDoor -/

@[simp] theorem setDoor_clock (d : Dev) (i : Fin 4) (r : DoorRec) : (d.setDoor i r).clock = d.clock := rfl
@[simp] theorem setDoor_seq (d : Dev) (i : Fin 4) (r : DoorRec) : (d.setDoor i r).seq = d.seq := rfl
@[simp] theorem setDoor_sig (d : Dev) (i : Fin 4) (r : DoorRec) : (d.setDoor i r).sig = d.sig := rfl
@[simp] theorem setDoor_pls (d : Dev) (i : Fin 4) (r : DoorRec) : (d.setDoor i r).pls = d.pls := rfl
@[simp] theorem setDoor_gau (d : Dev) (i : Fin 4) (r : DoorRec) : (d.setDoor i r).gau = d.gau := rfl
@[simp] theorem setDoor_wrn (d : Dev) (i : Fin 4) (r : DoorRec) : (d.setDoor i r).wrn = d.wrn := rfl
@[simp] theorem setDoor_flt (d : Dev) (i : Fin 4) (r : DoorRec) : (d.setDoor i r).flt = d.flt := rfl
@[simp] theorem setDoor_sto (d : Dev) (i : Fin 4) (r : DoorRec) : (d.setDoor i r).sto = d.sto := rfl
@[simp] theorem setDoor_cal (d : Dev) (i : Fin 4) (r : DoorRec) : (d.setDoor i r).cal = d.cal := rfl
@[simp] theorem setDoor_mod (d : Dev) (i : Fin 4) (r : DoorRec) : (d.setDoor i r).mod = d.mod := rfl
@[simp] theorem setDoor_lnk (d : Dev) (i : Fin 4) (r : DoorRec) : (d.setDoor i r).lnk = d.lnk := rfl

/-! ## setInterlock -/

@[simp] theorem setInterlock_clock (d : Dev) (k : Interlock) : (d.setInterlock k).clock = d.clock := rfl
@[simp] theorem setInterlock_seq (d : Dev) (k : Interlock) : (d.setInterlock k).seq = d.seq := rfl
@[simp] theorem setInterlock_sig (d : Dev) (k : Interlock) : (d.setInterlock k).sig = d.sig := rfl
@[simp] theorem setInterlock_pls (d : Dev) (k : Interlock) : (d.setInterlock k).pls = d.pls := rfl
@[simp] theorem setInterlock_gau (d : Dev) (k : Interlock) : (d.setInterlock k).gau = d.gau := rfl
@[simp] theorem setInterlock_wrn (d : Dev) (k : Interlock) : (d.setInterlock k).wrn = d.wrn := rfl
@[simp] theorem setInterlock_flt (d : Dev) (k : Interlock) : (d.setInterlock k).flt = d.flt := rfl
@[simp] theorem setInterlock_sto (d : Dev) (k : Interlock) : (d.setInterlock k).sto = d.sto := rfl
@[simp] theorem setInterlock_cal (d : Dev) (k : Interlock) : (d.setInterlock k).cal = d.cal := rfl
@[simp] theorem setInterlock_mod (d : Dev) (k : Interlock) : (d.setInterlock k).mod = d.mod := rfl
@[simp] theorem setInterlock_lnk (d : Dev) (k : Interlock) : (d.setInterlock k).lnk = d.lnk := rfl

/-! ## setSlot -/

@[simp] theorem setSlot_clock (d : Dev) (i : Fin 40) (s : FaultSlot) : (d.setSlot i s).clock = d.clock := rfl
@[simp] theorem setSlot_seq (d : Dev) (i : Fin 40) (s : FaultSlot) : (d.setSlot i s).seq = d.seq := rfl
@[simp] theorem setSlot_sig (d : Dev) (i : Fin 40) (s : FaultSlot) : (d.setSlot i s).sig = d.sig := rfl
@[simp] theorem setSlot_pls (d : Dev) (i : Fin 40) (s : FaultSlot) : (d.setSlot i s).pls = d.pls := rfl
@[simp] theorem setSlot_gau (d : Dev) (i : Fin 40) (s : FaultSlot) : (d.setSlot i s).gau = d.gau := rfl
@[simp] theorem setSlot_wrn (d : Dev) (i : Fin 40) (s : FaultSlot) : (d.setSlot i s).wrn = d.wrn := rfl
@[simp] theorem setSlot_dor (d : Dev) (i : Fin 40) (s : FaultSlot) : (d.setSlot i s).dor = d.dor := rfl
@[simp] theorem setSlot_sto (d : Dev) (i : Fin 40) (s : FaultSlot) : (d.setSlot i s).sto = d.sto := rfl
@[simp] theorem setSlot_cal (d : Dev) (i : Fin 40) (s : FaultSlot) : (d.setSlot i s).cal = d.cal := rfl
@[simp] theorem setSlot_mod (d : Dev) (i : Fin 40) (s : FaultSlot) : (d.setSlot i s).mod = d.mod := rfl
@[simp] theorem setSlot_lnk (d : Dev) (i : Fin 40) (s : FaultSlot) : (d.setSlot i s).lnk = d.lnk := rfl

/-! ## setJob -/

@[simp] theorem setJob_clock (j : Job) (d : Dev) : (setJob j d).clock = d.clock := rfl
@[simp] theorem setJob_seq (j : Job) (d : Dev) : (setJob j d).seq = d.seq := rfl
@[simp] theorem setJob_sig (j : Job) (d : Dev) : (setJob j d).sig = d.sig := rfl
@[simp] theorem setJob_pls (j : Job) (d : Dev) : (setJob j d).pls = d.pls := rfl
@[simp] theorem setJob_gau (j : Job) (d : Dev) : (setJob j d).gau = d.gau := rfl
@[simp] theorem setJob_wrn (j : Job) (d : Dev) : (setJob j d).wrn = d.wrn := rfl
@[simp] theorem setJob_dor (j : Job) (d : Dev) : (setJob j d).dor = d.dor := rfl
@[simp] theorem setJob_flt (j : Job) (d : Dev) : (setJob j d).flt = d.flt := rfl
@[simp] theorem setJob_cal (j : Job) (d : Dev) : (setJob j d).cal = d.cal := rfl
@[simp] theorem setJob_mod (j : Job) (d : Dev) : (setJob j d).mod = d.mod := rfl
@[simp] theorem setJob_lnk (j : Job) (d : Dev) : (setJob j d).lnk = d.lnk := rfl

/-! ## writeRam -/

@[simp] theorem writeRam_clock (d : Dev) (a : Nat) (bs : List Byte) : (d.writeRam a bs).clock = d.clock := rfl
@[simp] theorem writeRam_seq (d : Dev) (a : Nat) (bs : List Byte) : (d.writeRam a bs).seq = d.seq := rfl
@[simp] theorem writeRam_sig (d : Dev) (a : Nat) (bs : List Byte) : (d.writeRam a bs).sig = d.sig := rfl
@[simp] theorem writeRam_pls (d : Dev) (a : Nat) (bs : List Byte) : (d.writeRam a bs).pls = d.pls := rfl
@[simp] theorem writeRam_gau (d : Dev) (a : Nat) (bs : List Byte) : (d.writeRam a bs).gau = d.gau := rfl
@[simp] theorem writeRam_wrn (d : Dev) (a : Nat) (bs : List Byte) : (d.writeRam a bs).wrn = d.wrn := rfl
@[simp] theorem writeRam_dor (d : Dev) (a : Nat) (bs : List Byte) : (d.writeRam a bs).dor = d.dor := rfl
@[simp] theorem writeRam_flt (d : Dev) (a : Nat) (bs : List Byte) : (d.writeRam a bs).flt = d.flt := rfl
@[simp] theorem writeRam_sto (d : Dev) (a : Nat) (bs : List Byte) : (d.writeRam a bs).sto = d.sto := rfl
@[simp] theorem writeRam_mod (d : Dev) (a : Nat) (bs : List Byte) : (d.writeRam a bs).mod = d.mod := rfl
@[simp] theorem writeRam_lnk (d : Dev) (a : Nat) (bs : List Byte) : (d.writeRam a bs).lnk = d.lnk := rfl

/-! ## txStart -/

@[simp] theorem txStart_clock (d : Dev) : (txStart d).clock = d.clock := by unfold txStart; (repeat' split) <;> rfl
@[simp] theorem txStart_seq (d : Dev) : (txStart d).seq = d.seq := by unfold txStart; (repeat' split) <;> rfl
@[simp] theorem txStart_sig (d : Dev) : (txStart d).sig = d.sig := by unfold txStart; (repeat' split) <;> rfl
@[simp] theorem txStart_pls (d : Dev) : (txStart d).pls = d.pls := by unfold txStart; (repeat' split) <;> rfl
@[simp] theorem txStart_gau (d : Dev) : (txStart d).gau = d.gau := by unfold txStart; (repeat' split) <;> rfl
@[simp] theorem txStart_wrn (d : Dev) : (txStart d).wrn = d.wrn := by unfold txStart; (repeat' split) <;> rfl
@[simp] theorem txStart_dor (d : Dev) : (txStart d).dor = d.dor := by unfold txStart; (repeat' split) <;> rfl
@[simp] theorem txStart_flt (d : Dev) : (txStart d).flt = d.flt := by unfold txStart; (repeat' split) <;> rfl
@[simp] theorem txStart_sto (d : Dev) : (txStart d).sto = d.sto := by unfold txStart; (repeat' split) <;> rfl
@[simp] theorem txStart_cal (d : Dev) : (txStart d).cal = d.cal := by unfold txStart; (repeat' split) <;> rfl
@[simp] theorem txStart_mod (d : Dev) : (txStart d).mod = d.mod := by unfold txStart; (repeat' split) <;> rfl

/-! ## txEnd -/

@[simp] theorem txEnd_clock (d : Dev) : (txEnd d).clock = d.clock := by unfold txEnd; split <;> rfl
@[simp] theorem txEnd_seq (d : Dev) : (txEnd d).seq = d.seq := by unfold txEnd; split <;> rfl
@[simp] theorem txEnd_sig (d : Dev) : (txEnd d).sig = d.sig := by unfold txEnd; split <;> rfl
@[simp] theorem txEnd_pls (d : Dev) : (txEnd d).pls = d.pls := by unfold txEnd; split <;> rfl
@[simp] theorem txEnd_gau (d : Dev) : (txEnd d).gau = d.gau := by unfold txEnd; split <;> rfl
@[simp] theorem txEnd_wrn (d : Dev) : (txEnd d).wrn = d.wrn := by unfold txEnd; split <;> rfl
@[simp] theorem txEnd_dor (d : Dev) : (txEnd d).dor = d.dor := by unfold txEnd; split <;> rfl
@[simp] theorem txEnd_flt (d : Dev) : (txEnd d).flt = d.flt := by unfold txEnd; split <;> rfl
@[simp] theorem txEnd_sto (d : Dev) : (txEnd d).sto = d.sto := by unfold txEnd; split <;> rfl
@[simp] theorem txEnd_cal (d : Dev) : (txEnd d).cal = d.cal := by unfold txEnd; split <;> rfl
@[simp] theorem txEnd_mod (d : Dev) : (txEnd d).mod = d.mod := by unfold txEnd; split <;> rfl

/-! ## Reading back -/

@[simp] theorem advanceTo_clock (d : Dev) (t : Nat) : (d.advanceTo t).clock = max d.clock t := rfl
@[simp] theorem tick_clock (d : Dev) : d.tick.clock = d.clock + 1 := rfl

theorem setScan_scan (d : Dev) (k j : ScanClass) (c : ClassState) :
    (d.setScan k c).scan j = if k = j then c else d.scan j := by
  cases k <;> cases j <;> rfl

@[simp] theorem setScan_converter (d : Dev) (k : ScanClass) (c : ClassState) :
    (d.setScan k c).seq.converter = d.seq.converter := by cases k <;> rfl

@[simp] theorem setScan_onDemand (d : Dev) (k : ScanClass) (c : ClassState) :
    (d.setScan k c).seq.onDemand = d.seq.onDemand := by cases k <;> rfl

theorem setPulse_pulse (d : Dev) (i j : PulseInput) (p : PulseState) :
    (d.setPulse i p).pulse j = if i = j then p else d.pulse j := by
  cases i <;> cases j <;> rfl

theorem setChan_chan (d : Dev) (c k : Nat) (r : ChanRec) (hc : c < 46) :
    (d.setChan c r).chan k = if c = k then r else d.chan k := by
  unfold Dev.setChan Dev.chan
  rw [dif_pos hc]
  by_cases hk : k < 46
  · rw [dif_pos hk]
    by_cases hck : c = k
    · subst hck; simp
    · rw [if_neg hck, dif_pos hk]
      exact Vector.getElem_set_ne hc hk hck
  · rw [dif_neg hk, if_neg (by omega), dif_neg hk]

theorem setGauge_gauge (d : Dev) (g k : Fin 6) (r : GaugeRec) :
    (d.setGauge g r).gauge k =
      if g = k then (if r.state.driven then r else { r with pwm := none, sinEnded := false, cosEnded := false })
      else d.gauge k := by
  simp only [Dev.setGauge, Dev.gauge]
  by_cases h : g = k
  · subst h; simp
  · rw [if_neg h]
    exact Vector.getElem_set_ne _ _ fun e => h (Fin.ext e)

theorem setLamp_lamp (d : Dev) (l k : Fin 24) (r : LampRec) :
    (d.setLamp l r).lamp k = if l = k then r else d.lamp k := by
  simp only [Dev.setLamp, Dev.lamp]
  by_cases h : l = k
  · subst h; simp
  · rw [if_neg h]
    exact Vector.getElem_set_ne _ _ fun e => h (Fin.ext e)

theorem setWarning_warning (d : Dev) (w k : Fin 64) (r : WarningRec) :
    (d.setWarning w r).warning k = if w = k then r else d.warning k := by
  simp only [Dev.setWarning, Dev.warning]
  by_cases h : w = k
  · subst h; simp
  · rw [if_neg h]
    exact Vector.getElem_set_ne _ _ fun e => h (Fin.ext e)

theorem setSlot_slot (d : Dev) (i k : Fin 40) (s : FaultSlot) :
    (d.setSlot i s).slot k = if i = k then s else d.slot k := by
  simp only [Dev.setSlot, Dev.slot]
  by_cases h : i = k
  · subst h; simp
  · rw [if_neg h]
    exact Vector.getElem_set_ne _ _ fun e => h (Fin.ext e)

/-- A door record written reads back with its line as R119 has it. -/
theorem setDoor_door (d : Dev) (i j : Fin 4) (r : DoorRec) :
    (d.setDoor i r).door j =
      if i = j then { r with line := r.release == .released && d.mod.mode.active } else d.door j := by
  simp only [Dev.setDoor, Dev.door]
  by_cases hij : i = j
  · subst hij; simp
  · rw [if_neg hij]
    exact Vector.getElem_set_ne _ _ (fun h => hij (Fin.ext h))

/-- What the transmitter's start leaves of the link: all but the two queues and the frame in transmission. -/
theorem txStart_lnk (d : Dev) : (txStart d).lnk =
    { d.lnk with replies := (txStart d).lnk.replies, notices := (txStart d).lnk.notices, tx := (txStart d).lnk.tx } := by
  unfold txStart
  repeat' split
  all_goals rfl

/-- Starting the transmitter twice is starting it once. -/
theorem txStart_twice (d : Dev) : txStart (txStart d) = txStart d := by
  have some_tx : ∀ e : Dev, e.lnk.tx.isSome → txStart e = e := by
    intro e he
    unfold txStart
    split
    · rfl
    · rename_i h; rw [h] at he; cases he
  by_cases hd : (txStart d).lnk.tx.isSome
  · exact some_tx _ hd
  · have : txStart d = d := by
      unfold txStart at hd ⊢
      split
      · rfl
      · split
        · simp_all
        · split
          · simp_all
          · rfl
    rw [this, this]

end Sys2Proof.Machine
end

