-- ==== Sys2Proof/Laws/Invariant.lean ====
section
/-! SUPPORT. Every effect of a command keeps `Inv`: one lemma for each operation above those of Near, `inv_<operation>`. -/

namespace Sys2Proof.Machine

variable {n : Nat} {d e : Dev}

theorem inv_near (h : Inv d) (k : Near d e) : Inv e := k.inv h

theorem inv_sig (w : SigState) (h : Inv d) : Inv { d with sig := w } := (near_sig w (Near.refl d)).inv h
theorem inv_pls (w : PlsState) (h : Inv d) : Inv { d with pls := w } := (near_pls w (Near.refl d)).inv h
theorem inv_gau (w : GauState) (h : Inv d) : Inv { d with gau := w } := (near_gau w (Near.refl d)).inv h
theorem inv_wrn (w : WrnState) (h : Inv d) : Inv { d with wrn := w } := (near_wrn w (Near.refl d)).inv h
theorem inv_flt (w : FltState) (h : Inv d) : Inv { d with flt := w } := (near_flt w (Near.refl d)).inv h
theorem inv_sto (w : StoState) (h : Inv d) : Inv { d with sto := w } := (near_sto w (Near.refl d)).inv h
theorem inv_seq (w : SeqState) (h : Inv d) (hw : w.onDemand.length ≤ d.seq.onDemand.length) :
    Inv { d with seq := w } := (near_seq w (Near.refl d) hw).inv h
theorem inv_cal (w : CalState) (h : Inv d) (hw : w.ram = d.cal.ram) : Inv { d with cal := w } :=
  (near_cal w (Near.refl d) hw).inv h
theorem inv_mod (w : ModState) (h : Inv d) (hw : w.mode = d.mod.mode) : Inv { d with mod := w } :=
  (near_mod w (Near.refl d) hw).inv h

theorem inv_forEach {k : Nat} {f : Fin k → Dev → Dev} (hf : ∀ i e, Inv e → Inv (f i e)) (h : Inv d) :
    Inv (forEach k f d) := by
  unfold forEach
  generalize List.finRange k = l
  induction l generalizing d with
  | nil => exact h
  | cons i l ih => exact ih (hf i d h)

theorem inv_foldl {α : Type} {f : Dev → α → Dev} {l : List α} (hf : ∀ e a, Inv e → Inv (f e a)) (h : Inv d) :
    Inv (l.foldl f d) := by
  induction l generalizing d with
  | nil => exact h
  | cons a l ih => exact ih (hf d a h)

/-! ## Doors -/

/-- What the conditions of `Inv` ask beside the speed of released doors. -/
structure Outer (d : Dev) : Prop where
  ram : Memory.wf d.cal.ram = true
  requests : d.lnk.requests.length ≤ 4
  rejections : (d.lnk.replies.filter (·.rejection)).length ≤ 4
  notices : d.lnk.notices.length ≤ 32
  onDemand : d.seq.onDemand.length ≤ 8
  line : ∀ i : Fin 4, lineOn d i = ((d.door i).release == .released)
  released : ∀ i : Fin 4, (d.door i).release = .released → d.dor.running = true ∧ configured d i = true

theorem Inv.outer (h : Inv d) : Outer d :=
  ⟨h.ram, h.requests, h.rejections, h.notices, h.onDemand, h.line, fun i r => ⟨(h.released i r).1, (h.released i r).2.1⟩⟩

theorem Outer.inv (h : Outer d) (hr : d.dor.running = d.mod.mode.active)
    (hs : ∀ i, (d.door i).release = .released → speedOk d (d.doorSettings i) = true) : Inv d :=
  ⟨h.ram, h.requests, h.rejections, h.notices, h.onDemand, h.line,
    fun i r => ⟨(h.released i r).1, (h.released i r).2, hs i r⟩, hr⟩

/-- The same doors, settings and road sample. -/
theorem near_door (h : Near d e) (i : Fin 4) : e.door i = d.door i := congrArg (fun s => s.doors[i]) h.dor

theorem near_doorSettings (h : Near d e) (i : Fin 4) : e.doorSettings i = d.doorSettings i :=
  congrArg (fun s => s.cfg.doors[i]) h.dor

theorem near_configured (h : Near d e) (i : Fin 4) : configured e i = configured d i := by
  rw [configured, configured, h.dor]

theorem near_speedOk (h : Near d e) (c : DoorCfg) : speedOk e c = speedOk d c := by
  rw [speedOk, speedOk, h.dor]

theorem Near.outer (h : Near d e) (o : Outer d) : Outer e :=
  ⟨by rw [h.ram]; exact o.ram, h.requests o.requests, h.rejections o.rejections, h.notices o.notices,
    h.onDemand o.onDemand, fun i => by rw [lineOn, near_door h]; exact o.line i,
    fun i => by rw [near_door h, near_configured h, h.dor]; exact o.released i⟩

/-- A step at the doors: the conditions but for the speed, with the speeds of the doors a test names. -/
structure Doors (d₀ : Dev) (done : Fin 4 → Prop) (e : Dev) : Prop where
  outer : Outer e
  active : e.dor.running = e.mod.mode.active
  same : e.dor.running = d₀.dor.running ∧ e.dor.cfg = d₀.dor.cfg ∧ e.dor.roadQuality = d₀.dor.roadQuality ∧
    e.dor.roadInstant = d₀.dor.roadInstant
  ok : ∀ i, done i → (e.door i).release = .released → speedOk e (e.doorSettings i) = true

theorem Doors.speed {d₀ : Dev} {p : Fin 4 → Prop} (h : Doors d₀ p e) (c : DoorCfg) : speedOk e c = speedOk d₀ c := by
  obtain ⟨-, -, hq, hi⟩ := h.same
  rw [speedOk, speedOk, hq, hi]

theorem Doors.settings {d₀ : Dev} {p : Fin 4 → Prop} (h : Doors d₀ p e) (i : Fin 4) :
    e.doorSettings i = d₀.doorSettings i := congrArg (fun s => s.doors[i]) h.same.2.1

theorem Doors.near {d₀ e' : Dev} {p : Fin 4 → Prop} (h : Doors d₀ p e) (k : Near e e') : Doors d₀ p e' :=
  ⟨k.outer h.outer, by rw [k.dor, k.mode]; exact h.active, by rw [k.dor]; exact h.same,
    fun i hi r => by rw [near_door k] at r; rw [near_speedOk k, near_doorSettings k]; exact h.ok i hi r⟩

/-- A door record written: RELEASED only for a configured door of a running DOR with its speed ok. -/
theorem Doors.setDoor {d₀ : Dev} {p : Fin 4 → Prop} (h : Doors d₀ p e) (i : Fin 4) (r : DoorRec)
    (hr : r.release = .released →
      e.dor.running = true ∧ configured e i = true ∧ speedOk e (e.doorSettings i) = true) :
    Doors d₀ (fun j => p j ∨ j = i) (e.setDoor i r) := by
  have conf : ∀ j, configured (e.setDoor i r) j = configured e j := fun _ => rfl
  have sp : ∀ c, speedOk (e.setDoor i r) c = speedOk e c := fun _ => rfl
  have se : ∀ j, (e.setDoor i r).doorSettings j = e.doorSettings j := fun _ => rfl
  have ru : (e.setDoor i r).dor.running = e.dor.running := rfl
  refine ⟨⟨h.outer.ram, h.outer.requests, h.outer.rejections, h.outer.notices, h.outer.onDemand, fun j => ?_, fun j => ?_⟩,
    h.active, h.same, fun j hj => ?_⟩
  · rw [lineOn, setDoor_door]
    by_cases hij : i = j
    · rw [if_pos hij]
      by_cases hrel : r.release = .released
      · have ha : e.mod.mode.active = true := by rw [← h.active]; exact (hr hrel).1
        simp [hrel, ha]
      · have : (r.release == ReleaseState.released) = false := by simpa using hrel
        simp [this]
    · rw [if_neg hij]; exact h.outer.line j
  · rw [setDoor_door, conf, ru]
    by_cases hij : i = j
    · rw [if_pos hij]
      subst hij
      exact fun hrel => ⟨(hr hrel).1, (hr hrel).2.1⟩
    · rw [if_neg hij]; exact h.outer.released j
  · rw [setDoor_door, sp, se]
    by_cases hij : i = j
    · rw [if_pos hij]
      subst hij
      exact fun hrel => (hr hrel).2.2
    · rw [if_neg hij]
      rcases hj with hj | hj
      · exact h.ok j hj
      · exact absurd hj.symm hij

theorem near_doorTail (i : Fin 4) (new : DoorRec) (old : DoorRec) (cause : DoorCause) (d : Dev) :
    Near d (let e := fltReportIf (new.held != old.held) 0x30 i.val new.held d
      if doorDiffers old new then wrnDoor i.val (postDoor i cause e) else e) := by
  have k := near_fltReportIf (new.held != old.held) 0x30 i.val new.held (Near.refl d)
  extract_lets e
  split
  · exact near_wrnDoor _ (near_postDoor _ _ k)
  · exact k

theorem Doors.complete {d₀ : Dev} {p : Fin 4 → Prop} (h : Doors d₀ p e) (i : Fin 4) (r : DoorRec) (cause : DoorCause)
    (hr : r.release = .released →
      e.dor.running = true ∧ configured e i = true ∧ speedOk e (e.doorSettings i) = true) :
    Doors d₀ (fun j => p j ∨ j = i) (doorComplete i r cause e) :=
  (h.setDoor i r hr).near (near_doorTail i r (e.door i) cause (e.setDoor i r))

theorem Inv.doors (h : Inv d) : Doors d (fun _ => True) d :=
  ⟨h.outer, h.running, ⟨rfl, rfl, rfl, rfl⟩, fun i _ r => (h.released i r).2.2⟩

theorem Doors.inv {d₀ : Dev} {p : Fin 4 → Prop} (h : Doors d₀ p e) (hp : ∀ i, p i) : Inv e :=
  h.outer.inv h.active fun i => h.ok i (hp i)

theorem Doors.weaken {d₀ : Dev} {p q : Fin 4 → Prop} (h : Doors d₀ p e) (hq : ∀ i, q i → p i) : Doors d₀ q e :=
  ⟨h.outer, h.active, h.same, fun i hi => h.ok i (hq i hi)⟩

/-- The loop over the doors of an event whose effect releases a door only as it was released, or with its speed
ok. -/
theorem Doors.event {d₀ : Dev} {p : Fin 4 → Prop} {f : Fin 4 → DoorCfg → DoorRec → DoorRec × DoorCause}
    (h : Doors d₀ p d)
    (hf : ∀ i r, (f i (d₀.doorSettings i) r).1.release = .released →
      (p i ∧ r.release = .released) ∨ (d₀.dor.running = true ∧ speedOk d₀ (d₀.doorSettings i) = true))
    (hid : ∀ i, p i ∨ ∀ r, (f i (d₀.doorSettings i) r).1 = r → r.release = .released →
      speedOk d₀ (d₀.doorSettings i) = true) :
    Inv (forEach 4 (fun i e =>
      if configured e i then
        let t := f i (e.doorSettings i) (e.door i)
        if t.1 = e.door i then e else doorComplete i t.1 t.2 e
      else e) d) := by
  have step : ∀ (i : Fin 4) (q : Fin 4 → Prop) (e : Dev), (∀ j, p j → q j) → Doors d₀ q e →
      Doors d₀ (fun j => q j ∨ j = i) (if configured e i then
        let t := f i (e.doorSettings i) (e.door i)
        if t.1 = e.door i then e else doorComplete i t.1 t.2 e
      else e) := by
    intro i q e hpq hd
    have hs : speedOk e (e.doorSettings i) = speedOk d₀ (d₀.doorSettings i) := by rw [hd.speed, hd.settings]
    split
    · rename_i hc
      extract_lets t
      split
      · rename_i heq
        refine ⟨hd.outer, hd.active, hd.same, fun j hj r => ?_⟩
        rcases hj with hj | rfl
        · exact hd.ok j hj r
        · rcases hid j with hpj | hall
          · exact hd.ok j (hpq j hpj) r
          · rw [hs]
            refine hall (e.door j) ?_ r
            simpa only [t, hd.settings] using heq
      · refine hd.complete i t.1 t.2 fun hrel => ?_
        have hrel' : (f i (d₀.doorSettings i) (e.door i)).1.release = .released := by
          simpa only [t, hd.settings] using hrel
        rcases hf i (e.door i) hrel' with ⟨hpi, hr⟩ | ⟨hrun, hsp⟩
        · exact ⟨(hd.outer.released i hr).1, hc, hd.ok i (hpq i hpi) hr⟩
        · exact ⟨by rw [hd.same.1]; exact hrun, hc, by rw [hs]; exact hsp⟩
    · rename_i hc
      refine ⟨hd.outer, hd.active, hd.same, fun j hj r => ?_⟩
      rcases hj with hj | rfl
      · exact hd.ok j hj r
      · exact absurd (hd.outer.released j r).2 hc
  have loop : ∀ (l : List (Fin 4)) (q : Fin 4 → Prop) (e : Dev), (∀ j, p j → q j) → Doors d₀ q e →
      Doors d₀ (fun j => q j ∨ j ∈ l) (l.foldl (fun e i => if configured e i then
        let t := f i (e.doorSettings i) (e.door i)
        if t.1 = e.door i then e else doorComplete i t.1 t.2 e
      else e) e) := by
    intro l
    induction l with
    | nil => intro q e _ hd; exact hd.weaken (by simp)
    | cons i l ih =>
      intro q e hpq hd
      refine (ih _ _ (fun j hj => Or.inl (hpq j hj)) (step i q e hpq hd)).weaken ?_
      intro j hj
      rcases hj with hj | hj
      · exact Or.inl (Or.inl hj)
      · rcases List.mem_cons.mp hj with hj | hj
        · exact Or.inl (Or.inr hj)
        · exact Or.inr hj
  exact (loop (List.finRange 4) p d (fun _ => id) h).inv fun i => Or.inr (List.mem_finRange i)

theorem inv_setInterlock (k : Interlock) (h : Inv d) : Inv (d.setInterlock k) :=
  ⟨h.ram, h.requests, h.rejections, h.notices, h.onDemand, h.line, h.released, h.running⟩

/-- What an effect on a door record may not do: release it without its speed ok. -/
theorem enterHeld_release (r : DoorRec) : (enterHeld r).release = .held := rfl
theorem enterReleased_release (r : DoorRec) : (enterReleased r).release = .released := rfl

theorem enterClosing_release (d : Dev) (c : DoorCfg) (r : DoorRec) : (enterClosing d c r).release ≠ .released := by
  unfold enterClosing
  split <;> simp [enterHeld]

theorem releaseRequest_release (d : Dev) (c : DoorCfg) (r : DoorRec)
    (h : (releaseRequest d c r).release = .released) : r.release = .released ∨ speedOk d c = true := by
  unfold releaseRequest at h
  split at h
  · rename_i hr
    split at h
    · exact Or.inr ‹_›
    · split at h
      · simp at h
      · exact Or.inl h
  · split at h
    · exact Or.inr ‹_›
    · exact Or.inl h
  · split at h
    · exact Or.inr ‹_›
    · exact Or.inl h
  · exact Or.inl h
  · exact Or.inl h

theorem closeRequest_release (d : Dev) (c : DoorCfg) (r : DoorRec)
    (h : (closeRequest d c r).release = .released) : r.release = .released := by
  unfold closeRequest at h
  split at h
  · simp [enterHeld] at h
  · exact absurd h (enterClosing_release d c r)
  all_goals exact h

theorem speedResponse_release (d : Dev) (c : DoorCfg) (r : DoorRec)
    (h : (speedResponse d c r).1.release = .released) : speedOk d c = true := by
  unfold speedResponse at h
  split at h
  · split at h
    · assumption
    · simp_all
  · split at h
    · assumption
    · exact absurd h (enterClosing_release d c r)
  all_goals simp_all

theorem positionResponse_release (d : Dev) (c : DoorCfg) (r : DoorRec)
    (h : (positionResponse d c r).release = .released) : r.release = .released ∨ speedOk d c = true := by
  unfold positionResponse at h
  split at h
  · split at h
    · simp [enterHeld] at h
    · split at h
      · extract_lets r' at h
        split at h
        · exact Or.inr ‹_›
        · exact Or.inl h
      · exact Or.inl h
  · split at h
    · simp [enterHeld] at h
    · exact Or.inl h
  all_goals exact Or.inl h

theorem takePosition_release (d : Dev) (c : DoorCfg) (r : DoorRec)
    (h : (takePosition d c r).1.release = .released) : r.release = .released ∨ speedOk d c = true := by
  unfold takePosition at h
  extract_lets p clears r' at h
  split at h
  · exact Or.inl h
  · exact positionResponse_release d c r' h

theorem passengerRequest_release (r : DoorRec) : (passengerRequest r).release = r.release := by
  unfold passengerRequest
  split <;> rfl

theorem channelResponse_release (ch : Nat) (b : Bool) (d : Dev) (c : DoorCfg) (r : DoorRec)
    (h : (channelResponse ch b d c r).1.release = .released) : r.release = .released ∨ speedOk d c = true := by
  unfold channelResponse at h
  extract_lets a f g p at h
  have hp : g.release = .released := by
    have h' : p.release = .released := h
    simp only [p] at h'
    split at h'
    · rwa [passengerRequest_release] at h'
    · exact h'
  have hg : f.release = .released ∨ speedOk d c = true := by
    simp only [g] at hp
    split at hp
    · exact releaseRequest_release d c f hp
    · exact Or.inl hp
  rcases hg with hg | hg
  · have ha : a.1.release = .released := by
      simp only [f] at hg
      split at hg
      · exact closeRequest_release d c _ hg
      · exact hg
    simp only [a] at ha
    split at ha
    · exact takePosition_release d c r ha
    · exact Or.inl ha
  · exact Or.inr hg

theorem near_postTail (d : Dev) (a b : Bool) (k : Interlock) :
    Near d (let e := fltReportIf a 0x31 0 k.bypassHeld d
      if b then wrnInterlock (postInterlock e) else e) := by
  have k := near_fltReportIf a 0x31 0 k.bypassHeld (Near.refl d)
  extract_lets e
  split
  · exact near_wrnInterlock (near_postInterlock k)
  · exact k

theorem inv_interlockRefresh (entered : Bool) (h : Inv d) : Inv (interlockRefresh entered d) := by
  unfold interlockRefresh
  extract_lets old new a b
  have ha : Inv a := inv_setInterlock new h
  have hb : Inv b := (near_fltReportIf _ 0x31 0 new.bypassHeld (Near.refl a)).inv ha
  clear_value b
  split
  · exact (near_wrnInterlock (near_postInterlock (Near.refl b))).inv hb
  · exact hb

/-- An event at the doors whose effect releases no door but with its speed ok. -/
theorem inv_doorEvent (k : Bool) {f : Fin 4 → DoorCfg → DoorRec → DoorRec × DoorCause} (h : Inv d)
    (hf : ∀ i r, (f i (d.doorSettings i) r).1.release = .released →
      r.release = .released ∨ (d.dor.running = true ∧ speedOk d (d.doorSettings i) = true)) :
    Inv (doorEvent k f d) := by
  unfold doorEvent
  have hl := Doors.event (f := f) h.doors (fun i r hr => (hf i r hr).imp (fun x => ⟨trivial, x⟩) id)
    (fun i => Or.inl trivial)
  extract_lets d'
  split
  · exact inv_interlockRefresh _ hl
  · exact hl

theorem inv_doorEventAt (j : Fin 4) {f : DoorCfg → DoorRec → DoorRec × DoorCause} (h : Inv d)
    (hf : ∀ r, (f (d.doorSettings j) r).1.release = .released →
      r.release = .released ∨ (d.dor.running = true ∧ speedOk d (d.doorSettings j) = true)) :
    Inv (doorEventAt j f d) := by
  refine inv_doorEvent _ h fun i r hr => ?_
  split at hr
  · rename_i hij
    subst hij
    exact hf r hr
  · exact Or.inl hr

theorem inv_dorRelease (i : Fin 4) (h : Inv d) (hrun : d.dor.running = true) : Inv (dorRelease i d) :=
  inv_doorEventAt i h fun r hr => (releaseRequest_release d _ r hr).imp id fun x => ⟨hrun, x⟩

theorem inv_dorClose (i : Fin 4) (h : Inv d) : Inv (dorClose i d) :=
  inv_doorEventAt i h fun r hr => Or.inl (closeRequest_release d _ r hr)

theorem inv_dorHoldExpire (i : Fin 4) (h : Inv d) : Inv (dorHoldExpire i d) :=
  inv_doorEventAt i h fun r hr => by simp [enterHeld] at hr

theorem inv_dorCloseTimeout (i : Fin 4) (h : Inv d) : Inv (dorCloseTimeout i d) :=
  inv_doorEventAt i h fun r hr => by simp at hr

theorem inv_dorBrakeExpire (h : Inv d) : Inv (dorBrakeExpire d) := by
  unfold dorBrakeExpire
  extract_lets k a
  have ha : Inv a := inv_setInterlock _ h
  clear_value a
  exact (near_wrnInterlock (near_postInterlock (Near.refl a))).inv ha

theorem inv_dorChannel (ch : Nat) (b : Bool) (h : Inv d) : Inv (dorChannel ch b d) := by
  unfold dorChannel
  split
  · extract_lets s a
    have oa : Outer a := ⟨h.ram, h.requests, h.rejections, h.notices, h.onDemand, h.line, h.outer.released⟩
    have ra : a.dor.running = a.mod.mode.active := h.running
    split
    · rename_i hrun
      have da : Doors a (fun _ => False) a := ⟨oa, ra, ⟨rfl, rfl, rfl, rfl⟩, fun i hi => absurd hi id⟩
      have hl := Doors.event (f := fun _ c r => speedResponse a c r) da
        (fun i r hr => Or.inr ⟨hrun, speedResponse_release a _ r hr⟩)
        (fun i => Or.inr fun r he hr => speedResponse_release a _ r (by rw [he]; exact hr))
      unfold doorEvent
      extract_lets d'
      split
      · exact inv_interlockRefresh _ hl
      · exact hl
    · rename_i hrun
      exact oa.inv ra fun i hi => absurd (oa.released i hi).1 hrun
  · split
    · rename_i hrun
      extract_lets bears
      exact inv_doorEvent _ h fun i r hr =>
        (channelResponse_release ch b d _ r hr).imp id fun x => ⟨hrun, x⟩
    · exact h

/-- Every door HELD or as it was, with DOR running as the mode has it. -/
theorem held_inv (o : Outer d) (hr : d.dor.running = d.mod.mode.active)
    (hh : ∀ i, (d.door i).release ≠ .released) : Inv d :=
  o.inv hr fun i hi => absurd hi (hh i)

/-! ## The operations in the order of the definitions -/

theorem inv_modSet (m : Mode) (c : ModeCause) (h : Inv d) (hm : m.active = d.mod.mode.active) :
    Inv (modSet m c d) := by
  unfold modSet
  refine (near_postMode (Near.refl _)).inv ?_
  exact ⟨h.ram, h.requests, h.rejections, h.notices, h.onDemand, h.line, h.released, h.running.trans hm.symm⟩

theorem modSet_mode (m : Mode) (c : ModeCause) (d : Dev) : (modSet m c d).mod.mode = m :=
  (near_postMode (Near.refl _)).mode

theorem inv_sweepToRun (h : Inv d) (hm : d.mod.mode = .sweep) : Inv (sweepToRun d) := by
  unfold sweepToRun
  extract_lets a s b
  have ha : Inv a := inv_modSet .run .sweepDone h (by rw [hm]; rfl)
  have hb : Inv b := inv_mod _ ha rfl
  clear_value b
  exact inv_interlockRefresh _ ((near_wrnEnterRun (near_gauEnterRun (Near.refl b))).inv hb)

theorem inv_modSweepCheck (h : Inv d) : Inv (modSweepCheck d) := by
  unfold modSweepCheck
  split
  · rename_i hc
    simp only [Bool.and_eq_true, beq_iff_eq] at hc
    exact inv_sweepToRun h hc.1.1
  · exact h

theorem inv_serviceToRun (c : ModeCause) (h : Inv d) (hm : d.mod.mode = .service) : Inv (serviceToRun c d) := by
  unfold serviceToRun
  have ha : Inv (modSet .run c d) := inv_modSet _ _ h (by rw [hm]; rfl)
  generalize modSet .run c d = a at ha ⊢
  exact inv_interlockRefresh _ ((near_wrnLeaveService (near_gauEndOverrides (Near.refl a))).inv ha)

theorem inv_runToService (h : Inv d) (hm : d.mod.mode = .run) : Inv (runToService d) :=
  inv_interlockRefresh _ (inv_modSet _ _ h (by rw [hm]; rfl))

theorem inv_postSystem (h : Inv d) : Inv (postSystem d) :=
  (near_postSystem (Near.refl d)).inv h

theorem inv_wrnSystem (item : Condition) (h : Inv d) : Inv (wrnSystem item d) :=
  (near_wrnSystem _ (Near.refl d)).inv h

theorem inv_causeReport (group : Nat) (was : Bool) (is : Bool) (held : Bool) (h : Inv d) : Inv (causeReport group was is held d) :=
  (near_causeReport _ _ _ _ (Near.refl d)).inv h

theorem inv_handSupply (old : Supply) (h : Inv d) : Inv (handSupply old d) :=
  (near_handSupply _ (Near.refl d)).inv h

theorem inv_supplyApply (old : ModState) (h : Inv d) : Inv (supplyApply old d) := by
  unfold supplyApply
  extract_lets m a b c e f g
  split
  · exact h
  have ha : Inv a := inv_mod _ h rfl
  clear_value a
  have hf : Inv f := inv_handSupply _ (inv_postSystem (inv_causeReport _ _ _ _
    (inv_causeReport _ _ _ _ (inv_causeReport _ _ _ _ ha))))
  clear_value f
  have hg : Inv g := by
    show Inv (if f.mod.supply != old.supply then wrnSystem .driverShutdown f else f)
    split
    · exact inv_wrnSystem _ hf
    · exact hf
  exact inv_modSweepCheck hg

theorem inv_judgeCauses (ch : Nat) (h : Inv d) :
    Inv (judgeCauses ch d) := by
  unfold judgeCauses
  iterate 12 all_goals try first
    | with_reducible assumption | with_reducible apply inv_supplyApply | split | (extract_lets +lift)
    | with_reducible apply inv_mod
  all_goals first | exact le_refl _ | exact Nat.zero_le _ | rfl

theorem inv_undervoltExpire (h : Inv d) :
    Inv (undervoltExpire d) := by
  unfold undervoltExpire
  iterate 12 all_goals try first
    | with_reducible assumption | with_reducible apply inv_supplyApply | with_reducible apply inv_mod
  all_goals first | exact le_refl _ | exact Nat.zero_le _ | rfl

theorem inv_forcedExit (ch : Nat) (h : Inv d) : Inv (forcedExit ch d) := by
  unfold forcedExit
  split
  · exact h
  rename_i hm
  have hm : d.mod.mode = .service := by simpa using hm
  split
  · split
    · exact h
    · exact inv_serviceToRun _ h hm
  · split
    · exact inv_serviceToRun _ h hm
    · exact h

theorem inv_modChannel (ch : Nat) (h : Inv d) :
    Inv (modChannel ch d) := by
  unfold modChannel
  iterate 12 all_goals try first
    | with_reducible assumption | with_reducible apply inv_judgeCauses | with_reducible apply inv_forcedExit

theorem inv_wrnChannel (ch : Nat) (flipOn : Bool) (h : Inv d) : Inv (wrnChannel ch flipOn d) :=
  (near_told (told_wrnChannel _ _ (Told.refl 2 _)) (Near.refl d)).inv h

theorem inv_gauChannel (ch : Nat) (h : Inv d) : Inv (gauChannel ch d) :=
  (near_told (told_gauChannel _ (Told.refl 2 _)) (Near.refl d)).inv h

theorem inv_chanUpdate (ch : Nat) (flipOn : Bool) (h : Inv d) :
    Inv (chanUpdate ch flipOn d) := by
  unfold chanUpdate
  iterate 12 all_goals try first
    | with_reducible assumption | with_reducible apply inv_dorChannel | with_reducible apply inv_modChannel
    | with_reducible apply inv_wrnChannel | with_reducible apply inv_gauChannel

theorem inv_wrnFree (h : Inv d) : Inv (wrnFree d) :=
  (near_told (told_wrnFree (Told.refl 2 _)) (Near.refl d)).inv h

theorem inv_gauFree (h : Inv d) : Inv (gauFree d) :=
  (near_told (told_gauFree (Told.refl 2 _)) (Near.refl d)).inv h

theorem inv_restoreSupply (h : Inv d) :
    Inv (restoreSupply d) := by
  unfold restoreSupply
  iterate 12 all_goals try first
    | with_reducible assumption | with_reducible apply inv_modSweepCheck | with_reducible apply inv_postSystem
    | with_reducible apply inv_wrnSystem | with_reducible apply inv_handSupply
    | with_reducible apply inv_wrnFree | with_reducible apply inv_gauFree | split | (extract_lets +lift)
    | with_reducible apply inv_mod
  all_goals first | exact le_refl _ | exact Nat.zero_le _ | rfl

/-- The bounds alone, which every entry to a mode needs of the state before it. -/
structure Bounds (d : Dev) : Prop where
  ram : Memory.wf d.cal.ram = true
  requests : d.lnk.requests.length ≤ 4
  rejections : (d.lnk.replies.filter (·.rejection)).length ≤ 4
  notices : d.lnk.notices.length ≤ 32
  onDemand : d.seq.onDemand.length ≤ 8

theorem Inv.bounds (h : Inv d) : Bounds d := ⟨h.ram, h.requests, h.rejections, h.notices, h.onDemand⟩

theorem Near.bounds (h : Near d e) (b : Bounds d) : Bounds e :=
  ⟨by rw [h.ram]; exact b.ram, h.requests b.requests, h.rejections b.rejections, h.notices b.notices,
    h.onDemand b.onDemand⟩

theorem Bounds.modSet (b : Bounds d) (m : Mode) (c : ModeCause) : Bounds (modSet m c d) :=
  (near_postMode (Near.refl _)).bounds ⟨b.ram, b.requests, b.rejections, b.notices, b.onDemand⟩

/-- A state with every door HELD and its line off. -/
theorem Bounds.inv (b : Bounds d) (hr : d.dor.running = d.mod.mode.active)
    (hh : ∀ i, (d.door i).release = .held ∧ (d.door i).line = false) : Inv d :=
  ⟨b.ram, b.requests, b.rejections, b.notices, b.onDemand, fun i => by rw [lineOn, (hh i).2, (hh i).1]; rfl,
    fun i r => by rw [(hh i).1] at r; exact absurd r (by decide), hr⟩

theorem near_telling (b c : Bool) (d : Dev) :
    Near d (let e := fltReportIf b 0x31 0 true d
      let e := if c then postInterlock e else e
      let e := forEach 4 (fun i e => if configured e i then wrnDoor i.val e else e) e
      wrnInterlock e) := by
  have h1 := near_fltReportIf b 0x31 0 true (Near.refl d)
  have h2 : Near d (if c then postInterlock (fltReportIf b 0x31 0 true d) else fltReportIf b 0x31 0 true d) := by
    split
    · exact near_postInterlock h1
    · exact h1
  refine near_wrnInterlock (near_forEach (fun i e he => ?_) h2)
  split
  · exact near_wrnDoor _ he
  · exact he

/-- DOR starts: every door is HELD. -/
theorem inv_dorStart (download : Bool) (b : Bounds d) (hm : d.mod.mode.active = true) :
    Inv (dorStart download d) := by
  unfold dorStart
  extract_lets s a f k new w x y z
  have ha : Bounds a := ⟨b.ram, b.requests, b.rejections, b.notices, b.onDemand⟩
  have loop : ∀ (l : List (Fin 4)) (e : Dev) (g : Fin 4 → Dev → DoorRec),
      (∀ i e, (g i e).release = .held ∧ (g i e).line = false) → Bounds e →
      e.dor.running = true → e.mod.mode.active = true →
      Bounds (l.foldl (fun e i => e.setDoor i (g i e)) e) ∧
      (l.foldl (fun e i => e.setDoor i (g i e)) e).dor.running = true ∧
      (l.foldl (fun e i => e.setDoor i (g i e)) e).mod.mode.active = true ∧
      ∀ i, i ∈ l ∨ ((e.door i).release = .held ∧ (e.door i).line = false) →
        ((l.foldl (fun e i => e.setDoor i (g i e)) e).door i).release = .held ∧
        ((l.foldl (fun e i => e.setDoor i (g i e)) e).door i).line = false := by
    intro l
    induction l with
    | nil => intro e g _ hb hr hm; exact ⟨hb, hr, hm, fun i hi => hi.resolve_left (by simp)⟩
    | cons j l ih =>
      intro e g hg hb hr hm
      obtain ⟨k1, k2, k3, k4⟩ := ih (e.setDoor j (g j e)) g hg
        ⟨hb.ram, hb.requests, hb.rejections, hb.notices, hb.onDemand⟩ hr hm
      refine ⟨k1, k2, k3, fun i hi => k4 i ?_⟩
      rw [setDoor_door]
      by_cases hji : j = i
      · rw [if_pos hji]
        exact Or.inr ⟨(hg j e).1, by rw [(hg j e).1]; rfl⟩
      · rw [if_neg hji]
        rcases hi with hi | hi
        · rcases List.mem_cons.mp hi with hi | hi
          · exact absurd hi.symm hji
          · exact Or.inl hi
        · exact Or.inr hi
  obtain ⟨f1, f2, f3, f4⟩ := loop (List.finRange 4) a
    (fun i e => if configured e i then
      startDoor e (e.doorSettings i) (if download then 0 else (e.door i).obstructions)
    else DoorRec.resetValue)
    (fun i e => by split <;> exact ⟨rfl, rfl⟩) ha rfl hm
  have hf : Inv f := Bounds.inv f1 (f2.trans f3.symm) fun i => f4 i (Or.inl (List.mem_finRange i))
  clear_value f
  have hw : Inv w := inv_setInterlock _ (inv_setInterlock _ hf)
  clear_value w
  exact (near_telling new.bypassHeld (new.drivePermit || new.brakePermit) w).inv hw

theorem stopDoor_held (forget : Bool) (r : DoorRec) :
    (stopDoor forget r).release = .held ∧ (stopDoor forget r).line = false := ⟨rfl, rfl⟩

/-- DOR stops: every door is HELD. -/
theorem inv_dorStop (forget : Bool) (b : Bounds d) (hm : d.mod.mode.active = false) : Inv (dorStop forget d) := by
  unfold dorStop
  extract_lets a s w
  have na : Near d a := near_dorReportAbsent (Near.refl d)
  have ba : Bounds a := na.bounds b
  have hma : a.mod.mode.active = false := by rw [na.mode]; exact hm
  clear_value a
  refine inv_setInterlock _ (Bounds.inv ⟨ba.ram, ba.requests, ba.rejections, ba.notices, ba.onDemand⟩ hma.symm
    fun i => ?_)
  have : w.door i = stopDoor forget (a.door i) := by
    show (a.dor.doors.map (stopDoor forget))[i] = _
    simp [Dev.door]
  rw [this]
  exact stopDoor_held _ _

theorem inv_dorStandby (b : Bounds d) (hm : d.mod.mode.active = false) : Inv (dorStandby d) := by
  refine Bounds.inv ⟨b.ram, b.requests, b.rejections, b.notices, b.onDemand⟩ hm.symm fun i => ?_
  have : (dorStandby d).door i = stopDoor true (d.door i) := by
    show (d.dor.doors.map (stopDoor true))[i] = _
    simp [Dev.door]
  rw [this]
  exact stopDoor_held _ _

theorem inv_dorCycleBegin (h : Inv d) : Inv (dorCycleBegin d) := by
  have hd : ∀ i, (dorCycleBegin d).door i = { d.door i with obstructions := 0 } := fun i => by
    show (d.dor.doors.map fun r => { r with obstructions := 0 })[i] = _
    simp [Dev.door]
  refine ⟨h.ram, h.requests, h.rejections, h.notices, h.onDemand, fun i => ?_, fun i r => ?_, h.running⟩
  · rw [lineOn, hd]; exact h.line i
  · rw [hd] at r; exact h.released i r

theorem inv_writeRam (a : Nat) (bs : List Byte) (h : Inv d) : Inv (d.writeRam a bs) :=
  ⟨wf_writeRam d a bs h.ram, h.requests, h.rejections, h.notices, h.onDemand, h.line, h.released, h.running⟩

theorem inv_lnkTake (kind tag : Byte) (h : Inv d) (hl : d.lnk.requests.length < 4) : Inv (lnkTake kind tag d) :=
  ⟨h.ram, by simp [lnkTake]; omega, h.rejections, h.notices, h.onDemand, h.line, h.released, h.running⟩

theorem inv_setChan (c : Nat) (r : ChanRec) (h : Inv d) : Inv (Dev.setChan d c r) :=
  (near_setChan _ _ (Near.refl d)).inv h

theorem inv_fltReport (group : Nat) (index : Nat) (present : Bool) (h : Inv d) : Inv (fltReport group index present d) :=
  (near_fltReport _ _ _ (Near.refl d)).inv h

theorem inv_postSwitch (ch : Nat) (cause : SwitchCause) (h : Inv d) : Inv (postSwitch ch cause d) :=
  (near_postSwitch _ _ (Near.refl d)).inv h

theorem inv_qualityIf (ch : Nat) (old : Quality) (h : Inv d) : Inv (qualityIf ch old d) :=
  (near_qualityIf _ _ (Near.refl d)).inv h

theorem inv_conditionComplete (ch : Nat) (out : Conditioned) (h : Inv d) :
    Inv (conditionComplete ch out d) := by
  unfold conditionComplete
  iterate 12 all_goals try first
    | with_reducible assumption | (with_reducible apply inv_foldl; intro _ _ _)
    | with_reducible apply inv_chanUpdate | with_reducible apply inv_setChan
    | with_reducible apply inv_fltReport | with_reducible apply inv_postSwitch
    | with_reducible apply inv_qualityIf | split

theorem inv_supplyResult (ch : Nat) (raw : Nat) (h : Inv d) :
    Inv (supplyResult ch raw d) := by
  unfold supplyResult
  iterate 12 all_goals try first
    | with_reducible assumption | with_reducible apply inv_postSystem | with_reducible apply inv_chanUpdate
    | with_reducible apply inv_setChan | with_reducible apply inv_fltReport | with_reducible apply inv_qualityIf
    | split | (extract_lets +lift) | with_reducible apply inv_sig

theorem inv_pinResult (ch : Nat) (overVoltage : Bool) (h : Inv d) :
    Inv (pinResult ch overVoltage d) := by
  unfold pinResult
  iterate 12 all_goals try first
    | with_reducible assumption | with_reducible apply inv_chanUpdate | with_reducible apply inv_setChan
    | with_reducible apply inv_qualityIf | with_reducible apply inv_conditionComplete | split
    | (extract_lets +lift)

theorem inv_sigResult (ch : Nat) (raw : Nat) (overVoltage : Bool) (h : Inv d) :
    Inv (sigResult ch raw overVoltage d) := by
  unfold sigResult
  iterate 12 all_goals try first
    | with_reducible assumption | with_reducible apply inv_setChan | with_reducible apply inv_supplyResult
    | with_reducible apply inv_pinResult | split | (extract_lets +lift)

theorem inv_changeMany (n_ : Nat) (f : Nat → ChanRec → ChanRec) (updates : Nat → ChanRec → ChanRec → Bool) (h : Inv d) :
    Inv (changeMany n_ f updates d) := by
  unfold changeMany
  iterate 12 all_goals try first
    | with_reducible assumption | (with_reducible apply inv_forEach; intro _ _ _)
    | with_reducible apply inv_chanUpdate | with_reducible apply inv_setChan
    | with_reducible apply inv_qualityIf | split

theorem inv_sigAdcSet (h : Inv d) :
    Inv (sigAdcSet d) := by
  unfold sigAdcSet
  iterate 12 all_goals try first
    | with_reducible assumption | with_reducible apply inv_changeMany | with_reducible apply inv_sig

theorem inv_sigAdcClear (h : Inv d) :
    Inv (sigAdcClear d) := by
  unfold sigAdcClear
  iterate 12 all_goals try first
    | with_reducible assumption | with_reducible apply inv_changeMany

theorem inv_sigAge (channels : List Nat) (h : Inv d) :
    Inv (sigAge channels d) := by
  unfold sigAge
  iterate 12 all_goals try first
    | with_reducible assumption | with_reducible apply inv_changeMany

theorem inv_setPulse (i : PulseInput) (p : PulseState) (h : Inv d) : Inv (Dev.setPulse d i p) :=
  (near_setPulse _ _ (Near.refl d)).inv h

theorem inv_setStandstill (b : Bool) (h : Inv d) : Inv (setStandstill b d) :=
  (near_setStandstill _ (Near.refl d)).inv h

theorem inv_plsUpdate (i : PulseInput) (h : Inv d) :
    Inv (plsUpdate i d) := by
  unfold plsUpdate
  iterate 12 all_goals try first
    | with_reducible assumption | with_reducible apply inv_chanUpdate | with_reducible apply inv_setChan
    | with_reducible apply inv_qualityIf | with_reducible apply inv_setPulse
    | with_reducible apply inv_setStandstill | split

theorem inv_setScan (cls : ScanClass) (c : ClassState) (h : Inv d) : Inv (Dev.setScan d cls c) :=
  (near_setScan _ _ (Near.refl d)).inv h

theorem inv_seqGrantIfIdle (h : Inv d) : Inv (seqGrantIfIdle d) :=
  (near_seqGrantIfIdle (Near.refl d)).inv h

theorem inv_raiseScan (cls : ScanClass) (h : Inv d) : Inv (raiseScan cls d) :=
  (near_raiseScan _ (Near.refl d)).inv h

theorem inv_scanOverrun (cls : ScanClass) (h : Inv d) : Inv (scanOverrun cls d) :=
  (near_scanOverrun _ (Near.refl d)).inv h

theorem inv_grantAfterExpiry (h : Inv d) : Inv (grantAfterExpiry d) := by
  unfold grantAfterExpiry
  split
  · exact h
  · exact inv_seqGrantIfIdle h

theorem inv_scanExpire (cls : ScanClass) (h : Inv d) :
    Inv (scanExpire cls d) := by
  unfold scanExpire
  iterate 12 all_goals try first
    | with_reducible assumption | with_reducible apply inv_sigAge | with_reducible apply inv_setScan
    | with_reducible apply inv_grantAfterExpiry | with_reducible apply inv_raiseScan
    | with_reducible apply inv_scanOverrun | split | (extract_lets +lift)

theorem inv_judgeReference (code : Nat) (h : Inv d) :
    Inv (judgeReference code d) := by
  unfold judgeReference
  iterate 12 all_goals try first
    | with_reducible assumption | with_reducible apply inv_postSystem | with_reducible apply inv_wrnSystem
    | with_reducible apply inv_fltReport | with_reducible apply inv_sigAdcSet
    | with_reducible apply inv_sigAdcClear | split | (extract_lets +lift) | with_reducible apply inv_seq
  all_goals first | exact le_refl _

theorem inv_advanceScan (cls : ScanClass) (ch : Nat) (h : Inv d) : Inv (advanceScan cls ch d) :=
  (near_advanceScan _ _ (Near.refl d)).inv h

theorem inv_deliverScan (cls : ScanClass) (ch : Nat) (r : Nat × Bool) (h : Inv d) :
    Inv (deliverScan cls ch r d) := by
  unfold deliverScan
  iterate 12 all_goals try first
    | with_reducible assumption | with_reducible apply inv_sigResult | with_reducible apply inv_judgeReference
    | with_reducible apply inv_advanceScan | split

theorem inv_setConverter (c : Converter) (h : Inv d) : Inv (setConverter c d) :=
  (near_setConverter _ (Near.refl d)).inv h

theorem inv_seqGrant (h : Inv d) : Inv (seqGrant d) :=
  (near_seqGrant (Near.refl d)).inv h

theorem inv_deliverOnDemand (r : Nat × Bool) (h : Inv d) : Inv (deliverOnDemand r d) :=
  (near_deliverOnDemand _ (Near.refl d)).inv h

theorem inv_seqComplete (c : Conversion) (sample : Int) (peak : Int) (h : Inv d) :
    Inv (seqComplete c sample peak d) := by
  unfold seqComplete
  iterate 12 all_goals try first
    | with_reducible assumption | with_reducible apply inv_deliverScan | with_reducible apply inv_setConverter
    | with_reducible apply inv_seqGrant | with_reducible apply inv_deliverOnDemand | split

theorem inv_enterSweep (c : ModeCause) (b : Bounds d) : Inv (enterSweep c d) := by
  unfold enterSweep
  extract_lets a s b' g w
  have ha : Bounds a := b.modSet _ _
  have hma : a.mod.mode = .sweep := modSet_mode _ _ _
  have nw : Near a (gauInit true (plsInit false (sigInit b'))) :=
    near_gauInit _ (near_plsInit _ (near_sigInit (near_mod _ (Near.refl a) rfl)))
  have nf := near_fltReadSettings nw
  have hs : Inv (dorStart false (fltReadSettings g)) :=
    inv_dorStart false (nf.bounds ha) (by rw [nf.mode, hma]; rfl)
  exact (near_seqStart (near_lnkStartTimer (near_wrnStart (Near.refl _)))).inv hs

theorem inv_enterRunFresh (c : ModeCause) (b : Bounds d) : Inv (enterRunFresh c d) := by
  unfold enterRunFresh
  extract_lets a g w
  have ha : Bounds a := b.modSet _ _
  have hma : a.mod.mode = .run := modSet_mode _ _ _
  have nw : Near a (gauInit false (plsInit true (sigInit a))) :=
    near_gauInit _ (near_plsInit _ (near_sigInit (Near.refl a)))
  have nf := near_fltReadSettings nw
  have hs : Inv (dorStart true (fltReadSettings g)) :=
    inv_dorStart true (nf.bounds ha) (by rw [nf.mode, hma]; rfl)
  exact (near_seqStart (near_lnkStartTimer (near_wrnStart (Near.refl _)))).inv hs

theorem inv_enterRunReturned (b : Bounds d) : Inv (enterRunReturned d) := by
  unfold enterRunReturned
  extract_lets a g w
  have ha : Bounds a := b.modSet _ _
  have hma : a.mod.mode = .run := modSet_mode _ _ _
  have ng : Near a g := near_stoReturn (near_gauReturn (near_sigReturn (near_modReturn (Near.refl a))))
  have nw : Near a w := near_lnkStartTimer (near_fltReportIf _ 0x60 0 true ng)
  have hs : Inv (dorStart false w) := inv_dorStart false (nw.bounds ha) (by rw [nw.mode, hma]; rfl)
  exact (near_seqStart (near_wrnStart (Near.refl _))).inv hs

theorem inv_enterByOrigin (c : ModeCause) (b : Bounds d) : Inv (enterByOrigin c d) := by
  unfold enterByOrigin
  split
  · exact inv_enterSweep _ b
  · exact inv_enterRunFresh _ b

theorem inv_enterAwaiting (c : ModeCause) (b : Bounds d) : Inv (enterAwaiting c d) := by
  unfold enterAwaiting
  extract_lets a g w
  have ha : Bounds a := b.modSet _ _
  have hma : a.mod.mode = .awaitingImage := modSet_mode _ _ _
  have nw : Near a (wrnStop (gauEndOverrides a)) := near_wrnStop (near_gauEndOverrides (Near.refl a))
  have hs : Inv g := inv_dorStop true (nw.bounds ha) (by rw [nw.mode, hma]; rfl)
  clear_value g
  exact (near_lnkStopTimer (near_modClearSupply (near_gauStop _
    (near_plsStop (near_sigStop (near_seqStop (Near.refl g))))))).inv hs

theorem inv_loadingEnded (h : Inv d) : Inv (loadingEnded d) := by
  unfold loadingEnded
  extract_lets a
  have ha : Inv a := (near_loaderIdle (Near.refl d)).inv h
  clear_value a
  split
  · exact inv_enterSweep _ ha.bounds
  · exact inv_enterAwaiting _ (Inv.bounds (inv_cal _ ha rfl))

theorem inv_loaderQueue (st : LoaderState) (index : Nat) (op : JobOp) (h : Inv d) : Inv (loaderQueue st index op d) :=
  (near_loaderQueue _ _ _ (Near.refl d)).inv h

theorem inv_loaderSlots (h : Inv d) :
    Inv (loaderSlots d) := by
  unfold loaderSlots
  iterate 12 all_goals try first
    | with_reducible assumption | with_reducible apply inv_loadingEnded | with_reducible apply inv_loaderQueue
    | split | with_reducible apply inv_sto

theorem inv_loaderRing (h : Inv d) :
    Inv (loaderRing d) := by
  unfold loaderRing
  iterate 12 all_goals try first
    | with_reducible assumption | with_reducible apply inv_loaderQueue | with_reducible apply inv_loaderSlots
    | split

theorem inv_withdrawStore (h : Inv d) : Inv (withdrawStore d) :=
  (near_withdrawStore (Near.refl d)).inv h

theorem inv_loaderImage (h : Inv d) :
    Inv (loaderImage d) := by
  unfold loaderImage
  iterate 12 all_goals try first
    | with_reducible assumption | with_reducible apply inv_loaderQueue | with_reducible apply inv_loaderRing
    | with_reducible apply inv_withdrawStore | split | (extract_lets +lift) | with_reducible apply inv_cal
  all_goals first | exact le_refl _ | exact Nat.zero_le _ | rfl

theorem inv_loaderStart (h : Inv d) :
    Inv (loaderStart d) := by
  unfold loaderStart
  iterate 12 all_goals try first
    | with_reducible assumption | with_reducible apply inv_loaderQueue | with_reducible apply inv_loaderImage
    | split

theorem inv_beginLoading (begins : Bool) (h : Inv d) : Inv (beginLoading begins d) := by
  unfold beginLoading
  extract_lets a b
  have ha : Inv a := (near_plsStop (Near.refl d)).inv h
  have hb : Inv b := by
    show Inv (if begins then dorCycleBegin (gauCycleBegin (plsCycleBegin a)) else a)
    split
    · exact inv_dorCycleBegin ((near_gauCycleBegin (near_plsCycleBegin (Near.refl a))).inv ha)
    · exact ha
  clear_value b
  exact inv_loaderStart ((near_stoLoading (Near.refl b)).inv hb)

theorem inv_enterLoading (h : Inv d) (hm : d.mod.mode.active = false) : Inv (enterLoading d) :=
  inv_beginLoading _ (inv_modSet _ _ h (by rw [hm]; rfl))

theorem dorStandby_mod (d : Dev) : (dorStandby d).mod = d.mod := rfl

theorem inv_enterStandby (c : ModeCause) (b : Bounds d) : Inv (enterStandby c d) := by
  unfold enterStandby
  extract_lets a p q w
  have ha : Bounds a := b.modSet _ _
  have hma : a.mod.mode = .standby := modSet_mode _ _ _
  have np : Near a (gauStop false p) :=
    near_gauStop _ (near_plsStop (near_sigStop (near_seqStandby (Near.refl a))))
  have hs : Inv (dorStandby (gauStop false p)) := inv_dorStandby (np.bounds ha) (by rw [np.mode, hma]; rfl)
  have nw : Near (dorStandby (gauStop false p)) w :=
    near_lnkStandby (near_stoStandby (near_modClearSupply (Near.refl _)))
  have hmw : w.mod.mode.active = false := by
    rw [nw.mode, dorStandby_mod, np.mode, hma]; rfl
  split
  · exact inv_enterLoading (nw.inv hs) hmw
  · exact nw.inv hs

theorem inv_softResetState (h : Inv d) : Inv (softResetState d) := by
  refine Bounds.inv ⟨h.ram, by simp [softResetState, LnkState.resetValue], by simp [softResetState, LnkState.resetValue],
    by simp [softResetState, LnkState.resetValue], by simp [softResetState, SeqState.resetAt]⟩ rfl fun i => ?_
  have : (softResetState d).door i = DoorRec.resetValue := by
    show (Vector.replicate 4 DoorRec.resetValue)[i] = _
    simp
  rw [this]
  exact ⟨rfl, rfl⟩

theorem inv_firstMode (begins : Bool) (h : Inv d) (hm : d.mod.mode.active = false) : Inv (firstMode begins d) := by
  unfold firstMode
  split
  · refine inv_beginLoading _ ((near_postMode (Near.refl _)).inv ?_)
    exact ⟨h.ram, h.requests, h.rejections, h.notices, h.onDemand, h.line, h.released, h.running.trans hm⟩
  · exact (near_postMode (Near.refl _)).inv h

theorem inv_softReset (h : Inv d) : Inv (softReset d) := inv_firstMode _ (inv_softResetState h) rfl

theorem inv_powerOn (pin : Bool) : Inv (powerOn pin) := by
  refine inv_firstMode _ (Bounds.inv ⟨rfl, by simp [Dev.resetWith, LnkState.resetValue], by simp [Dev.resetWith, LnkState.resetValue],
    by simp [Dev.resetWith, LnkState.resetValue], by simp [Dev.resetWith, SeqState.resetAt]⟩ rfl fun i => ?_) rfl
  have : (Dev.resetWith pin).door i = DoorRec.resetValue := by
    show (Vector.replicate 4 DoorRec.resetValue)[i] = _
    simp
  rw [this]
  exact ⟨rfl, rfl⟩

theorem inv_flushEnd (limit : Bool) (h : Inv d) : Inv (flushEnd limit d) := by
  unfold flushEnd
  extract_lets s a
  have ha : Inv a := inv_mod _ h rfl
  clear_value a
  split
  · split
    · exact inv_softReset ((near_answerDeferred (Near.refl a)).inv ha)
    · exact inv_softReset ha
  · split
    · exact inv_enterRunReturned (Inv.bounds (inv_mod _ ha rfl))
    · exact inv_enterStandby _ ha.bounds

theorem inv_flushJudge (h : Inv d) :
    Inv (flushJudge d) := by
  unfold flushJudge
  iterate 12 all_goals try first
    | with_reducible assumption | with_reducible apply inv_flushEnd | split

theorem inv_enterSaving (b : Bounds d) : Inv (enterSaving d) := by
  unfold enterSaving
  extract_lets a s b' g w
  have ha : Bounds a := b.modSet _ _
  have hma : a.mod.mode = .saving := modSet_mode _ _ _
  have nw : Near a (wrnStop (gauEndOverrides b')) :=
    near_wrnStop (near_gauEndOverrides (near_mod _ (Near.refl a) rfl))
  have hs : Inv (dorStop false (wrnStop (gauEndOverrides b'))) :=
    inv_dorStop false (nw.bounds ha) (by rw [nw.mode, hma]; rfl)
  have hg : Inv g := (near_seqStop (Near.refl _)).inv hs
  clear_value g
  exact inv_flushJudge ((near_lnkStopTimer (near_fltSaving (near_plsAskWrite (near_gauSaving (Near.refl g))))).inv hg)

theorem inv_ignitionOffIdle (h : Inv d) : Inv (ignitionOffIdle d) := by
  unfold ignitionOffIdle
  extract_lets a
  have ha : Inv a := (near_stopLoader _ (Near.refl d)).inv h
  clear_value a
  split
  · exact ha
  · exact inv_enterStandby _ ha.bounds

theorem inv_ignitionAct (h : Inv d) : Inv (ignitionAct d) := by
  unfold ignitionAct
  split
  · exact inv_mod _ h rfl
  · split
    · exact h
    · split
      · split
        · rename_i hm
          exact inv_enterLoading h (by rw [hm]; rfl)
        all_goals exact h
      · split
        · exact inv_enterSaving h.bounds
        · exact inv_enterSaving h.bounds
        · exact inv_enterSaving h.bounds
        · exact inv_ignitionOffIdle h
        · exact inv_ignitionOffIdle h
        · exact h
        · exact h

theorem inv_ignitionExpire (h : Inv d) : Inv (ignitionExpire d) :=
  inv_ignitionAct ((near_postSystem (Near.refl _)).inv (inv_mod _ h rfl))

theorem inv_abortEnd (reloaded : Bool) (h : Inv d) : Inv (abortEnd reloaded d) := by
  unfold abortEnd
  split
  · extract_lets a b
    have ha : Inv a := (near_abortReply _ (Near.refl d)).inv h
    have hb : Inv b := by
      show Inv (if reloaded then stoCondition .unstored false a else a)
      split
      · exact (near_stoCondition _ _ (Near.refl a)).inv ha
      · exact ha
    exact inv_enterByOrigin _ hb.bounds
  · exact (near_abortReply _ (Near.refl d)).inv h

theorem inv_validateRam (h : Inv d) : Inv (validateRam d) :=
  (near_validateRam (Near.refl d)).inv h

theorem inv_abortRecheck (h : Inv d) :
    Inv (abortRecheck d) := by
  unfold abortRecheck
  iterate 12 all_goals try first
    | with_reducible assumption | with_reducible apply inv_abortEnd | with_reducible apply inv_validateRam

theorem inv_stoCondition (k : StorageCond) (b : Bool) (h : Inv d) : Inv (stoCondition k b d) :=
  (near_stoCondition _ _ (Near.refl d)).inv h

theorem inv_fetchEnded (h : Inv d) :
    Inv (fetchEnded d) := by
  unfold fetchEnded
  iterate 12 all_goals try first
    | with_reducible assumption | with_reducible apply inv_loaderRing | with_reducible apply inv_abortEnd
    | with_reducible apply inv_stoCondition | split

theorem inv_headerFailure (h : Inv d) : Inv (headerFailure d) :=
  (near_headerFailure (Near.refl d)).inv h

theorem inv_headerFetched (data : List Byte) (h : Inv d) :
    Inv (headerFetched data d) := by
  unfold headerFetched
  iterate 12 all_goals try first
    | with_reducible assumption | with_reducible apply inv_writeRam | with_reducible apply inv_loaderQueue
    | with_reducible apply inv_fetchEnded | with_reducible apply inv_headerFailure | split
    | (extract_lets +lift)

theorem inv_bodyFetched (k : Nat) (data : List Byte) (h : Inv d) :
    Inv (bodyFetched k data d) := by
  unfold bodyFetched
  iterate 12 all_goals try first
    | with_reducible assumption | with_reducible apply inv_writeRam | with_reducible apply inv_loaderQueue
    | with_reducible apply inv_validateRam | with_reducible apply inv_fetchEnded | split

theorem inv_verifyRead (k : Nat) (data : List Byte) (h : Inv d) :
    Inv (verifyRead k data d) := by
  unfold verifyRead
  iterate 12 all_goals try first
    | with_reducible assumption | with_reducible apply inv_loaderQueue | with_reducible apply inv_abortRecheck
    | split | (extract_lets +lift) | with_reducible apply inv_sto

theorem inv_takeSlots (stored : List (Option (List Byte))) (h : Inv d) : Inv (takeSlots stored d) :=
  (near_takeSlots _ (Near.refl d)).inv h

theorem inv_slotsRead (k : Nat) (result : Option (List Byte)) (h : Inv d) :
    Inv (slotsRead k result d) := by
  unfold slotsRead
  iterate 12 all_goals try first
    | with_reducible assumption | with_reducible apply inv_loadingEnded | with_reducible apply inv_loaderQueue
    | with_reducible apply inv_takeSlots | split | (extract_lets +lift) | with_reducible apply inv_sto

theorem inv_takeRing (slots : List RingSlot) (h : Inv d) : Inv (takeRing slots d) :=
  (near_takeRing _ (Near.refl d)).inv h

theorem inv_ringRead (result : Option (List Byte)) (h : Inv d) :
    Inv (ringRead result d) := by
  unfold ringRead
  iterate 12 all_goals try first
    | with_reducible assumption | with_reducible apply inv_loaderSlots | with_reducible apply inv_takeRing

theorem inv_loaderStopped (why : LoaderStop) (h : Inv d) : Inv (loaderStopped why d) := by
  unfold loaderStopped
  extract_lets a
  have ha : Inv a := (near_loaderIdle (Near.refl d)).inv h
  split
  · exact inv_enterStandby _ ha.bounds
  · exact ha

theorem inv_loaderRead (result : Option (List Byte)) (h : Inv d) :
    Inv (loaderRead result d) := by
  unfold loaderRead
  iterate 12 all_goals try first
    | with_reducible assumption | with_reducible apply inv_abortRecheck | with_reducible apply inv_fetchEnded
    | with_reducible apply inv_headerFailure | with_reducible apply inv_headerFetched
    | with_reducible apply inv_bodyFetched | with_reducible apply inv_verifyRead
    | with_reducible apply inv_slotsRead | with_reducible apply inv_ringRead
    | with_reducible apply inv_loaderStopped | split

theorem inv_takeNoSlots (h : Inv d) : Inv (takeNoSlots d) :=
  (near_takeNoSlots (Near.refl d)).inv h

theorem inv_probeJudged (present : Bool) (h : Inv d) :
    Inv (probeJudged present d) := by
  unfold probeJudged
  iterate 12 all_goals try first
    | with_reducible assumption | with_reducible apply inv_loaderImage | with_reducible apply inv_stoCondition
    | with_reducible apply inv_takeRing | with_reducible apply inv_loaderStopped
    | with_reducible apply inv_takeNoSlots | split | (extract_lets +lift) | with_reducible apply inv_sto

theorem inv_stoGrant (h : Inv d) : Inv (stoGrant d) :=
  (near_stoGrant (Near.refl d)).inv h

theorem inv_jobEnd (h : Inv d) :
    Inv (jobEnd d) := by
  unfold jobEnd
  iterate 12 all_goals try first
    | with_reducible assumption | with_reducible apply inv_flushJudge | with_reducible apply inv_stoGrant
    | with_reducible apply inv_sto

theorem inv_hostReadDone (h_ : HostRead) (result : Option (List Byte)) (h : Inv d) : Inv (hostReadDone h_ result d) :=
  (near_hostReadDone _ _ (Near.refl d)).inv h

theorem inv_readDone (j : Job) (result : Option (List Byte)) (h : Inv d) :
    Inv (readDone j result d) := by
  unfold readDone
  iterate 12 all_goals try first
    | with_reducible assumption | with_reducible apply inv_loaderRead | with_reducible apply inv_jobEnd
    | with_reducible apply inv_hostReadDone | split

theorem inv_faultWriteDone (ok : Bool) (w : FaultWrite) (h : Inv d) : Inv (faultWriteDone ok w d) :=
  (near_faultWriteDone _ _ (Near.refl d)).inv h

theorem inv_continueWrite (w : FaultWrite) (h : Inv d) : Inv (continueWrite w d) :=
  (near_continueWrite _ (Near.refl d)).inv h

theorem inv_faultJobDone (ok : Bool) (h : Inv d) :
    Inv (faultJobDone ok d) := by
  unfold faultJobDone
  iterate 12 all_goals try first
    | with_reducible assumption | with_reducible apply inv_stoCondition | with_reducible apply inv_jobEnd
    | with_reducible apply inv_faultWriteDone | with_reducible apply inv_continueWrite | split
    | (extract_lets +lift)

theorem inv_odometerDone (ok : Bool) (h : Inv d) : Inv (odometerDone ok d) :=
  (near_odometerDone _ (Near.refl d)).inv h

theorem inv_pageDone (ok : Bool) (p : Nat) (h : Inv d) : Inv (pageDone ok p d) :=
  (near_pageDone _ _ (Near.refl d)).inv h

theorem inv_writeDone (j : Job) (ok : Bool) (h : Inv d) :
    Inv (writeDone j ok d) := by
  unfold writeDone
  iterate 12 all_goals try first
    | with_reducible assumption | with_reducible apply inv_stoCondition | with_reducible apply inv_jobEnd
    | with_reducible apply inv_faultJobDone | with_reducible apply inv_odometerDone
    | with_reducible apply inv_pageDone | split

theorem inv_probeDone (present : Bool) (h : Inv d) :
    Inv (probeDone present d) := by
  unfold probeDone
  iterate 12 all_goals try first
    | with_reducible assumption | with_reducible apply inv_probeJudged | with_reducible apply inv_jobEnd

theorem inv_statusByte (j : Job) (status : Byte) (h : Inv d) : Inv (statusByte j status d) :=
  (near_statusByte _ _ (Near.refl d)).inv h

theorem inv_probeStatus (j : Job) (status : Byte) (h : Inv d) :
    Inv (probeStatus j status d) := by
  unfold probeStatus
  iterate 12 all_goals try first
    | with_reducible assumption | with_reducible apply inv_probeDone | with_reducible apply inv_statusByte
    | split

theorem inv_judge (f : Frame) {owner : Dev → Dev} (h : Inv d)
    (ho : admits d.mod.mode f.kind = true → Inv (owner d)) : Inv (judge f owner d) := by
  unfold judge
  split
  · exact (near_refuse _ _ (Near.refl d)).inv h
  split
  · exact (near_refuse _ _ (Near.refl d)).inv h
  split
  · exact (near_refuse _ _ (Near.refl d)).inv h
  split
  · exact (near_refuse _ _ (Near.refl d)).inv h
  · rename_i ha _
    exact ho (by simpa using ha)

theorem inv_frameActed (f : Frame) {owner : Dev → Dev} (h : Inv d)
    (ho : ∀ e, Inv e → admits e.mod.mode f.kind = true → Inv (owner e)) : Inv (frameActed f owner d) := by
  unfold frameActed
  split
  · exact h
  split
  · exact (near_lnkReject _ _ _ (Near.refl d)).inv h
  split
  · exact (near_lnkReject _ _ _ (Near.refl d)).inv h
  · exact inv_judge f (inv_lnkTake _ _ h (by omega)) (ho _ (inv_lnkTake _ _ h (by omega)))

theorem inv_onFrame (f : Frame) {owner : Dev → Dev} (h : Inv d)
    (ho : ∀ e, Inv e → admits e.mod.mode f.kind = true → Inv (owner e)) : Inv (onFrame f owner d) := by
  unfold onFrame
  split
  · exact (near_txStart (Near.refl _)).inv
      (inv_frameActed f ((near_frameSeen (near_rxHunt (Near.refl d))).inv h) ho)
  · exact h

theorem inv_rxAppend (bs : List Byte) {hand : Frame → Dev → Dev} (h : Inv d) (hh : ∀ f, Inv (hand f d)) :
    Inv (rxAppend bs hand d) := by
  unfold rxAppend
  split
  · exact (near_rxDiscard (Near.refl d)).inv h
  split
  · exact (near_rxKeep _ (Near.refl d)).inv h
  split
  · exact hh _
  · exact (near_rxDiscard (Near.refl d)).inv h

theorem inv_rxByte (b : Byte) (stopBit : Bool) {hand : Frame → Dev → Dev} (h : Inv d) (hh : ∀ f, Inv (hand f d)) :
    Inv (rxByte b stopBit hand d) := by
  unfold rxByte
  split
  · exact h
  split
  · split
    · exact (near_rxKeep _ (Near.refl d)).inv h
    · exact h
  · split
    · exact inv_rxAppend _ h hh
    · exact (near_rxDiscard (Near.refl d)).inv h

theorem inv_ownSampleNow (tag : Byte) (p : List Byte) (h : Inv d) : Inv (ownSampleNow tag p d) := by
  unfold ownSampleNow
  extract_lets channels a
  split
  · exact (near_refuse _ _ (Near.refl d)).inv h
  split
  · exact (near_refuse _ _ (Near.refl d)).inv h
  · rename_i hl
    have ha : Inv a := (near_lnkDefer _ (Near.refl d)).inv h
    refine (near_seqGrantIfIdle (Near.refl _)).inv
      ⟨ha.ram, ha.requests, ha.rejections, ha.notices, ?_, ha.line, ha.released, ha.running⟩
    show (d.seq.onDemand ++ demandEntries tag channels).length ≤ 8
    simp [demandEntries]
    omega

theorem inv_ownDoorRelease (tag door : Byte) (h : Inv d) (hm : d.mod.mode.active = true) :
    Inv (ownDoorRelease tag door d) := by
  unfold ownDoorRelease
  split
  · extract_lets i a
    split
    · have ha : Inv a := inv_dorRelease i h (by rw [h.running]; exact hm)
      exact (near_answer _ _ (Near.refl a)).inv ha
    · exact (near_refuse _ _ (Near.refl d)).inv h
  · exact (near_refuse _ _ (Near.refl d)).inv h

theorem inv_answer (tag : Byte) (payload : List Byte) (h : Inv d) : Inv (answer tag payload d) :=
  (near_answer _ _ (Near.refl d)).inv h

theorem inv_refuse (tag : Byte) (s : Status) (h : Inv d) : Inv (refuse tag s d) :=
  (near_refuse _ _ (Near.refl d)).inv h

theorem inv_ownDoorClose (tag : Byte) (door : Byte) (h : Inv d) :
    Inv (ownDoorClose tag door d) := by
  unfold ownDoorClose
  iterate 12 all_goals try first
    | with_reducible assumption | with_reducible apply inv_dorClose | with_reducible apply inv_answer
    | with_reducible apply inv_refuse | split | (extract_lets +lift)

theorem inv_ownServiceEnter (tag : Byte) (h : Inv d) : Inv (ownServiceEnter tag d) := by
  unfold ownServiceEnter
  split
  · exact (near_answer _ _ (Near.refl d)).inv h
  · rename_i hm
    split
    · exact (near_answer _ _ (Near.refl _)).inv (inv_runToService h hm)
    · exact (near_refuse _ _ (Near.refl d)).inv h
  all_goals exact (near_refuse _ _ (Near.refl d)).inv h

theorem inv_ownServiceExit (tag : Byte) (h : Inv d) : Inv (ownServiceExit tag d) := by
  unfold ownServiceExit
  split
  · rename_i hm
    exact (near_answer _ _ (Near.refl _)).inv (inv_serviceToRun _ h hm)
  · exact (near_answer _ _ (Near.refl d)).inv h
  all_goals exact (near_refuse _ _ (Near.refl d)).inv h

theorem inv_ownRestoreOutputs (tag : Byte) (h : Inv d) :
    Inv (ownRestoreOutputs tag d) := by
  unfold ownRestoreOutputs
  iterate 12 all_goals try first
    | with_reducible assumption | with_reducible apply inv_restoreSupply | with_reducible apply inv_answer
    | with_reducible apply inv_refuse | split

theorem inv_startResetFlush (h : Inv d) : Inv (startResetFlush d) :=
  (near_startResetFlush (Near.refl d)).inv h

theorem inv_ownReset (tag : Byte) (h : Inv d) :
    Inv (ownReset tag d) := by
  unfold ownReset
  iterate 12 all_goals try first
    | with_reducible assumption | with_reducible apply inv_answer | with_reducible apply inv_startResetFlush
    | split | (extract_lets +lift) | with_reducible apply inv_mod
  all_goals first | exact le_refl _ | exact Nat.zero_le _ | rfl

theorem inv_ownCalBegin (tag : Byte) (h : Inv d) : Inv (ownCalBegin tag d) := by
  unfold ownCalBegin
  split
  · split
    · exact (near_refuse _ _ (Near.refl d)).inv h
    · exact inv_enterAwaiting _ (Inv.bounds ((near_answer _ _ (Near.refl _)).inv (inv_cal _ h rfl)))
  · split
    · exact (near_refuse _ _ (Near.refl d)).inv h
    · exact (near_answer _ _ (Near.refl _)).inv (inv_cal _ h rfl)
  all_goals exact (near_refuse _ _ (Near.refl d)).inv h

theorem inv_inAwaiting (tag : Byte) {effect : Dev → Dev} (h : Inv d) (he : Inv (effect d)) :
    Inv (inAwaiting tag effect d) := by
  unfold inAwaiting
  split
  · exact (near_refuse _ _ (Near.refl d)).inv h
  split
  · exact (near_refuse _ _ (Near.refl d)).inv h
  · exact he

theorem inv_ownCalWrite (tag : Byte) (p : List Byte) (h : Inv d) : Inv (ownCalWrite tag p d) := by
  refine inv_inAwaiting tag h ?_
  dsimp only
  split
  · exact (near_refuse _ _ (Near.refl d)).inv h
  · exact (near_answer _ _ (Near.refl _)).inv (inv_writeRam _ _ h)

theorem inv_commitImage (tag : Byte) (h : Inv d) : Inv (commitImage tag d) := by
  unfold commitImage
  extract_lets a s b
  have ha : Inv a := (near_stoCondition _ _ (Near.refl d)).inv h
  have hb : Inv b := by
    show Inv (if a.sto.storage == .present then _ else a)
    split
    · exact (near_stoGrant (near_sto _ (Near.refl a))).inv ha
    · exact ha
  exact inv_enterByOrigin _ (Inv.bounds ((near_answer _ _ (Near.refl b)).inv hb))

theorem inv_ownCalCommit (tag : Byte) (h : Inv d) : Inv (ownCalCommit tag d) := by
  refine inv_inAwaiting tag h ?_
  dsimp only
  have hv : Inv (validateRam d) := (near_validateRam (Near.refl d)).inv h
  split
  · exact inv_commitImage tag hv
  · exact (near_answer _ _ (Near.refl _)).inv hv

theorem inv_ownCalAbort (tag : Byte) (h : Inv d) : Inv (ownCalAbort tag d) := by
  refine inv_inAwaiting tag h ?_
  dsimp only
  split
  · exact (near_abortVerify _ (near_lnkDefer _ (Near.refl d))).inv h
  · exact inv_abortRecheck (inv_sto _ h)

/-- The kinds of DOOR_COMMAND are admitted in the modes DOR runs in. -/
theorem active_of_admits (m : Mode) (h : admits m 0x09#8 = true) : m.active = true := by
  revert h
  cases m <;> decide

theorem inv_frameCommand (c : Instr) (h : Inv d) : Inv (frameCommand c d) := by
  cases c
  case keepAlive kind p => exact inv_onFrame _ h fun e he _ => he
  case unknownKind kind tag p => exact inv_onFrame _ h fun e he _ => (near_refuse _ _ (Near.refl e)).inv he
  case sampleNow tag p => exact inv_onFrame _ h fun e he _ => inv_ownSampleNow _ _ he
  case doorCommandRelease tag i r => exact inv_onFrame _ h fun e he ha => inv_ownDoorRelease _ _ he (active_of_admits _ ha)
  case doorCommandClose tag i r => exact inv_onFrame _ h fun e he _ => inv_ownDoorClose _ _ he
  case serviceEnter tag p => exact inv_onFrame _ h fun e he _ => inv_ownServiceEnter _ he
  case serviceExit tag p => exact inv_onFrame _ h fun e he _ => inv_ownServiceExit _ he
  case calBegin tag p => exact inv_onFrame _ h fun e he _ => inv_ownCalBegin _ he
  case calWrite tag p => exact inv_onFrame _ h fun e he _ => inv_ownCalWrite _ _ he
  case calCommit tag p => exact inv_onFrame _ h fun e he _ => inv_ownCalCommit _ he
  case calAbort tag p => exact inv_onFrame _ h fun e he _ => inv_ownCalAbort _ he
  case restoreOutputs tag p => exact inv_onFrame _ h fun e he _ => inv_ownRestoreOutputs _ he
  case reset tag p => exact inv_onFrame _ h fun e he _ => inv_ownReset _ he
  case identify tag p => exact inv_onFrame _ h fun e he _ => (near_ownIdentify _ (Near.refl e)).inv he
  case status tag p => exact inv_onFrame _ h fun e he _ => (near_ownStatus _ (Near.refl e)).inv he
  case subscribe tag p => exact inv_onFrame _ h fun e he _ => (near_ownSubscribe _ _ (Near.refl e)).inv he
  case readChannels tag p => exact inv_onFrame _ h fun e he _ => (near_ownReadChannels _ _ (Near.refl e)).inv he
  case readWarnings tag p => exact inv_onFrame _ h fun e he _ => (near_ownReadWarnings _ _ (Near.refl e)).inv he
  case ackWarnings tag p => exact inv_onFrame _ h fun e he _ => (near_ownAckWarnings _ _ (Near.refl e)).inv he
  case setLamps tag p => exact inv_onFrame _ h fun e he _ => (near_ownSetLamps _ _ (Near.refl e)).inv he
  case readDoors tag p => exact inv_onFrame _ h fun e he _ => (near_ownReadDoors _ (Near.refl e)).inv he
  case readGauges tag p => exact inv_onFrame _ h fun e he _ => (near_ownReadGauges _ (Near.refl e)).inv he
  case readOdometer tag p => exact inv_onFrame _ h fun e he _ => (near_ownReadOdometer _ (Near.refl e)).inv he
  case faultList tag p => exact inv_onFrame _ h fun e he _ => (near_ownFaultList _ _ (Near.refl e)).inv he
  case faultRead tag p => exact inv_onFrame _ h fun e he _ => (near_ownFaultRead _ _ (Near.refl e)).inv he
  case faultClearAll tag p => exact inv_onFrame _ h fun e he _ => (near_ownFaultClearAll _ (Near.refl e)).inv he
  case faultClearOne tag p => exact inv_onFrame _ h fun e he _ => (near_ownFaultClearOne _ _ (Near.refl e)).inv he
  case outputTestGauge tag p => exact inv_onFrame _ h fun e he _ => (near_ownTestGauge _ _ (Near.refl e)).inv he
  case outputTestLamp tag p => exact inv_onFrame _ h fun e he _ => (near_ownTestLamp _ _ (Near.refl e)).inv he
  case outputTestChime tag p => exact inv_onFrame _ h fun e he _ => (near_ownTestChime _ _ (Near.refl e)).inv he
  case calRead tag p => exact inv_onFrame _ h fun e he _ => (near_ownCalRead _ _ (Near.refl e)).inv he
  case readLamps tag p => exact inv_onFrame _ h fun e he _ => (near_ownReadLamps _ (Near.refl e)).inv he
  all_goals exact h

theorem inv_handFrame (f : Frame) (h : Inv d) : Inv (handFrame f d) := inv_frameCommand _ h

theorem inv_advanceTo (t : Nat) (h : Inv d) : Inv (Dev.advanceTo d t) :=
  (near_advanceTo _ (Near.refl d)).inv h

theorem inv_conversionEnd (sample : Int) (peak : Int) (h : Inv d) :
    Inv (conversionEnd sample peak d) := by
  unfold conversionEnd
  iterate 12 all_goals try first
    | with_reducible assumption | with_reducible apply inv_seqComplete | with_reducible apply inv_advanceTo
    | split

theorem inv_bulbEnd (h : Inv d) :
    Inv (bulbEnd d) := by
  unfold bulbEnd
  iterate 12 all_goals try first
    | with_reducible assumption | with_reducible apply inv_modSweepCheck | with_reducible apply inv_advanceTo
    | split | (extract_lets +lift) | with_reducible apply inv_mod
  all_goals first | exact le_refl _ | exact Nat.zero_le _ | rfl

theorem inv_readEnded (result : ReadEnd) (h : Inv d) :
    Inv (readEnded result d) := by
  unfold readEnded
  iterate 12 all_goals try first
    | with_reducible assumption | with_reducible apply inv_readDone | split

theorem inv_writeEnded (ok : Bool) (h : Inv d) :
    Inv (writeEnded ok d) := by
  unfold writeEnded
  iterate 12 all_goals try first
    | with_reducible assumption | with_reducible apply inv_writeDone | split

theorem inv_probeEnded (status : Byte) (h : Inv d) :
    Inv (probeEnded status d) := by
  unfold probeEnded
  iterate 12 all_goals try first
    | with_reducible assumption | with_reducible apply inv_probeStatus | split

theorem inv_txEnd (h : Inv d) : Inv (txEnd d) :=
  (near_txEnd (Near.refl d)).inv h

theorem inv_transmitEnd (h : Inv d) :
    Inv (transmitEnd d) := by
  unfold transmitEnd
  iterate 12 all_goals try first
    | with_reducible assumption | with_reducible apply inv_flushJudge | with_reducible apply inv_txEnd

theorem inv_gauUpdate (h : Inv d) : Inv (gauUpdate d) :=
  (near_told (told_gauUpdate (Told.refl 2 _)) (Near.refl d)).inv h

theorem inv_gaugeTick (h : Inv d) :
    Inv (gaugeTick d) := by
  unfold gaugeTick
  iterate 12 all_goals try first
    | with_reducible assumption | with_reducible apply inv_modSweepCheck | with_reducible apply inv_gauUpdate

theorem inv_gaugeRestart (g : Fin 6) (h : Inv d) : Inv (gaugeRestart g d) :=
  (near_told (told_gaugeRestart _ (Told.refl 2 _)) (Near.refl d)).inv h

theorem inv_restartEnd (g : Fin 6) (h : Inv d) :
    Inv (restartEnd g d) := by
  unfold restartEnd
  iterate 12 all_goals try first
    | with_reducible assumption | with_reducible apply inv_modSweepCheck | with_reducible apply inv_gaugeRestart

end Sys2Proof.Machine
end

