-- ==== Sys2Proof/Laws/PerInstr.lean ====
section
/-! SUPPORT. Laws of the commands as syntax, one lemma for each constructor: a well-formed command that is a frame is
read back from its frame. -/

namespace Sys2Proof.Laws.RoundTrip

/-- A well-formed command that is a frame decodes from that frame to itself. -/
def Statement (i : Instr) : Prop :=
  WellFormed i = true → ∀ f, encodeFrame i = some f → decodeFrame f = i

/-- A tag that is a request's is not 0. -/
theorem tag_ne {tag : Byte} {n : Nat} (h : requestOk tag n = true) : tag ≠ 0#8 := by
  simp only [requestOk, Bool.and_eq_true, bne_iff_ne] at h
  exact h.1

theorem powerOnReset (ignition : Bool) : Statement (.powerOnReset ignition) := by
  intro _ f hf
  cases hf

theorem ignPinChange (level : Bool) : Statement (.ignPinChange level) := by
  intro _ f hf
  cases hf

theorem ignitionDebounceExpiry : Statement .ignitionDebounceExpiry := by
  intro _ f hf
  cases hf

theorem bulbCheckExpiry : Statement .bulbCheckExpiry := by
  intro _ f hf
  cases hf

theorem flushTimerExpiry : Statement .flushTimerExpiry := by
  intro _ f hf
  cases hf

theorem undervoltageTimerExpiry : Statement .undervoltageTimerExpiry := by
  intro _ f hf
  cases hf

theorem scanPeriodExpiry (cls : ScanClass) : Statement (.scanPeriodExpiry cls) := by
  intro _ f hf
  cases hf

theorem settleTimerExpiry : Statement .settleTimerExpiry := by
  intro _ f hf
  cases hf

theorem conversionComplete (sample peak : Int) : Statement (.conversionComplete sample peak) := by
  intro _ f hf
  cases hf

theorem recoveryGapExpiry : Statement .recoveryGapExpiry := by
  intro _ f hf
  cases hf

theorem pulseEdge (input : PulseInput) (stamp : BitVec 32) : Statement (.pulseEdge input stamp) := by
  intro _ f hf
  cases hf

theorem pulseUpdate (input : PulseInput) : Statement (.pulseUpdate input) := by
  intro _ f hf
  cases hf

theorem gaugeUpdate : Statement .gaugeUpdate := by
  intro _ f hf
  cases hf

theorem pwmPeriodEnd (g : Fin 6) : Statement (.pwmPeriodEnd g) := by
  intro _ f hf
  cases hf

theorem coilCurrentLimit (g : Fin 6) (coil : Coil) (milliamps counts : Nat) : Statement (.coilCurrentLimit g coil milliamps counts) := by
  intro _ f hf
  cases hf

theorem restartTimerExpiry (g : Fin 6) : Statement (.restartTimerExpiry g) := by
  intro _ f hf
  cases hf

theorem holdTimerExpiry (g : Fin 6) : Statement (.holdTimerExpiry g) := by
  intro _ f hf
  cases hf

theorem warningDelayExpiry (w : Fin 64) : Statement (.warningDelayExpiry w) := by
  intro _ f hf
  cases hf

theorem flashPhaseExpiry : Statement .flashPhaseExpiry := by
  intro _ f hf
  cases hf

theorem diagnosisTimerExpiry (l : Fin 24) : Statement (.diagnosisTimerExpiry l) := by
  intro _ f hf
  cases hf

theorem lampOvercurrent (l : Fin 24) (milliamps sinceOn : Nat) : Statement (.lampOvercurrent l milliamps sinceOn) := by
  intro _ f hf
  cases hf

theorem retryTimerExpiry (l : Fin 24) : Statement (.retryTimerExpiry l) := by
  intro _ f hf
  cases hf

theorem chimePlayerStep : Statement .chimePlayerStep := by
  intro _ f hf
  cases hf

theorem chimeSilenceEnd : Statement .chimeSilenceEnd := by
  intro _ f hf
  cases hf

theorem doorHoldTimerExpiry (d : Fin 4) : Statement (.doorHoldTimerExpiry d) := by
  intro _ f hf
  cases hf

theorem closeTimeout (d : Fin 4) : Statement (.closeTimeout d) := by
  intro _ f hf
  cases hf

theorem brakeDelayExpiry : Statement .brakeDelayExpiry := by
  intro _ f hf
  cases hf

theorem storagePollTick (status : Byte) : Statement (.storagePollTick status) := by
  intro _ f hf
  cases hf

theorem readJobComplete (result : ReadEnd) : Statement (.readJobComplete result) := by
  intro _ f hf
  cases hf

theorem writeJobComplete (ok : Bool) : Statement (.writeJobComplete ok) := by
  intro _ f hf
  cases hf

theorem probeComplete (status : Byte) : Statement (.probeComplete status) := by
  intro _ f hf
  cases hf

theorem rxByte (b : Byte) (stopBit : Bool) : Statement (.rxByte b stopBit) := by
  intro _ f hf
  cases hf

theorem gapTimerExpiry : Statement .gapTimerExpiry := by
  intro _ f hf
  cases hf

theorem keepAlive (kind : Byte) (payload : List Byte) : Statement (.keepAlive kind payload) := by
  intro _ f hf
  cases hf
  rfl

theorem unknownKind (kind tag : Byte) (payload : List Byte) : Statement (.unknownKind kind tag payload) := by
  intro h f hf
  cases hf
  simp only [WellFormed, Bool.and_eq_true, Bool.not_eq_true'] at h
  obtain ⟨ht, hr⟩ := h
  unfold decodeFrame
  rw [if_neg (tag_ne ht)]
  unfold hasRow at hr
  simp only
  split <;> simp_all <;> (repeat' split) <;> simp_all

theorem linkTimerExpiry : Statement .linkTimerExpiry := by
  intro _ f hf
  cases hf

theorem transmitComplete : Statement .transmitComplete := by
  intro _ f hf
  cases hf

theorem identify (tag : Byte) (payload : List Byte) : Statement (.identify tag payload) := by
  intro h f hf
  cases hf
  exact if_neg (tag_ne h)

theorem status (tag : Byte) (payload : List Byte) : Statement (.status tag payload) := by
  intro h f hf
  cases hf
  exact if_neg (tag_ne h)

theorem subscribe (tag : Byte) (payload : List Byte) : Statement (.subscribe tag payload) := by
  intro h f hf
  cases hf
  exact if_neg (tag_ne h)

theorem readChannels (tag : Byte) (payload : List Byte) : Statement (.readChannels tag payload) := by
  intro h f hf
  cases hf
  exact if_neg (tag_ne h)

theorem sampleNow (tag : Byte) (payload : List Byte) : Statement (.sampleNow tag payload) := by
  intro h f hf
  cases hf
  exact if_neg (tag_ne h)

theorem readWarnings (tag : Byte) (payload : List Byte) : Statement (.readWarnings tag payload) := by
  intro h f hf
  cases hf
  exact if_neg (tag_ne h)

theorem ackWarnings (tag : Byte) (payload : List Byte) : Statement (.ackWarnings tag payload) := by
  intro h f hf
  cases hf
  exact if_neg (tag_ne h)

theorem setLamps (tag : Byte) (payload : List Byte) : Statement (.setLamps tag payload) := by
  intro h f hf
  cases hf
  exact if_neg (tag_ne h)

theorem doorCommandRelease (tag door : Byte) (rest : List Byte) : Statement (.doorCommandRelease tag door rest) := by
  intro h f hf
  cases hf
  exact if_neg (tag_ne h)

theorem doorCommandClose (tag door : Byte) (rest : List Byte) : Statement (.doorCommandClose tag door rest) := by
  intro h f hf
  cases hf
  exact if_neg (tag_ne h)

theorem readDoors (tag : Byte) (payload : List Byte) : Statement (.readDoors tag payload) := by
  intro h f hf
  cases hf
  exact if_neg (tag_ne h)

theorem readGauges (tag : Byte) (payload : List Byte) : Statement (.readGauges tag payload) := by
  intro h f hf
  cases hf
  exact if_neg (tag_ne h)

theorem readOdometer (tag : Byte) (payload : List Byte) : Statement (.readOdometer tag payload) := by
  intro h f hf
  cases hf
  exact if_neg (tag_ne h)

theorem faultList (tag : Byte) (payload : List Byte) : Statement (.faultList tag payload) := by
  intro h f hf
  cases hf
  exact if_neg (tag_ne h)

theorem faultRead (tag : Byte) (payload : List Byte) : Statement (.faultRead tag payload) := by
  intro h f hf
  cases hf
  exact if_neg (tag_ne h)

theorem faultClearAll (tag : Byte) (rest : List Byte) : Statement (.faultClearAll tag rest) := by
  intro h f hf
  cases hf
  exact if_neg (tag_ne h)

theorem faultClearOne (tag : Byte) (rest : List Byte) : Statement (.faultClearOne tag rest) := by
  intro h f hf
  cases hf
  exact if_neg (tag_ne h)

theorem serviceEnter (tag : Byte) (payload : List Byte) : Statement (.serviceEnter tag payload) := by
  intro h f hf
  cases hf
  exact if_neg (tag_ne h)

theorem serviceExit (tag : Byte) (payload : List Byte) : Statement (.serviceExit tag payload) := by
  intro h f hf
  cases hf
  exact if_neg (tag_ne h)

theorem outputTestGauge (tag : Byte) (rest : List Byte) : Statement (.outputTestGauge tag rest) := by
  intro h f hf
  cases hf
  exact if_neg (tag_ne h)

theorem outputTestLamp (tag : Byte) (rest : List Byte) : Statement (.outputTestLamp tag rest) := by
  intro h f hf
  cases hf
  exact if_neg (tag_ne h)

theorem outputTestChime (tag : Byte) (rest : List Byte) : Statement (.outputTestChime tag rest) := by
  intro h f hf
  cases hf
  exact if_neg (tag_ne h)

theorem calBegin (tag : Byte) (payload : List Byte) : Statement (.calBegin tag payload) := by
  intro h f hf
  cases hf
  exact if_neg (tag_ne h)

theorem calWrite (tag : Byte) (payload : List Byte) : Statement (.calWrite tag payload) := by
  intro h f hf
  cases hf
  exact if_neg (tag_ne h)

theorem calCommit (tag : Byte) (payload : List Byte) : Statement (.calCommit tag payload) := by
  intro h f hf
  cases hf
  exact if_neg (tag_ne h)

theorem calAbort (tag : Byte) (payload : List Byte) : Statement (.calAbort tag payload) := by
  intro h f hf
  cases hf
  exact if_neg (tag_ne h)

theorem calRead (tag : Byte) (payload : List Byte) : Statement (.calRead tag payload) := by
  intro h f hf
  cases hf
  exact if_neg (tag_ne h)

theorem restoreOutputs (tag : Byte) (payload : List Byte) : Statement (.restoreOutputs tag payload) := by
  intro h f hf
  cases hf
  exact if_neg (tag_ne h)

theorem reset (tag : Byte) (payload : List Byte) : Statement (.reset tag payload) := by
  intro h f hf
  cases hf
  exact if_neg (tag_ne h)

theorem readLamps (tag : Byte) (payload : List Byte) : Statement (.readLamps tag payload) := by
  intro h f hf
  cases hf
  exact if_neg (tag_ne h)

theorem lampSenseChange (l : Fin 24) (sense : LampSense) : Statement (.lampSenseChange l sense) := by
  intro _ f hf
  cases hf

end Sys2Proof.Laws.RoundTrip
end

