-- ==== Sys2Proof/Laws/Requests.lean ====
section
/-! SUPPORT. What the link does with a frame it serves: it takes the request and hands it to its owner; and what an
answer to it leaves. -/

namespace Sys2Proof.Machine

/-- What `served` says, condition by condition. -/
theorem served_iff {d : Dev} {f : Frame} : served d f = true ↔
    d.mod.mode.receives = true ∧ f.tag ≠ 0#8 ∧ tagInUse d f.tag = false ∧ d.lnk.requests.length < 4 ∧
      d.lnk.lost = false ∧ d.mod.resetPending = false ∧ inCatalogue f.kind = true ∧
      admits d.mod.mode f.kind = true ∧ lengthFits f.kind f.payload = true := by
  simp only [served, Bool.and_eq_true, decide_eq_true_eq, bne_iff_ne, Bool.not_eq_true']
  tauto

/-- A served frame reaches its owner in the state in which its request has been taken. -/
theorem onFrame_served {d : Dev} {f : Frame} (h : served d f = true) (owner : Dev → Dev) :
    onFrame f owner d = txStart (owner (taken f d)) := by
  obtain ⟨h1, h2, h3, h4, h5, h6, h7, h8, h9⟩ := served_iff.mp h
  have seen : frameSeen (rxHunt d) =
      { d with lnk := { d.lnk with
        assembly := none, gapTimer := none
        timer := if d.lnk.timer.isSome then some (d.clock + d.linkTimeout) else none } } := by
    unfold frameSeen rxHunt lnkStartTimer
    cases ht : d.lnk.timer
    · simp [h5, ht]
    · simp [h5, Dev.timerIn]; rfl
  unfold onFrame
  rw [if_pos h1, seen]
  unfold frameActed
  rw [if_neg h2]
  have hu : tagInUse { d with lnk := { d.lnk with
        assembly := none, gapTimer := none
        timer := if d.lnk.timer.isSome then some (d.clock + d.linkTimeout) else none } } f.tag = false := h3
  rw [hu, if_neg (by simp), if_neg (by simpa using h4)]
  unfold judge
  have e1 : (lnkTake f.kind f.tag { d with lnk := { d.lnk with
        assembly := none, gapTimer := none
        timer := if d.lnk.timer.isSome then some (d.clock + d.linkTimeout) else none } }) = taken f d := rfl
  rw [e1]
  have e2 : (taken f d).mod = d.mod := rfl
  rw [e2, h6, h7, h8, h9]
  rfl

/-- An answer to a request that stands last in the list, its tag carried by no other. -/
theorem answer_last {d e : Dev} {f : Frame} (hr : e.lnk.requests = d.lnk.requests ++ [⟨f.tag, f.kind, false⟩])
    (hu : tagInUse d f.tag = false) (hk : f.kind.toNat < 0x80) (p : List Byte) :
    lnkAnswer f.tag p e = replied f p e := by
  have hne : ∀ q ∈ d.lnk.requests, (q.tag == f.tag) = false := by
    intro q hq
    have := List.any_eq_false.mp hu q hq
    simpa using this
  have hfind : findRequest e f.tag = some ⟨f.tag, f.kind, false⟩ := by
    unfold findRequest
    rw [hr, List.find?_append, List.find?_eq_none.mpr (fun q hq => by rw [hne q hq]; simp)]
    simp
  have hmap : (e.lnk.requests.map fun q => if q.tag == f.tag then { q with deferred := false } else q) =
      e.lnk.requests := by
    rw [hr, List.map_append]
    congr 1
    · refine List.map_congr_left (g := id) (fun q hq => ?_) |>.trans (List.map_id _)
      rw [hne q hq]; rfl
    · simp
  unfold lnkAnswer replied
  rw [hfind]
  simp only [hmap, replyKind, if_pos hk]

/-- A kind of the catalogue is below 0x80. -/
theorem kind_small {k : Byte} (h : inCatalogue k = true) : k.toNat < 0x80 := by
  unfold inCatalogue at h
  simp only [Bool.and_eq_true, decide_eq_true_eq] at h
  omega

/-- A served request answered at once. -/
theorem answer_taken {d : Dev} {f : Frame} (h : served d f = true) (p : List Byte) :
    lnkAnswer f.tag p (taken f d) = replied f p (taken f d) := by
  obtain ⟨-, -, h3, -, -, -, h7, -, -⟩ := served_iff.mp h
  exact answer_last rfl h3 (kind_small h7) p

/-- A served request answered after an effect that leaves the request list alone. -/
theorem answer_after {d e : Dev} {f : Frame} (h : served d f = true) (hr : e.lnk.requests = (taken f d).lnk.requests)
    (p : List Byte) : lnkAnswer f.tag p e = replied f p e := by
  obtain ⟨-, -, h3, -, -, -, h7, -, -⟩ := served_iff.mp h
  exact answer_last (by rw [hr]; rfl) h3 (kind_small h7) p

end Sys2Proof.Machine
end

