-- ==== Sys2Proof/Tests/Slice0.lean ====
section
/-! SUPPORT. The model's own tests: what WellFormed refuses, values from the worked examples and tables of the spec, and
for every statement with hypotheses a witness that its hypotheses can be met together, clause by clause. -/

namespace Sys2Proof.Tests

open Sys2Proof Sys2Proof.Machine

-- Each proof below is a small evaluation; checked one after the other they need little memory.
set_option Elab.async false

/-! ## States to test on -/

def reset : Dev := State.reset.dev

/-- The part in a mode. -/
def inMode (m : Mode) : Dev := { reset with mod := { reset.mod with mode := m } }

/-- Nothing waits behind the part. -/
def alone (d : Dev) : State := { dev := d, pending := [] }

/-- The same part with the given calibration RAM. -/
def withRam (ram : List Host.Cell) (d : Dev) : Dev := { d with cal := { d.cal with ram := ram } }

/-- The part after a command, and as it was where the command gave no next state. -/
def after (c : Instr) (d : Dev) : Dev :=
  match exec c (alone d) with
  | .next t => t.dev
  | .fault _ | .refused _ => d

/-! ## What WellFormed refuses -/

theorem test_wellFormed_peak : WellFormed (.conversionComplete 2 1) = false := by decide
theorem test_wellFormed_readData : WellFormed (.readJobComplete (.delivered (List.replicate 129 0))) = false := by
  decide +kernel
theorem test_wellFormed_keepAlive : WellFormed (.keepAlive 1 (List.replicate 241 0)) = false := by decide +kernel
theorem test_wellFormed_tag : WellFormed (.identify 0 []) = false := by decide
theorem test_wellFormed_payload : WellFormed (.calWrite 1 (List.replicate 241 0)) = false := by decide +kernel
theorem test_wellFormed_doorPayload : WellFormed (.doorCommandClose 1 0 (List.replicate 239 0)) = false := by
  decide +kernel
theorem test_wellFormed_scopePayload : WellFormed (.faultClearAll 1 (List.replicate 240 0)) = false := by
  decide +kernel
theorem test_wellFormed_unknownKind : WellFormed (.unknownKind 0x1A 1 []) = false := by decide
theorem test_wellFormed_unknownAction : WellFormed (.unknownKind 0x09 1 [0, 1]) = false := by decide
theorem test_wellFormed_accepts : WellFormed (.unknownKind 0x09 1 [0, 2]) = true := by decide

/-! ## Frames (chapters 10 and 11) -/

/-- R197: "123456789" gives 0x29B1. -/
theorem test_crc16 : crc16 [0x31, 0x32, 0x33, 0x34, 0x35, 0x36, 0x37, 0x38, 0x39] = 0x29B1#16 := by decide +kernel
/-- Section 11.3: the OUTPUT_TEST of a lamp item. -/
theorem test_decodeFrame_outputTest : decodeFrame ⟨0x12, 5, [1, 3, 1, 0, 0]⟩ = .outputTestLamp 5 [3, 1, 0, 0] := by
  decide
/-- Section 11.3: an action that DOOR_COMMAND does not have. -/
theorem test_decodeFrame_action : decodeFrame ⟨0x09, 5, [0, 2]⟩ = .unknownKind 0x09 5 [0, 2] := by decide
/-- R185: a frame with tag 0. -/
theorem test_decodeFrame_keepAlive : decodeFrame ⟨0x02, 0, []⟩ = .keepAlive 0x02 [] := by decide
/-- No row of the table gives bits. -/
theorem test_decodeTableWord : decodeTableWord 8 1 = none := by decide

/-! ## Signals (chapter 2) -/

/-- Section 2.10: the ratiometric correction of raw 1390 at SSUP 3960. -/
theorem test_correct : correct 1390 3960 = 1404 := by decide
/-- Section 2.10: the curve at 1404, between (1400, 500) and (2600, 1000). -/
theorem test_curve : curve [(400, 0), (1400, 500), (2600, 1000)] 1404 = 502 := by decide
/-- Section 2.10: the filter goes from 128,000 to 128,032 and shows 500. -/
theorem test_filter : filterAcc true 4 128000 502 = 128032 ∧ filterValue 128032 = 500 ∧ filterValue 128140 = 501 := by
  decide

/-- Section 2.11: the switch on SP12, thresholds 400, 1400, 2200, 3600, set count 3, heal count limit 5, debounce 2. -/
def doorSwitchRam : List Host.Cell :=
  [(848, 1#8), (849, 1#8), (853, 20#8), (856, 1#8), (857, 0x90#8), (858, 5#8), (859, 0x78#8), (860, 8#8), (861, 0x98#8),
    (862, 0x0E#8), (863, 0x10#8), (864, 3#8), (865, 5#8), (870, 2#8)]

def converting (c : Nat) (src : Source) (d : Dev) : Dev :=
  { d with seq := { d.seq with converter := .converting ⟨c, src, .none, .low⟩ 10 } }

def setRecord (c : Nat) (f : ChanRec → ChanRec) (d : Dev) : Dev := d.setChan c (f (d.chan c))

/-- Section 2.11, 30 ms: the third WIRE_HIGH in a row is confirmed, and the value is held. -/
theorem test_wireHigh_confirmed :
    let d := converting 12 (.scan .fast) (withRam doorSwitchRam (setRecord 12 (fun r => { r with
      kind := .switch, value := 1, primed := true, notYet := false, pendingFault := some (.wireHigh, 2) }) (inMode .run)))
    let r := (after (.conversionComplete 4993750 4993750) d).chan 12
    r.raw = 3995 ∧ r.wiring = some .wireHigh ∧ r.pendingFault = none ∧ r.heal = some 0 ∧ r.value = 1 := by
  decide +kernel

/-! ## Pulses (chapter 3) -/

/-- Section 3.3: ppk 8,000, minPeriod 500, standstillTime 1,000, k 2. -/
def roadRam : List Host.Cell :=
  [(2896, 1#8), (2897, 0xF4#8), (2898, 3#8), (2899, 0xE8#8), (2900, 2#8), (2901, 0x1F#8), (2902, 0x40#8)]

/-- Section 3.3, the update at 20,000: one edge at 16,000 after the reference 4,000 gives 37.5 km/h, and acc 24,000. -/
theorem test_roadSpeed :
    let d := withRam roadRam (setRecord 44 (fun r => { r with primed := true, notYet := false }) (inMode .sweep))
    let e := after (.pulseUpdate .road) { d with pls := { d.pls with road :=
      ⟨some 16000, 1, some 16000, some 4000, 0, some 20000⟩ } }
    e.pls.road.raw = 375 ∧ (e.chan 44).acc = 24000 ∧ (e.chan 44).value = 94 ∧ e.pls.standstill = false ∧
      e.clock = 20000 := by
  decide +kernel

/-- Section 3.3, the update at 50,000: 22,000 us of silence bound the speed to 20.5 km/h. -/
theorem test_roadSilence :
    let d := withRam roadRam (setRecord 44 (fun r => { r with
      primed := true, notYet := false, acc := 55500, value := 217, instant := 375 }) (inMode .sweep))
    let e := after (.pulseUpdate .road) { d with pls := { d.pls with road :=
      ⟨some 28000, 0, some 28000, some 28000, 375, some 50000⟩ } }
    e.pls.road.raw = 205 ∧ (e.chan 44).acc = 54745 ∧ (e.chan 44).value = 214 := by
  decide +kernel

/-- Section 3.4: with frac at 7,950 and ppk 8,000 one edge adds one unit and leaves 50. -/
theorem test_distance :
    let d := withRam roadRam (inMode .run)
    let e := after (.pulseEdge .road 5) { d with pls := { d.pls with frac := 7950, distance := 12345799 } }
    e.pls.frac = 50 ∧ e.pls.distance = 12345800 := by
  decide +kernel

/-! ## Gauges (chapter 4) -/

/-- Section 4.4: the duties at 452, 1,237, 2,000 and 2,700. -/
theorem test_duties : [452, 1237, 2000, 2700].map (fun p => (sinDuty p, cosDuty p)) =
    [(709, 705), (832, -555), (-342, -940), (-1000, 0)] := by decide

/-- Section 4.7: the speedometer G0, curve (0, 0) to (1,400, 2,430), slew 60, dead band 4. -/
def speedoRam : List Host.Cell :=
  [(3024, 1#8), (3025, 44#8), (3026, 2#8), (3031, 5#8), (3032, 0x78#8), (3033, 9#8), (3034, 0x7E#8), (3051, 0x0A#8),
    (3052, 0x8C#8), (3056, 60#8), (3057, 4#8)]

/-- The same in pursuit of a target from a position. -/
def speedo (target position : Int) : Dev :=
  let d := withRam speedoRam (inMode .run)
  { d with gau := { d.gau with
    timer := some 0
    gauges := d.gau.gauges.set 0 { GaugeRec.resetValue with state := .tracking, target := target, position := position } } }

/-- Section 4.7: from 180 toward 371 by the slew, and at 340 a target of 344 is within the dead band. -/
theorem test_gaugePursuit :
    let moved := (after .gaugeUpdate (speedo 371 180)).gauge 0
    moved.position = 240 ∧ moved.sinDuty = 407 ∧ moved.cosDuty = 914 ∧
      ((after .gaugeUpdate (speedo 344 340)).gauge 0).position = 340 := by
  decide +kernel

/-- Section 4.5: a sixteenth terminated period in a row shuts the gauge down, and a fifteenth does not. -/
theorem test_overcurrent :
    let g (n : Nat) : GaugeRec := { GaugeRec.resetValue with state := .tracking, terminated := n, sinEnded := true }
    let d (n : Nat) : Dev := { inMode .run with gau := { reset.gau with gauges := reset.gau.gauges.set 0 (g n) } }
    let e := after (.pwmPeriodEnd 0) (d 15)
    (e.gauge 0).state = .shutdown ∧ (e.gauge 0).held = true ∧ (e.gauge 0).restartTimer = some 1000000 ∧
      (e.slot 0).record.map (·.code) = some 0x1000#16 ∧
      ((after (.pwmPeriodEnd 0) (d 14)).gauge 0).terminated = 15 := by
  decide +kernel

/-! ## Storage (chapter 8) and modes (chapter 9) -/

/-- R151: a twentieth poll that still finds the device busy fails the attempt, and the second attempt begins. -/
theorem test_poll :
    let job : Job := ⟨.odometer, .write 0 [], 1, 19, .polling 0, none, 0⟩
    let d : Dev := { inMode .run with sto := { reset.sto with job := some job } }
    (after (.storagePollTick 1) d).sto.job.map (fun j => (j.attempt, j.polls)) = some (2, 0) := by
  decide +kernel

/-- R170, R172: with the pin on, power-on leads to LOADING and the probe. -/
theorem test_powerOn :
    let e := after (.powerOnReset true) reset
    e.mod.mode = .loading ∧ e.pls.cycleOwed = true ∧ (e.sto.job.map (·.op)) = some .probe := by
  decide +kernel

/-- R184, R189, R198: the bytes of a SET_LAMPS frame with tag 5, taken one by one, bring the reply OK. -/
theorem test_setLampsFrame :
    let d := (frameBytes 0x08 5 [0, 0, 1]).foldl (fun d b => after (.rxByte b true) d) (inMode .run)
    d.lnk.tx.map (fun t => (t.bytes.take 5, t.bytes.length, t.answers)) =
      some ([0xA5#8, 1#8, 0x88#8, 5#8, 0#8], 7, some 5#8) ∧ (d.lamp 0).hostBit = true := by
  decide +kernel

/-! ## Witnesses: for each statement with hypotheses, what meets them, clause by clause -/

/-- RUN with door 0 configured and RELEASED at standstill. -/
def released : Dev :=
  { inMode .run with dor := { reset.dor with
      running := true, cfg := { reset.dor.cfg with count := 1 }, roadQuality := .good
      doors := reset.dor.doors.set 0 { DoorRec.resetValue with release := .released, line := true } } }

theorem witness_StepKeepsInv : Inv released ∧ step (alone released) = .next (alone released.tick) :=
  ⟨⟨by decide +kernel, by decide +kernel, by decide +kernel, by decide +kernel, by decide +kernel, by decide +kernel,
    by decide +kernel, by decide +kernel⟩, rfl⟩

theorem witness_ReleaseLineLaw : Inv released ∧ (released.door 0).line = true :=
  ⟨witness_StepKeepsInv.1, by decide +kernel⟩

/-- The part in a mode with MOD as given. -/
def withMod (f : ModState → ModState) (m : Mode) : Dev :=
  { inMode m with mod := f (inMode m).mod }

def someJob : Job := ⟨.odometer, .write 0x0E00 (List.replicate 16 0), 1, 0, .started, none, 0⟩

def withSto (f : StoState → StoState) (d : Dev) : Dev := { d with sto := f d.sto }
def withLnk (f : LnkState → LnkState) (d : Dev) : Dev := { d with lnk := f d.lnk }
def withWrn (f : WrnState → WrnState) (d : Dev) : Dev := { d with wrn := f d.wrn }
def withDor (f : DorState → DorState) (d : Dev) : Dev := { d with dor := f d.dor }
def withFlt (f : FltState → FltState) (d : Dev) : Dev := { d with flt := f d.flt }
def withSeq (f : SeqState → SeqState) (d : Dev) : Dev := { d with seq := f d.seq }
def withPls (f : PlsState → PlsState) (d : Dev) : Dev := { d with pls := f d.pls }
def withGau (f : GauState → GauState) (d : Dev) : Dev := { d with gau := f d.gau }

/-- A freeze frame's slot, and the record whose frame it is. -/
def storedFrame : FreezeFrame :=
  ⟨0x020C, [(0, .good, 1), (1, .good, 2), (2, .notYet, 0), (3, .stale, -1)], 0, 2400, .good, 100, .run,
    [.closed, .unknown, .unknown, .unknown]⟩
def storedFaultRecord : FaultRec := ⟨0x020C, true, .major, 1, 0, 0, 0, 0, 0, .stored, false⟩

/-- One record in slot 0. -/
def recorded (r : FaultRec) (d : Dev) : Dev := withFlt (fun s => { s with slots := s.slots.set 0 ⟨some r, false⟩ }) d

/-- The part in a mode at the end of the ignition debounce. -/
def debounced (m : Mode) (ignition pending : Bool) : Dev :=
  withMod (fun s => { s with debounceTimer := some 77, ignition := ignition, resetPending := pending }) m

theorem witness_IgnitionDebounceExpiryActs :
    (∀ m ∈ [Mode.standby, .loading, .awaitingImage, .sweep, .run, .service, .saving], ∀ i ∈ [true, false],
      ∀ p ∈ [true, false], (debounced m i p).mod.debounceTimer = some 77 ∧ (debounced m i p).mod.mode = m ∧
        (debounced m i p).mod.ignition = i ∧ (debounced m i p).mod.resetPending = p) ∧
    (let d := debounced .standby false false
    let e := { withSto (fun s => { s with storage := .present }) d with cal := { d.cal with valid := false } }
    d.sto.storeQueued = false ∧ d.sto.storage = .unprobed ∧ e.sto.storeQueued = false ∧ e.sto.storage = .present ∧
      e.cal.valid = false) ∧
    (debounced .awaitingImage true false).sto.job = none ∧
    (∃ j, (withSto (fun s => { s with job := some ⟨.loader, .read 0 16, 1, 0, .transfer, none, 0⟩ })
      (debounced .loading true false)).sto.job = some j ∧ j.requester = .loader) ∧
    (withSto (fun s => { s with job := some someJob }) (debounced .run true false)).sto.job.isSome = true ∧
    (let d := withPls (fun s => { s with ringTaken := true }) (debounced .sweep true false)
    d.pls.ringTaken = true ∧ d.sto.storage ≠ .absent ∧ d.pls.odoJob = .none) ∧
    (let d := withSto (fun s => { s with storage := .absent }) (debounced .service true false)
    d.sto.storage = .absent ∧ d.sto.job = none ∧ d.flt.queue = [] ∧ d.pls.odoJob ≠ .queued ∧
      d.sto.loader.queued = none ∧ d.sto.hostReads = [] ∧ d.sto.storeQueued = false ∧ d.lnk.requests = [] ∧
      d.lnk.replies = []) := by
  refine ⟨by decide +kernel, by decide +kernel, rfl, ⟨_, rfl, rfl⟩, rfl, by decide +kernel, by decide +kernel⟩

/-- R171, R178: with a reset pending the return of the ignition in SAVING is recorded. -/
theorem test_returnUnderReset :
    (after .ignitionDebounceExpiry (debounced .saving false true)).mod.returned = true ∧
      (after .ignitionDebounceExpiry (debounced .saving true true)).mod.returned = false := by
  decide +kernel

theorem witness_BulbCheckExpiryEndsSweep :
    let done (d : Dev) := ∀ g : Fin 6, (d.gaugeCfg g).enabled = true →
      (d.gauge g).phase = some .done ∨ (d.gauge g).state = .lockedOff
    let d := withMod (fun m => { m with bulb := .running 5 }) .sweep
    (d.mod.bulb = .running 5 ∧ d.mod.mode = .sweep ∧ done d) ∧
    ∃ e : Dev, e.mod.bulb = .running 5 ∧ e.mod.mode = .sweep ∧ ¬done e :=
  ⟨by decide +kernel, withRam speedoRam (withMod (fun m => { m with bulb := .running 5 }) .sweep), by decide +kernel⟩

theorem witness_FlushTimerExpiryLeavesFlush :
    (∃ d : Dev, ∃ t, d.mod.flushTimer = some t ∧ d.mod.resetPending = true) ∧
    (∃ d : Dev, ∃ t, d.mod.flushTimer = some t ∧ d.mod.resetPending = false ∧ d.mod.returned = true) ∧
    (∃ d : Dev, ∃ t, d.mod.flushTimer = some t ∧ d.mod.resetPending = false ∧ d.mod.returned = false ∧
      d.mod.ignition = false) :=
  ⟨⟨withMod (fun m => { m with flushTimer := some 0, resetPending := true }) .run, 0, by decide⟩,
    ⟨withMod (fun m => { m with flushTimer := some 0, returned := true }) .saving, 0, by decide⟩,
    ⟨withMod (fun m => { m with flushTimer := some 0 }) .saving, 0, by decide⟩⟩

theorem witness_UndervoltageTurnsSupplyOff :
    ∃ d : Dev, ∃ t, d.mod.uvTimer = some t ∧ d.mod.undervolt = false ∧ d.mod.supply = .on :=
  ⟨withMod (fun m => { m with uvTimer := some 100000 }) .run, 100000, by decide⟩

theorem witness_ScanExpiryRequestsAndAges :
    (∃ d : Dev, (d.scan .fast).timer = some 0 ∧ (d.scan .fast).request = true) ∧
    (∃ d : Dev, (d.scan .fast).timer = some 0 ∧ (d.scan .fast).request = false ∧ (d.scan .fast).set = []) ∧
    (∃ d : Dev, (d.scan .fast).timer = some 0 ∧ (d.scan .fast).request = false ∧ (d.scan .fast).set = [3, 43] ∧
      d.seq.converter = .idle) :=
  ⟨⟨withSeq (fun s => { s with fast := { s.fast with timer := some 0, request := true } }) reset, by decide⟩,
    ⟨withSeq (fun s => { s with fast := { s.fast with timer := some 0 } }) reset, by decide⟩,
    ⟨withSeq (fun s => { s with converter := .idle, fast := { s.fast with timer := some 0, set := [3, 43] } }) reset,
      by decide⟩⟩

theorem witness_ConverterSettlesAndGrants :
    (∃ d : Dev, ∃ c t, d.seq.converter = .settling c t) ∧ reset.seq.converter = .recovering 50 ∧
    (∃ d : Dev, d.seq.converter = .recovering 0 ∧ d.seq.medium.position = some 3) ∧
    (∃ d : Dev, ∃ q, d.seq.converter = .recovering 0 ∧ d.seq.fast.position = none ∧ d.seq.medium.position = none ∧
      d.seq.slow.position = none ∧ d.seq.onDemand.find? (·.result.isNone) = some q) :=
  ⟨⟨withSeq (fun s => { s with converter := .settling ⟨0, .onDemand, .none, .low⟩ 20 }) reset,
      ⟨0, .onDemand, .none, .low⟩, 20, by decide⟩, by decide,
    ⟨withSeq (fun s => { s with converter := .recovering 0, medium := { s.medium with position := some 3 } }) reset,
      by decide⟩,
    ⟨withSeq (fun s => { s with converter := .recovering 0, onDemand := [⟨1, 2, none⟩] }) reset, ⟨1, 2, none⟩,
      by decide⟩⟩

theorem witness_OnDemandResultIsAnswered :
    ∃ d : Dev, ∃ c t q r, d.seq.converter = .converting c t ∧ c.source = .onDemand ∧ c.channel = 39 ∧ d.seq.onDemand = [q] ∧
      q.result = none ∧ d.lnk.requests = [r] ∧ r.tag = q.tag ∧ r.kind = 0x05#8 :=
  ⟨withLnk (fun l => { l with requests := [⟨5, 0x05, true⟩] })
      (withSeq (fun s => { s with onDemand := [⟨5, 39, none⟩] }) (converting 39 .onDemand (inMode .run))),
    ⟨39, .onDemand, .none, .low⟩, 10, ⟨5, 39, none⟩, ⟨5, 0x05, true⟩, by decide⟩

/-- The codes 1,979 and 2,021 are just outside the window of REFCHK, 1,980 and 2,020 just within. REFCHK is the last of
its set, the tenth scan on time is awaited, and the first record of 0x6102 is ACTIVE. -/
theorem witness_ReferenceCheckJudgesAdc :
    internalCode 43 2473750 = 1979 ∧ internalCode 43 2475000 = 1980 ∧ internalCode 43 2525000 = 2020 ∧
    internalCode 43 2526250 = 2021 ∧
    ∀ (fault late held : Bool) (refs : Nat), ∃ d : Dev, ∃ c t, d.seq.converter = .converting c t ∧
      c.source = .scan .slow ∧ c.channel = 43 ∧ d.seq.adcFault = fault ∧ d.seq.goodRefs = refs ∧
      d.seq.slow.set = [42] ++ [43] ∧ d.seq.slow.late = late ∧ d.seq.slow.held = held ∧ min 10 (d.seq.slow.onTime + 1) = 10 ∧
      (d.slot 0).record = some { storedFaultRecord with code := 0x6102 } :=
  ⟨by decide, by decide, by decide, by decide, fun fault late held refs =>
    ⟨recorded { storedFaultRecord with code := 0x6102 } (withSeq (fun s => { s with
        adcFault := fault, goodRefs := refs
        slow := { s.slow with set := [42, 43], late := late, held := held, onTime := 9 } })
        (converting 43 (.scan .slow) (inMode .run))),
      ⟨43, .scan .slow, .none, .low⟩, 10, rfl, rfl, rfl, rfl, rfl, rfl, rfl, rfl, rfl, rfl⟩⟩

/-- R7: the tenth scan on time ends the overrun fault. -/
theorem test_overrunCleared :
    let d := recorded { storedFaultRecord with code := 0x6102 } (withSeq (fun s => { s with
      slow := { s.slow with set := [43], request := true, position := some 43, held := true, onTime := 9 } })
      (converting 43 (.scan .slow) (inMode .run)))
    let e := after (.conversionComplete 2500000 2500000) d
    e.seq.slow.held = false ∧ e.seq.slow.onTime = 10 ∧ e.seq.slow.request = false ∧
      (e.slot 0).record.map (·.active) = some false := by
  decide +kernel

/-- R5, R8: a MEDIUM expiry taken before the FAST one of the same instant leaves the grant to FAST. -/
theorem test_coincidentExpiries :
    let d := withSeq (fun s => { s with
      converter := .idle, fast := { s.fast with timer := some 50000, set := [3] }
      medium := { s.medium with timer := some 50000, set := [4] } }) (inMode .run)
    let e := after (.scanPeriodExpiry .fast) (after (.scanPeriodExpiry .medium) d)
    (match e.seq.converter with
      | .settling c _ => c.channel
      | .idle | .converting _ _ | .recovering _ => 99) = 3 := by
  decide +kernel

/-- Section 2.10: the sender on SP7, ratiometric, k 4, t1 200 and t4 3,800. -/
def senderRam : List Host.Cell :=
  [(529, 1#8), (533, 20#8), (534, 1#8), (537, 200#8), (542, 0x0E#8), (543, 0xD8#8), (544, 3#8), (545, 5#8), (549, 4#8),
    (551, 3#8), (552, 1#8), (553, 0x90#8), (556, 5#8), (557, 0x78#8), (558, 1#8), (559, 0xF4#8), (560, 0x0A#8),
    (561, 0x28#8), (562, 3#8), (563, 0xE8#8)]

def sender : Dev :=
  let d := converting 7 (.scan .slow) (withRam senderRam (inMode .run))
  { d with sig := { d.sig with refSsup := some 3960 } }

/-- The hypotheses at the sender of section 2.10, and at a pin that is not ratiometric with its code at t1. -/
theorem witness_AnalogScanResultIsUsed :
    (let p := sender.pinCfg 7
    let r := sender.chan 7
    let code := min 4095 ((pinCode .low 1737500 * 4000 + 1980) / 3960)
    sender.seq.converter = .converting ⟨7, .scan .slow, .none, .low⟩ 10 ∧ r.adcFault = false ∧ p.switch = false ∧
      overVoltage .low 1737500 1737500 = false ∧ r.wiring = none ∧ p.ratiometric = true ∧
      sender.sig.refSsup = some 3960 ∧ sender.sig.supplyFault = false ∧ p.t1 ≤ code ∧ code < p.t4) ∧
    (let d := converting 7 (.scan .slow) (withRam (senderRam.filter (·.1 != 534)) (inMode .run))
    let p := d.pinCfg 7
    p.ratiometric = false ∧ p.switch = false ∧ p.t1 = pinCode .low 250000 ∧ p.t1 < p.t4 ∧
      overVoltage .low 250000 5200000 = false ∧ (d.chan 7).wiring = none ∧ (d.chan 7).adcFault = false) := by
  decide +kernel

/-- Section 2.10: the first of the results. -/
theorem test_fuelSender :
    let d := setRecord 7 (fun r => { r with primed := true, notYet := false, acc := 128000, value := 500 }) sender
    let r := (after (.conversionComplete 1737500 1737500) d).chan 7
    r.raw = 1390 ∧ r.corrected = 1404 ∧ r.instant = 502 ∧ r.acc = 128032 ∧ r.value = 500 := by
  decide +kernel

/-- The switch of section 2.11 primed, at the greatest active and the least inactive code, and just below t1. -/
def doorSwitch : Dev :=
  converting 12 (.scan .fast) (withRam doorSwitchRam (setRecord 12 (fun r => { r with
    kind := .switch, primed := true, notYet := false }) (inMode .run)))

theorem witness_SwitchScanResultIsDebounced :
    let p := doorSwitch.pinCfg 12
    let r := doorSwitch.chan 12
    r.adcFault = false ∧ p.switch = true ∧ p.ratiometric = false ∧ overVoltage .low 2750000 2750000 = false ∧
      r.wiring = none ∧ r.primed = true ∧
      (p.t1 ≤ pinCode .low 1748750 ∧ pinCode .low 1748750 + 1 = p.t2 ∧ p.t2 < p.t4) ∧
      (p.t2 ≤ pinCode .low 2750000 ∧ p.t3 = pinCode .low 2750000 ∧ p.t3 < p.t4) := by
  decide +kernel

/-- The switch's code just below t1, with no fault and with one confirmed; of a sender a code at t1 with a fault
confirmed, below the heal count limit and at it; a replacement due and not due, and a healing. -/
theorem witness_WireLowIsCountedAndConfirmed :
    (∀ x ∈ [none, some WiringFault.wireLow, some .wireHigh],
      let d := setRecord 12 (fun r => { r with wiring := x }) doorSwitch
      d.seq.converter = .converting ⟨12, .scan .fast, .none, .low⟩ 10 ∧ (d.chan 12).adcFault = false ∧
        (d.pinCfg 12).ratiometric = false ∧ overVoltage .low 498750 498750 = false ∧ (d.chan 12).wiring = x ∧
        pinCode .low 498750 + 1 = (d.pinCfg 12).t1) ∧
    (let d := setRecord 7 (fun r => { r with wiring := some .wireHigh, heal := some 2 })
      (converting 7 (.scan .slow) (withRam (senderRam.filter (·.1 != 534)) (inMode .run)))
    let p := d.pinCfg 7
    p.ratiometric = false ∧ p.switch = false ∧ p.t1 = pinCode .low 250000 ∧ p.t1 < p.t4 ∧ (d.chan 7).heal.getD 0 + 1 < p.healLimit ∧
      overVoltage .low 250000 250000 = false ∧ (d.chan 7).wiring = some .wireHigh ∧ (d.chan 7).adcFault = false ∧
      p.healLimit ≤ 4 + 1) ∧
    (let p := doorSwitch.pinCfg 12
    let r (n : Nat) := { doorSwitch.chan 12 with
      wiring := some .wireHigh, pendingFault := some (.wireLow, n), heal := some 4 }
    (r 1).wiring = some .wireHigh ∧ p.setCount ≤ pendingCount (r 2) .wireLow ∧ pendingCount (r 1) .wireLow < p.setCount ∧
      p.healLimit ≤ (r 1).heal.getD 0 + 1) := by
  decide +kernel

/-- R31, section 2.11: a third WIRE_LOW in a row replaces a confirmed WIRE_HIGH. -/
theorem test_wiringReplaced :
    let d := setRecord 12 (fun r => { r with
      wiring := some .wireHigh, heal := some 1, pendingFault := some (.wireLow, 2) }) doorSwitch
    let r := (after (.conversionComplete 0 0) d).chan 12
    r.wiring = some .wireLow ∧ r.pendingFault = none ∧ r.heal = some 0 := by
  decide +kernel

/-- An edge just the minimum period after the last is taken, in RUN. A kilometre is reached. -/
theorem witness_PulseEdgeIsCaptured :
    let d := withPls (fun s => { s with
      road := { s.road with lastEdge := some 100#32 }, ringTaken := true, frac := 7900, distance := 99 })
        (withRam roadRam (inMode .run))
    d.mod.mode = .run ∧ d.pls.road.lastEdge = some 100#32 ∧
      (d.pulseCfg .road).minPeriod = ((600#32 : BitVec 32) - 100#32).toNat ∧
      d.pls.distance / 100 < min 4294967295 (d.pls.distance + (d.pls.frac + 100) / (d.pulseCfg .road).perUnit) / 100 ∧
      d.pls.ringTaken = true ∧ d.sto.storage ≠ .absent ∧ reset.mod.mode = .standby ∧
      (d.pulse .engine).lastEdge = none := by
  decide +kernel

theorem witness_PulseUpdateComputesSpeed :
    ∀ i : PulseInput, ∃ d : Dev, ∃ t ref last, (d.pulse i).timer = some t ∧ (d.pulse i).count ≠ 0 ∧
      (d.pulse i).tRef = some ref ∧ (d.pulse i).tLast = some last :=
  fun i => ⟨reset.setPulse i ⟨some 16000, 1, some 16000, some 4000, 0, some 20000⟩, 20000, 4000, 16000, by
    cases i <;> decide⟩

/-- Silence of just the standstill time, and of one microsecond less. -/
theorem witness_PulseSilenceReachesStandstill :
    let d (last : BitVec 32) := withPls (fun s => { s with
      road := ⟨some last, 0, some last, some last, 375, some 1010000⟩ }) (withRam roadRam (inMode .run))
    (∀ last, (d last).pls.road.timer = some 1010000 ∧ (d last).pls.road.count = 0 ∧
      (d last).pls.road.lastEdge = some last) ∧
    ((d 0).pulseCfg .road).standstill = (BitVec.ofNat 32 1010000 - 10000#32).toNat ∧
    (BitVec.ofNat 32 1010000 - 10001#32).toNat < ((d 0).pulseCfg .road).standstill :=
  ⟨fun _ => ⟨rfl, rfl, rfl⟩, by decide +kernel⟩

theorem witness_GaugeUpdatePursuesTargets :
    let d := speedo 371 180
    d.gau.timer = some 0 ∧ d.mod.mode = .run ∧ (d.gauge 0).state = .tracking ∧ (d.gauge 1).state = .off := by
  decide +kernel

theorem witness_GaugeSweepRisesHoldsFalls :
    let d := withGau (fun s => { timer := some 0, gauges := s.gauges.set 0 { GaugeRec.resetValue with
      state := .sweep, phase := some .holding, holdTimer := some 7 } })
        (withMod (fun m => { m with bulb := .running 9 }) .sweep)
    (d.gauge 0).state = .sweep ∧ d.gau.timer = some 0 ∧ d.mod.mode = .sweep ∧ d.mod.bulb = .running 9 ∧
      (d.gauge 0).holdTimer = some 7 := by
  decide +kernel

/-- A gauge in TRACKING with a SIN pulse of 707 counts. -/
def pulsing (terminated : Nat) (ended : Bool) : Dev :=
  let g : GaugeRec := { GaugeRec.resetValue with
    state := .tracking, pwm := some (707, -41), terminated := terminated, sinEnded := ended }
  { inMode .run with gau := { reset.gau with gauges := reset.gau.gauges.set 0 g } }

/-- The same after a restart, with its over-current held and recorded, after some clean periods. -/
def clearing (clean : Nat) (ended : Bool) : Dev :=
  let s := pulsing 3 ended
  recorded { storedFaultRecord with code := 0x1000 } { s with gau := { s.gau with
    gauges := s.gau.gauges.set 0 { s.gauge 0 with held := true, clean := some clean } } }

/-- The pulse is ended at 41 counts by 251 mA, not at 40 counts nor by 250 mA; and with the fault held the fifteenth and
the sixteenth clean period. -/
theorem witness_CoilCurrentShutsGaugeDown :
    let ends (duty : Int) (ended : Bool) (milliamps counts : Nat) : Prop :=
      ended = false ∧ 40 < counts ∧ counts < duty.natAbs ∧ 250 < milliamps
    let r := (pulsing 0 false).gauge 0
    (r.pwm = some (707, -41) ∧ ends 707 r.sinEnded 251 41 ∧ ¬ends 707 r.sinEnded 250 41 ∧
      ¬ends 707 r.sinEnded 251 40 ∧ ¬ends (-41) r.cosEnded 251 41 ∧ r.state.driven = true ∧ r.held = false ∧
      r.clean = none ∧ r.sinEnded = false ∧ r.cosEnded = false) ∧
    (reset.gauge 0).state.driven = false ∧
    (((pulsing 14 true).gauge 0).sinEnded = true ∧ ((pulsing 14 true).gauge 0).terminated + 1 < 16) ∧
    (((pulsing 15 true).gauge 0).sinEnded = true ∧ 16 ≤ ((pulsing 15 true).gauge 0).terminated + 1) ∧
    (∀ n ∈ [14, 15], ∀ ended ∈ [true, false],
      let q := (clearing n ended).gauge 0
      q.state.driven = true ∧ q.held = true ∧ q.clean = some n ∧ q.sinEnded = ended ∧ q.cosEnded = false ∧
        q.terminated + 1 < 16) ∧
    ∀ w : Fin 64, ((clearing 15 false).wrn.cfg[w]).kind ≠ .gauge := by
  decide +kernel

/-- R65: the sixteenth clean period in a row ends the fault, and the fifteenth does not. -/
theorem test_gaugeFaultCleared :
    let e := after (.pwmPeriodEnd 0) (clearing 15 false)
    (e.gauge 0).held = false ∧ (e.gauge 0).clean = none ∧ (e.slot 0).record.map (·.active) = some false ∧
      ((after (.pwmPeriodEnd 0) (clearing 14 false)).gauge 0).clean = some 15 := by
  decide +kernel

theorem witness_RestartExpiryRestartsOrLocks :
    let d (restarts : Nat) : Dev := setRecord 44 (fun r => { r with notYet := false })
      (withGau (fun s => { s with gauges := s.gauges.set 0 { GaugeRec.resetValue with
        state := .shutdown, restartTimer := some 5, restarts := restarts } })
        (withRam (speedoRam ++ [(3059, 1#8)]) (inMode .service)))
    ((d 2).gauge 0).restartTimer = some 5 ∧ ((d 2).gauge 0).state = .shutdown ∧ (d 2).mod.mode = .service ∧
      ((d 2).gaugeCfg 0).autoRestart = true ∧ ((d 2).gauge 0).restarts < 3 ∧ ((d 2).gauge 0).overrideAngle = none ∧
      ((d 2).chan ((d 2).gaugeCfg 0).source).isGood = true ∧ ¬((d 3).gauge 0).restarts < 3 ∧
      ((d 3).gauge 0).restartTimer = some 5 ∧ ((d 3).gauge 0).state = .shutdown := by
  decide +kernel

/-! ### Warnings, lamps and the chime -/

def warned (latched : Bool) (r : WarningRec) : Dev :=
  withWrn (fun s => { s with
    cfg := s.cfg.set 63 { WarningCfg.resetValue with enabled := true, latched := latched }
    warnings := s.warnings.set 63 { r with timer := some 0 } }) (inMode .run)

theorem witness_WarningDelayExpiry :
    let on := warned false { WarningRec.resetValue with state := .pendingOn, condition := true }
    let off (latched : Bool) (m : Remembered) :=
      warned latched { WarningRec.resetValue with state := .pendingOff, remembered := some m }
    ((on.warning 63).timer = some 0 ∧ (on.warning 63).state = .pendingOn) ∧
    ∀ latched ∈ [true, false], ∀ m ∈ [Remembered.activeNew, Remembered.activeAcked],
      ((off latched m).warning 63).timer = some 0 ∧ ((off latched m).warning 63).state = .pendingOff ∧
      ((off latched m).warning 63).remembered = some m ∧ ((off latched m).wrn.cfg[63]).latched = latched := by
  decide +kernel

def lamped (r : LampRec) : Dev :=
  withWrn (fun s => { s with flash := some ⟨true, 250000⟩, lamps := s.lamps.set 23 r }) (inMode .run)

theorem witness_FlashPhaseSwitchesLamps :
    let d := lamped { LampRec.resetValue with demand := .flashing, output := true, onSince := some 0 }
    d.wrn.flash = some ⟨true, 250000⟩ ∧ d.mod.mode = .run ∧ d.mod.supply = .on ∧ (d.lamp 23).demand = .flashing := by
  decide +kernel

theorem witness_DiagnosisExpiryJudgesLamp :
    ∀ c ∈ [(LampDriver.ok, true, false, true), (.ok, false, false, false), (.openLoad, true, true, true),
        (.shortToGround, false, false, true)],
      let d := lamped { LampRec.resetValue with
        driver := c.1, output := c.2.1, currentOk := c.2.2.1, pinHigh := c.2.2.2, diagTimer := some 10000 }
      (d.lamp 23).diagTimer = some 10000 ∧ d.wrn.flash.isSome = true ∧ d.mod.supply = .on ∧
        (d.lamp 23).driver = c.1 ∧ (d.lamp 23).output = c.2.1 ∧ (d.lamp 23).currentOk = c.2.2.1 ∧
        (d.lamp 23).pinHigh = c.2.2.2 := by
  decide +kernel

/-- A lamp retried after an over-current, its current there and its fault recorded. -/
def clean : Dev :=
  recorded { storedFaultRecord with code := 0x2217 } (lamped { LampRec.resetValue with
    demand := .steady, output := true, onSince := some 0, currentOk := true, heldOver := true
    diagTimer := some 100000, retries := 1 })

/-- 1,501 mA at just 5 ms cuts the output; 1,500 mA, or one microsecond less, does not. An output that is off; and a lamp
in OK with its fault held and its current there. -/
theorem witness_LampOvercurrentCutsOutput :
    let d := lamped { LampRec.resetValue with output := true, onSince := some 100 }
    let since (now : Nat) := now - 100
    (((lamped LampRec.resetValue).lamp 23).output = false) ∧
    ((d.lamp 23).onSince = some 100 ∧ d.wrn.flash.isSome = true ∧ (d.lamp 23).output = true ∧
      (5000 ≤ since (max d.clock (100 + 5000)) ∧ 1500 < 1501) ∧
      ¬(5000 ≤ since (max d.clock (100 + 4999)) ∧ 1500 < 1501) ∧
      ¬(5000 ≤ since (max d.clock (100 + 5000)) ∧ 1500 < 1500)) ∧
    ((clean.lamp 23).diagTimer = some 100000 ∧ clean.wrn.flash.isSome = true ∧ clean.mod.supply = .on ∧
      (clean.lamp 23).driver = .ok ∧ (clean.lamp 23).output = true ∧ (clean.lamp 23).currentOk = true ∧
      (clean.lamp 23).heldOver = true ∧ lampOn clean (clean.lamp 23) = true) := by
  decide +kernel

/-- R93: 100 ms of clean current end the over-current fault. -/
theorem test_lampFaultCleared :
    let e := after (.diagnosisTimerExpiry 23) clean
    (e.lamp 23).heldOver = false ∧ (e.lamp 23).driver = .ok ∧ (e.slot 0).record.map (·.active) = some false := by
  decide +kernel

theorem witness_LampSenseIsTaken :
    ∀ output ∈ [true, false], ∀ current ∈ [true, false],
      let d := lamped { LampRec.resetValue with
        demand := if output then .steady else .off, output := output, onSince := if output then some 100 else none
        currentOk := current }
      lampOn d (d.lamp 23) = (d.lamp 23).output ∧ (d.lamp 23).output = output ∧ (d.lamp 23).driver = .ok ∧
        (d.lamp 23).heldOver = false ∧ (d.lamp 23).currentOk = current := by
  decide +kernel

theorem witness_RetryExpiryRetriesOrLocks :
    let d (n : Nat) := lamped { LampRec.resetValue with
      driver := .overcurrentWait, retryTimer := some 500000, retries := n }
    (((d 2).lamp 23).retryTimer = some 500000 ∧ ((d 2).lamp 23).retries < 3) ∧
    (((d 3).lamp 23).retryTimer = some 500000 ∧ 3 ≤ ((d 3).lamp 23).retries) := by
  decide +kernel

def chiming (player : Player) (requests : List ChimeRequest) (test : Option ChimeTest) : Dev :=
  withWrn (fun s => { s with player := player, requests := requests, test := test }) (inMode .run)

theorem witness_ChimeStepPlaysPattern :
    let play (w : Option (Fin 64)) (c : Chime) (high : Bool) (segment : Nat) : Play := ⟨w, c, high, high, segment, 9, none⟩
    let preempted (d : Dev) (p : Play) : Prop := p.high = false ∧ p.beeping = true ∧
      (d.wrn.test.isSome = true ∨ ∃ q ∈ d.wrn.requests, q.high = true)
    let at0 (p : Play) (requests : List ChimeRequest) := chiming (.playing p) requests none
    let high : ChimeRequest := ⟨1, .continuous, true⟩
    (preempted (at0 (play (some 2) .triple false 0) [high, ⟨2, .triple, false⟩]) (play (some 2) .triple false 0)) ∧
    (¬preempted (at0 (play (some 2) .triple false 0) [⟨2, .triple, false⟩]) (play (some 2) .triple false 0) ∧
      0 + 1 < Chime.triple.segments.length) ∧
    (¬preempted (at0 (play none .single true 0) []) (play none .single true 0) ∧
      Chime.single.segments.length ≤ 0 + 1) ∧
    (¬preempted (at0 (play (some 2) .single true 0) [⟨2, .single, true⟩]) (play (some 2) .single true 0) ∧
      ∃ q, (at0 (play (some 2) .single true 0) [⟨2, .single, true⟩]).wrn.requests.find? (·.warning == 2) = some q ∧
        q.pattern = .single) ∧
    (¬preempted (at0 (play (some 1) .continuous true 1) [high]) (play (some 1) .continuous true 1) ∧
      Chime.continuous.segments.length ≤ 1 + 1) := by
  refine ⟨by decide +kernel, by decide +kernel, by decide +kernel, ⟨by decide +kernel, _, rfl, rfl⟩, by decide +kernel⟩

theorem witness_SilenceEndGrantsAfresh :
    let d := chiming (.silence 200000)
    (∀ requests test, (d requests test).wrn.player = .silence 200000 ∧ (d requests test).mod.mode = .run ∧
      (d requests test).mod.supply = .on ∧ (d requests test).wrn.requests = requests ∧
      (d requests test).wrn.test = test) ∧
    (∃ q ∈ [(⟨63, .single, true⟩ : ChimeRequest), ⟨0, .single, false⟩], q.high = true) ∧
    (∀ q ∈ [(⟨0, .triple, false⟩ : ChimeRequest)], q.high = false) :=
  ⟨fun _ _ => ⟨rfl, rfl, rfl, rfl, rfl⟩, by decide, by decide⟩

/-! ### Doors -/

/-- One configured door with the given record. -/
def oneDoor (r : DoorRec) : Dev :=
  withDor (fun s => { s with
    running := true, cfg := { s.cfg with count := 1 }, doors := s.doors.set 0 r }) (inMode .run)

theorem witness_DoorTimersExpire :
    let pending := oneDoor { DoorRec.resetValue with release := .pending, holdTimer := some 5 }
    let closing := oneDoor { DoorRec.resetValue with release := .closing, closeTimer := some 5 }
    let braking := withDor (fun s => { s with interlock := { s.interlock with brakeTimer := some 5 } }) (inMode .run)
    ((pending.door 0).holdTimer = some 5 ∧ (pending.door 0).release = .pending ∧ configured pending 0 = true) ∧
    ((closing.door 0).closeTimer = some 5 ∧ (closing.door 0).release = .closing ∧ configured closing 0 = true) ∧
    braking.dor.interlock.brakeTimer = some 5 := by
  decide +kernel

theorem witness_DoorCommandsMoveRelease :
    let d := oneDoor DoorRec.resetValue
    configured d 0 = true ∧ (0#8 : Byte).toNat = (0 : Fin 4).val ∧ served d ⟨0x09, 5, [0, 0]⟩ = true ∧
      served d ⟨0x09, 5, [0, 1]⟩ = true ∧
      (d.dor.cfg.count ≤ (1#8 : Byte).toNat ∧ served d ⟨0x09, 5, [1, 0]⟩ = true ∧
        served d ⟨0x09, 5, [1, 1]⟩ = true) ∧
      (4 ≤ (255#8 : Byte).toNat ∧ served d ⟨0x09, 255, [255, 0]⟩ = true) := by
  decide +kernel

/-! ### Storage -/

def withJob (j : Job) (d : Dev) : Dev := withSto (fun s => { s with job := some j }) d

/-- A job at some phase, the twentieth poll to come. -/
def polled (r : Requester) (op : JobOp) (phase : JobPhase) (m : Mode) : Dev := withJob ⟨r, op, 3, 19, phase, none, 0⟩ (inMode m)

theorem witness_StatusBytesAreJudged :
    (∀ t, ∃ d : Dev, ∃ j, d.sto.job = some j ∧ j.op = .write 0x0E00 [] ∧ j.phase = .polling t ∧ 20 ≤ j.polls + 1) ∧
    (∃ d : Dev, ∃ j, d.sto.job = some j ∧ j.op = .read 0x4600 64 ∧ j.phase = .started ∧ j.attempt = 3) ∧
    (∀ t, ∃ d : Dev, ∃ j, d.sto.job = some j ∧ j.op = .read 0x4600 64 ∧ j.phase = .polling t ∧ 20 ≤ j.polls + 1) ∧
    (∀ t, ∃ d : Dev, ∃ j, d.sto.job = some j ∧ j.op = .probe ∧ j.phase = .polling t ∧ 20 ≤ j.polls + 1) ∧
    ((1#8).getLsbD 0 ≠ false ∧ (1#8 : Byte) ≠ 0xFF#8) ∧
    ∀ phase, ∃ d : Dev, ∃ j, d.sto.job = some j ∧ j.op = .probe ∧ j.phase = phase ∧ d.sto.loader.stop = none ∧
      d.sto.storeQueued = false ∧ d.cal.valid = false ∧ d.mod.flush = .none :=
  ⟨fun t => ⟨polled .odometer (.write 0x0E00 []) (.polling t) .run, _, rfl, rfl, rfl, Nat.le_refl _⟩,
    ⟨polled .hostRead (.read 0x4600 64) .started .run, _, rfl, rfl, rfl, rfl⟩,
    fun t => ⟨polled .hostRead (.read 0x4600 64) (.polling t) .run, _, rfl, rfl, rfl, Nat.le_refl _⟩,
    fun t => ⟨polled .loader .probe (.polling t) .loading, _, rfl, rfl, rfl, Nat.le_refl _⟩, by decide,
    fun phase => ⟨polled .loader .probe phase .loading, _, rfl, rfl, rfl, rfl, rfl, rfl, rfl⟩⟩

/-- R150, R151: a read's twentieth poll that finds the device busy fails the attempt, and a ready one lets it proceed. -/
theorem test_readPolls :
    let d := polled .hostRead (.read 0x4600 64) (.polling 0) .run
    (after (.storagePollTick 1) d).sto.job.map (·.phase) = some (.ended false) ∧
      (after (.storagePollTick 0) d).sto.job.map (·.phase) = some .transfer := by
  decide +kernel

def reading : Dev :=
  withFlt (fun s => { s with slots := s.slots.set 17 ⟨some storedFaultRecord, false⟩ })
    (withLnk (fun l => { l with requests := [⟨10, 0x0E, true⟩] })
      (withJob ⟨.hostRead, .read 0x4A40 64, 1, 0, .transfer, some ⟨10, 17, 0x020C⟩, 0⟩ (inMode .run)))

/-- The loader reading in a state, at an index, from PRESENT storage. -/
def loading (state : LoaderState) (index : Nat) : Dev :=
  withJob ⟨.loader, .read 0x4000 64, 1, 0, .transfer, none, 0⟩ (withSto (fun s => { s with
    storage := .present, loader := { s.loader with state := state, index := index } }) (inMode .loading))

/-- A ring whose third slot is bad and whose second is the newest. -/
def ringBytes : List Byte :=
  odometerSlotBytes 5 40 30 ++ odometerSlotBytes 9 60 4 ++ List.replicate 16 1 ++ odometerSlotBytes 6 90 90

theorem witness_ReadJobIsDelivered :
    (∀ state ∈ [LoaderState.fetchingBody, .readingRing, .readingSlots], ∀ index ∈ [37, 9, 8],
      (loading state index).sto.job = some ⟨.loader, .read 0x4000 64, 1, 0, .transfer, none, 0⟩ ∧
      (loading state index).sto.loader.stop = none ∧ (loading state index).sto.loader.state = state ∧
      (loading state index).sto.loader.index = index ∧ (loading state index).sto.storage = .present ∧
      (loading state index).sto.storeQueued = false ∧ Memory.wf (loading state index).cal.ram = true ∧
      (loading state index).flt.slotsTaken = false ∧ (loading state index).cal.valid = false ∧
      (loading state index).mod.flush = .none) ∧
    (List.replicate 128 (7#8 : Byte)).length = 128 ∧
    (let slot (k : Nat) := (ringBytes.drop (16 * k)).take 16
    ringBytes.length = 64 ∧
      ∀ k, k < 4 → ((slot k).length = 16 ∧ (crc16 ((slot k).take 14)).toNat = be16At (slot k) 14 ↔ k ≠ 2) ∧
        (k ≠ 1 → k ≠ 2 → be32At (slot k) 0 < be32At (slot 1) 0)) ∧
    (reading.sto.job = some ⟨.hostRead, .read 0x4A40 64, 1, 0, .transfer, some ⟨10, 17, 0x020C⟩, 0⟩ ∧
      (reading.slot 17).record = some storedFaultRecord ∧ reading.lnk.requests = [⟨10, 0x0E, true⟩] ∧
      (frameSlotBytes storedFrame).length = 64 ∧ frameSlotGood 0x020C (frameSlotBytes storedFrame) = true) := by
  decide +kernel

/-- Storage's slots as FLT takes them: an empty slot, a good one, its code once more, a bad one. -/
def takenSlots : List (Option (List Byte)) :=
  [some (faultSlotBytes none), some (faultSlotBytes (some storedFaultRecord)),
    some (faultSlotBytes (some storedFaultRecord)), some (List.replicate 32 1), none]

theorem witness_ReadJobIsDelivered_slots :
    let good (b : List Byte) : Prop := (crc16 (b.take 30)).toNat = be16At b 30
    takenSlots.map (fun b => b.isSome) = [true, true, true, true, false] ∧
      (takenSlots.take 4).map (fun b => decide (good (b.getD []))) = [true, true, true, false] ∧
      be16At (faultSlotBytes none) 0 = 0 ∧ be16At (faultSlotBytes (some storedFaultRecord)) 0 = 0x020C ∧
      (withJob someJob reset).sto.job.isSome = true := by
  decide +kernel

/-- R48: the newest valid slot is taken, the greater distance and count kept, and the owed cycle counted. -/
theorem test_ring :
    let e := after (.readJobComplete (.delivered ringBytes)) (withPls (fun p => { p with
      distance := 50, cycles := 9, cycleOwed := true }) (loading .readingRing 0))
    e.pls.distance = 60 ∧ e.pls.cycles = 10 ∧ e.pls.lastSlot = 1 ∧ e.pls.lastSeq = 9 ∧ e.pls.ringTaken = true ∧
      e.sto.loader.state = .readingSlots := by
  decide +kernel

/-- R147: the good slot is loaded PASSIVE, its second copy and the bad one leave their places free and dirty. -/
theorem test_takeSlots :
    let e := takeSlots takenSlots reset
    (e.slot 0).record = none ∧ (e.slot 0).dirty = false ∧
      (e.slot 1).record = some { storedFaultRecord with active := false } ∧
      (e.slot 2).record = none ∧ (e.slot 2).dirty = true ∧ (e.slot 3).dirty = true ∧ (e.slot 4).dirty = false := by
  decide +kernel

def writing (r : Requester) (ok : Bool) (page : Nat) : Dev :=
  withJob ⟨r, .write 0 [], 1, 1, .ended ok, none, page⟩ (inMode .run)

theorem witness_WriteJobIsTaken :
    (∀ ok, ∃ d : Dev, ∃ j, d.sto.job = some j ∧ j.op = .write 0 [] ∧ d.mod.flush = .none ∧ j.phase = .ended ok ∧
      j.requester = .odometer) ∧
    (∀ ok, ∀ page, ∃ d : Dev, ∃ j, d.sto.job = some j ∧ j.op = .write 0 [] ∧ d.mod.flush = .none ∧
      j.phase = .ended ok ∧ j.requester = .imageStore ∧ j.page = page ∧ d.sto.storePage = some j.page ∧
      d.sto.storeQueued = false) ∧
    (∃ d : Dev, ∃ j w, d.sto.job = some j ∧ j.op = .write 0 [] ∧ d.mod.flush = .none ∧ j.phase = .ended true ∧
      j.requester = .faultWriter ∧ d.flt.write = some w ∧ w.recordStage = true ∧ w.mark = .clear ∧
      d.sto.writeFailedHeld = false) :=
  ⟨fun ok => ⟨writing .odometer ok 0, _, rfl, rfl, rfl, rfl, rfl⟩,
    fun ok page => ⟨withSto (fun s => { s with storePage := some page }) (writing .imageStore ok page), _, rfl, rfl, rfl,
      rfl, rfl, rfl, rfl, rfl⟩,
    ⟨withFlt (fun s => { s with write := some ⟨0, none, none, true, .clear⟩ }) (writing .faultWriter true 0), _, _, rfl,
      rfl, rfl, rfl, rfl, rfl, rfl, rfl, rfl⟩⟩

/-- Both groups hold a job, and the low group has waited for 4 grants. -/
def contended (grants : Nat) : Dev :=
  withPls (fun s => { s with odoJob := .queued }) (withSto (fun s => { s with
    storage := .present, hostReads := [⟨10, 17, 0x020C⟩], lastHigh := some .odometer, lastLow := some .imageStore
    highWhileLow := grants }) (inMode .run))

theorem witness_ArbitrationIsRoundRobin :
    let d := contended 4
    (∀ r, d.sto.lastHigh = some r → r.isHigh = true) ∧ (∀ r, d.sto.lastLow = some r → r.isHigh = false) ∧
      arbitrate d = some .hostRead ∧ arbitrate (contended 3) = some .odometer :=
  ⟨fun r h => by cases h; rfl, fun r h => by cases h; rfl, by decide +kernel, by decide +kernel⟩

/-! ### The link -/

theorem witness_ReceiverTakesBytes :
    let hunting := inMode .run
    let d (bs : List Byte) := withLnk (fun l => { l with assembly := some bs, gapTimer := some 3000 }) (inMode .run)
    let payload : List Byte := [0, 8, 5, 1]
    (reset.mod.mode = .standby ∧ hunting.mod.mode ≠ .standby ∧ hunting.lnk.assembly = none) ∧
    (∀ bs, (d bs).mod.mode ≠ .standby ∧ (d bs).lnk.assembly = some bs ∧ (d bs).lnk.gapTimer = some 3000) ∧
    240 < (([] ++ [241#8] : List Byte).getD 0 0).toNat ∧
    (([] ++ [240#8] : List Byte).getD 0 0).toNat ≤ 240 ∧ ([] ++ [240#8] : List Byte).length < 240 + 5 ∧
    (payload ++ [0#8]).length = (payload.getD 0 0).toNat + 5 ∧
    (crc16 ((payload ++ [0#8]).take 3)).toNat ≠ be16At (payload ++ [0#8]) 3 :=
  ⟨by decide +kernel, fun _ => ⟨nofun, rfl, rfl⟩, by decide, by decide, by decide, by decide, by decide +kernel⟩

theorem witness_FrameBytesAreTheirCommand :
    let d := withLnk (fun l => { l with assembly := some [0, 2, 5, byte ((crc16 [0, 2, 5]).toNat / 256)] }) (inMode .run)
    d.mod.mode ≠ .standby ∧ d.lnk.assembly = some [0, 2, 5, byte ((crc16 [0, 2, 5]).toNat / 256)] ∧
      ([] : List Byte).length ≤ 240 ∧
      0xA5#8 :: ([0, 2, 5, byte ((crc16 [0, 2, 5]).toNat / 256)] ++ [byte (crc16 [0, 2, 5]).toNat]) =
        frameBytes 0x02 5 [] := by
  decide +kernel

theorem witness_DecodeFrameReadsEncoded :
    ∃ f, WellFormed (.doorCommandRelease 255 3 []) = true ∧ encodeFrame (.doorCommandRelease 255 3 []) = some f :=
  ⟨_, by decide, rfl⟩

def busy (n rejections : Nat) : Dev :=
  withLnk (fun l => { l with
    requests := (List.range n).map fun i => ⟨byte (i + 1), 0x05, true⟩
    replies := List.replicate rejections ⟨0x82, 9, [1], true⟩ }) (inMode .run)

theorem witness_KeepAlivesAndRejections :
    (∃ f : Frame, encodeFrame (.status 5 []) = some f ∧ f.tag ≠ 0 ∧ f.kind.toNat < 0x80 ∧
      (∀ rejections ∈ [3, 4], (busy 4 rejections).mod.mode ≠ .standby ∧ (busy 4 rejections).lnk.lost = false ∧
        (∀ q ∈ (busy 4 rejections).lnk.requests, q.tag ≠ f.tag) ∧ 4 ≤ (busy 4 rejections).lnk.requests.length ∧
        ((busy 4 rejections).lnk.replies.filter (·.rejection)).length = rejections ∧
        ∃ q ∈ (busy 4 rejections).lnk.requests, q.tag = 4)) ∧
    encodeFrame (.unknownKind 0x80 5 []) = some ⟨0x80, 5, []⟩ ∧ ¬(0x80#8 : Byte).toNat < 0x80 ∧
    encodeFrame (.status 4 []) = some ⟨0x02, 4, []⟩ :=
  ⟨⟨⟨0x02, 5, []⟩, rfl, by decide, by decide, by decide +kernel⟩, rfl, by decide, rfl⟩

theorem witness_RequestsJudgedInOrder :
    let d (pending : Bool) (m : Mode) := withMod (fun s => { s with resetPending := pending }) m
    (∀ p m, (d p m).mod.resetPending = p ∧ (d p m).mod.mode = m ∧ (d p m).lnk.lost = false ∧
      (d p m).lnk.requests = []) ∧
    encodeFrame (.unknownKind 0x1B 5 []) = some ⟨0x1B, 5, []⟩ ∧ (0x1B#8 : Byte).toNat = 0x1A + 1 ∧
    encodeFrame (.unknownKind 0x09 5 [0, 2]) = some ⟨0x09, 5, [0, 2]⟩ ∧ lengthFits 0x09 [0, 2] = true ∧
    encodeFrame (.faultClearAll 5 [0]) = some ⟨0x0F, 5, [0, 0]⟩ ∧ 0x0F ∈ [0x0F, 0x12] ∧
    encodeFrame (.status 5 [0]) = some ⟨0x02, 5, [0]⟩ ∧ lengthFits 0x02 [0] = false :=
  ⟨fun _ _ => ⟨rfl, rfl, rfl, rfl⟩, by decide +kernel⟩

/-- RUN with the link lost, its fault recorded, and warning 5 about it shown. -/
def lost (m : Mode) : Dev :=
  withWrn (fun s => { s with
    flash := some ⟨true, 9⟩, linkLost := true
    cfg := s.cfg.set 5 { WarningCfg.resetValue with enabled := true, kind := .system, condition := .linkLost }
    warnings := s.warnings.set 5 { WarningRec.resetValue with state := .activeNew, condition := true } })
  (withLnk (fun l => { l with mask := 0xFF, lost := true, held := true })
    (recorded { storedFaultRecord with code := 0x6000 } (inMode m)))

theorem witness_LinkTimerExpiryLosesLink :
    (∃ d : Dev, ∃ t, d.lnk.timer = some t) ∧
    (∀ m ∈ [Mode.run, .saving], (lost m).mod.mode ≠ .standby ∧ (lost m).lnk.lost = true ∧
      (lost m).wrn.flash.isSome = true ∧ ((lost m).wrn.cfg[5]).enabled = true ∧ ((lost m).wrn.cfg[5]).kind = .system ∧
      ((lost m).wrn.cfg[5]).condition = .linkLost) ∧
    (withLnk (fun l => { l with lost := true }) (inMode .run)).lnk.lost = true ∧
    ∀ w : Fin 64, ((inMode .run).wrn.cfg[w]).condition ≠ .linkLost :=
  ⟨⟨withLnk (fun l => { l with timer := some 200000 }) (inMode .run), 200000, rfl⟩, by decide +kernel, rfl,
    by decide +kernel⟩

/-- R193: a keep-alive ends the loss, the timer starts, the fault is absent and its warning's condition false. -/
theorem test_linkBack :
    let e := after (.keepAlive 0 []) (lost .run)
    e.lnk.lost = false ∧ e.lnk.held = false ∧ e.lnk.timer.isSome = true ∧
      (e.slot 0).record.map (·.active) = some false ∧ (e.warning 5).condition = false := by
  decide +kernel

theorem witness_TransmitterSendsNextFrame :
    let d (replies : List Reply) (notices : List Notice) := withLnk (fun l => { l with
      tx := some ⟨frameBytes 0x82 5 [0], some 5⟩, requests := [⟨5, 0x02, false⟩], replies := replies, notices := notices })
      (inMode .run)
    ∀ replies notices, (d replies notices).lnk.tx = some ⟨frameBytes 0x82 5 [0], some 5⟩ ∧
      (d replies notices).mod.flush = .none ∧ (d replies notices).lnk.replies = replies ∧
      (d replies notices).lnk.notices = notices :=
  fun _ _ => ⟨rfl, rfl, rfl, rfl⟩

theorem witness_NoticesCoalesceOrQueue :
    let n (i : Nat) : Notice := ⟨.gaugeChange, i, [], false⟩
    let d (mask : BitVec 8) (count : Nat) := withLnk (fun l => { l with
      mask := mask, notices := (List.range count).map n }) (inMode .run)
    ((d 0 0).lnk.mask.getLsbD NoticeKind.modeChange.group = false) ∧
    ((d 255 32).lnk.mask.getLsbD NoticeKind.gaugeChange.group = true ∧
      (∃ m ∈ (d 255 32).lnk.notices, m.kind = .gaugeChange ∧ m.subject = 31)) ∧
    (¬(∃ m ∈ (d 255 31).lnk.notices, m.kind = .gaugeChange ∧ m.subject = 99) ∧ (d 255 31).lnk.notices.length < 32) ∧
    (¬(∃ m ∈ (d 255 32).lnk.notices, m.kind = .gaugeChange ∧ m.subject = 99) ∧
      32 ≤ (d 255 32).lnk.notices.length) := by
  decide +kernel

/-! ### Faults -/

/-- An active image whose group 0x10 is not masked and MAJOR, and a pool as given. -/
def framing (pool : Option FreezeFrame) : Dev :=
  { withFlt (fun s => { s with pool := Vector.replicate 8 pool }) (inMode .run) with
    cal := { reset.cal with valid := true, ram := [(4953, 1#8)] } }

/-- A fault memory with one record in every slot: PASSIVE ones in slots 3, 4, 7 and 9, and the others ACTIVE. -/
def fullMemory : Dev :=
  let r (i : Nat) (active : Bool) (severity : Severity) (aging : Nat) (frame : FrameRef) : FaultRec :=
    ⟨BitVec.ofNat 16 (0x0100 + i), active, severity, 255, 0, 0, 0, 0, aging, frame, false⟩
  withFlt (fun s => { s with slots := Vector.ofFn fun i : Fin 40 => ⟨some (
    if i = 3 then r 3 false .critical 9 .absent else if i = 4 then r 4 false .major 3 .absent
    else if i = 7 then r 7 false .major 4 (.inPool 6) else if i = 9 then r 9 false .major 4 .absent
    else r i.val true .minor 9 .absent), false⟩ }) (framing (some storedFrame))

/-- The records of section 7.5 at SAVING entry in cycle 9,814, the aging limit 3. -/
def agingDev : Dev :=
  let r (code : BitVec 16) (active : Bool) (aging last : Nat) (frame : FrameRef) : FaultSlot :=
    ⟨some ⟨code, active, .minor, 1, 0, 0, 0, last, aging, frame, false⟩, false⟩
  withLnk (fun l => { l with mask := 0xFF }) (withPls (fun p => { p with cycles := 9814 }) (withFlt (fun s => { s with
    cycleAged := some 9813, agingLimit := 3
    slots := (((s.slots.set 0 (r 0x4000 false 2 9812 (.inPool 2))).set 1 (r 0x020C true 5 9814 .absent)).set 2
      (r 0x2007 false 0 9814 .absent)).set 3 (r 0x7005 false 1 9810 .absent) }) (inMode .saving)))

theorem witness_FaultReportsWriteRecords :
    (∀ active ∈ [true, false],
      let d := recorded { storedFaultRecord with code := 0x1003, active := active } (framing none)
      (d.slot 0).record = some { storedFaultRecord with code := 0x1003, active := active } ∧
      (d.groupSetting 4) = (false, .major)) ∧
    (∀ i : Fin 40, (reset.slot i).record = none) ∧
    (groupEntry ((0x1003#16 : BitVec 16).toNat / 256) = some 4 ∧
      (reset.groupSetting 4).1 = false ∧ reset.cal.valid = false) ∧
    ((withRam [(4952, 1#8)] (framing none)).groupSetting 4).1 = true ∧
    (∀ pool ∈ [none, some storedFrame], ((framing pool).groupSetting 4) = (false, .major) ∧
      (framing pool).cal.valid = true ∧ ((framing pool).slot 0).record = none) ∧
    ((framing (some storedFrame)).flt.pool[7]).isSome = true ∧
    ((∀ k, ((fullMemory.slot k).record.map (·.code)).getD 0x1003 ≠ 0x1003) ∧ (∀ k, (fullMemory.slot k).record ≠ none) ∧
      (fullMemory.slot 7).record.map (fun r => (r.active, r.severity, r.aging)) = some (false, .major, 4) ∧
      ∀ k : Fin 40, k ≠ 7 → ∀ q ∈ (fullMemory.slot k).record, q.active = false →
        Severity.major.code < q.severity.code ∨ (Severity.major.code = q.severity.code ∧
          (q.aging < 4 ∨ (q.aging = 4 ∧ 7 < k)))) ∧
    ((agingDev.slot 0).record.map (·.aging) = some 2 ∧ agingDev.flt.cycleAged ≠ some agingDev.pls.cycles) := by
  decide +kernel

/-- R132: a present report of a PASSIVE record makes it ACTIVE again. -/
theorem test_reactivated :
    let e := fltPresent 0x1003 (recorded { storedFaultRecord with code := 0x1003, active := false, aging := 7 } (framing none))
    (e.slot 0).record.map (fun r => (r.active, r.occurrences, r.aging)) = some (true, 2, 0) ∧ (e.slot 1).record = none := by
  decide +kernel

/-- R134: with no slot free the record of slot 7 is replaced, and its pool entry holds the new frame; a fault less severe
than every PASSIVE record is dropped. -/
theorem test_replaced :
    let e := fltPresent 0x1003 fullMemory
    (e.slot 7).record.map (fun r => (r.code, r.active, r.frame)) = some (0x1003#16, true, .inPool 6) ∧
      (e.slot 9).record = (fullMemory.slot 9).record ∧ e.flt.dropped = 0 ∧
      (fltPresent 0x2003 fullMemory).flt.dropped = 1 := by
  decide +kernel

/-- R142, section 7.5: the record made PASSIVE comes before the two that age. -/
theorem test_agingOrder :
    let e := fltSaving agingDev
    e.lnk.notices.map (·.subject) = [1, 0, 3] ∧ (e.slot 0).record = none ∧
      (e.slot 1).record.map (fun r => (r.active, r.aging)) = some (false, 0) ∧ e.slot 2 = agingDev.slot 2 ∧
      (e.slot 3).record.map (·.aging) = some 2 := by
  decide +kernel
/-! ### Requests -/

theorem witness_ReadRequestsAnswerAtOnce :
    let d := inMode .run
    (∀ k ∈ [0x01#8, 0x02#8, 0x0A#8, 0x0B#8, 0x0C#8, 0x1A#8], served d ⟨k, 5, []⟩ = true) ∧
    (∀ p ∈ [[45#8, 16#8], [46#8, 1#8], [0#8, 0#8], [0#8, 17#8]], served d ⟨0x04, 5, p⟩ = true) ∧
    (∀ p ∈ [[63#8, 32#8], [64#8, 1#8], [0#8, 0#8], [0#8, 33#8]], served d ⟨0x06, 5, p⟩ = true) ∧
    (∀ p ∈ [[39#8], [40#8]], served d ⟨0x0D, 5, p⟩ = true) := by
  decide +kernel

theorem witness_SubscribeReplacesMask :
    let d := withLnk (fun l => { l with mask := 0xBF, notices := [⟨.gaugeChange, 0, [], false⟩] }) (inMode .run)
    served d ⟨0x03, 5, [0, 0x01]⟩ = true ∧ (∀ g : Fin 8, (0x01#8 : Byte).getLsbD g → d.lnk.mask.getLsbD g = true) ∧
      served d ⟨0x03, 5, [0, 0xFF]⟩ = true ∧ 0xFF#8 = d.lnk.mask ||| 0x40#8 ∧ d.lnk.mask.getLsbD 6 = false ∧
      (∀ n ∈ d.lnk.notices, n.kind ≠ .modeChange) ∧ d.lnk.notices.length < 32 := by
  decide +kernel

theorem witness_SampleNowJoinsList :
    let d (n : Nat) := withSeq (fun s => { s with onDemand := List.replicate n ⟨9, 0, none⟩ }) (inMode .run)
    (served (d 0) ⟨0x05, 5, [8, 0, 1, 2, 3, 4, 5, 6, 43]⟩ = true ∧ (d 0).seq.onDemand.length + 8 ≤ 8) ∧
    (served (d 7) ⟨0x05, 5, [2, 0, 43]⟩ = true ∧ ¬(d 7).seq.onDemand.length + 2 ≤ 8) ∧
    (served (d 0) ⟨0x05, 5, [1, 44]⟩ = true ∧ ¬(44#8 : Byte).toNat ≤ 43) := by
  decide +kernel

theorem witness_AckWarningsAcknowledges :
    let d := warned true { WarningRec.resetValue with state := .pendingOff, remembered := some .activeNew }
    (∀ p ∈ [[0#8, 63#8], [1#8, 2#8], [2#8, 9#8], [0#8, 64#8], [1#8, 3#8], [3#8, 0#8]], served d ⟨0x07, 5, p⟩ = true) ∧
      (d.warning 63).state = .pendingOff ∧ (d.wrn.cfg[63]).enabled = true := by
  decide +kernel

theorem witness_SetLampsDemandsLamps :
    let d := withWrn (fun s => { s with
      cfg := s.cfg.set 63 { WarningCfg.resetValue with enabled := true, lamp := some 23, flash := true }
      warnings := s.warnings.set 63 { WarningRec.resetValue with state := .activeNew } }) (inMode .run)
    served d ⟨0x08, 5, [0x80, 0, 1]⟩ = true ∧ (d.warning 63).state = .activeNew ∧ (d.wrn.cfg[63]).lamp = some 23 := by
  decide +kernel

theorem witness_OutputTestsActInService :
    let gauge (r : GaugeState) : Dev := withRam speedoRam (withGau (fun s => { s with
      gauges := s.gauges.set 0 { GaugeRec.resetValue with state := r } }) (inMode .service))
    let lamp (r : LampDriver) : Dev := withWrn (fun s => { s with
      lamps := s.lamps.set 23 { LampRec.resetValue with driver := r } }) (inMode .service)
    let chime (t : Option ChimeTest) (p : Player) : Dev := withWrn (fun s => { s with test := t, player := p }) (inMode .service)
    let play (high : Bool) (segment : Nat) : Player := .playing ⟨some 3, .triple, high, high, segment, 9, some 4⟩
    (∀ r ∈ [GaugeState.tracking, .override, .shutdown], ((gauge r).gauge 0).state = r ∧
      ((gauge r).gaugeCfg 0).enabled = true ∧ ((gauge r).gaugeCfg 1).enabled = false ∧
      ∀ p ∈ [[0#8, 0#8, 0#8, 255#8, 255#8], [0#8, 0#8, 1#8, 0#8, 0#8], [0#8, 6#8, 0#8, 0#8, 0#8], [0#8, 0#8, 2#8, 0#8, 0#8],
          [0#8, 1#8, 0#8, 0#8, 0#8]],
        served (gauge r) ⟨0x12, 5, p⟩ = true) ∧
    (∀ r ∈ [LampDriver.openLoad, .lockedOff], ((lamp r).lamp 23).driver = r ∧
      ∀ p ∈ [[1#8, 23#8, 1#8, 0#8, 0#8], [1#8, 23#8, 2#8, 0#8, 0#8], [1#8, 24#8, 0#8, 0#8, 0#8], [1#8, 0#8, 3#8, 0#8, 0#8]],
        served (lamp r) ⟨0x12, 5, p⟩ = true) ∧
    (∀ t ∈ [none, some (⟨.single, true⟩ : ChimeTest)], ∀ p ∈ [.idle, .silence 9, play false 0, play false 1, play true 1],
      (chime t p).wrn.test = t ∧ (chime t p).mod.supply = .on ∧ (chime t p).wrn.player = p ∧
      ∀ b ∈ [[2#8, byte Chime.triple.code, 1#8, 0#8, 0#8], [2#8, 0#8, 0#8, 0#8, 0#8], [2#8, 4#8, 0#8, 0#8, 0#8],
          [2#8, 1#8, 2#8, 0#8, 0#8]],
        served (chime t p) ⟨0x12, 5, b⟩ = true) ∧
    ((Chime.triple.segments.getD 1 (false, 0)).1 = false ∧ (Chime.triple.segments.getD 0 (false, 0)).1 = true) := by
  decide +kernel

/-- R71, R104: a disabled gauge is answered BAD_ARGUMENT, and a chime test ends a low play in its gap. -/
theorem test_outputTests :
    let replies (d : Dev) := d.lnk.tx.map fun t => t.bytes.take 5
    let d := withWrn (fun s => { s with player := .playing ⟨some 3, .triple, false, false, 1, 9, some 4⟩ }) (inMode .service)
    let e := after (.outputTestChime 5 [1, 1, 0, 0]) d
    replies (after (.outputTestGauge 5 [0, 0, 0, 9]) (inMode .service)) = some [0xA5#8, 1#8, 0x92#8, 5#8, 5#8] ∧
      replies e = some [0xA5#8, 1#8, 0x92#8, 5#8, 0#8] ∧ e.wrn.player = .silence 200000 ∧ e.wrn.lastLow = some 4 ∧
      e.wrn.test = some ⟨.single, true⟩ := by
  decide +kernel

theorem witness_FaultReadAnswersOrDefers :
    let d (f : FrameRef) := withSto (fun s => { s with storage := .present })
      (recorded { storedFaultRecord with frame := f } (framing (some storedFrame)))
    (∀ f ∈ [FrameRef.absent, .inPool 7, .stored], served (d f) ⟨0x0E, 5, [0x02, 0x0C]⟩ = true ∧
      (((d f).slot 0).record.map fun r => (r.code, r.frame)) = some (BitVec.ofNat 16 (0x02 * 256 + 0x0C), f)) ∧
    (served reset ⟨0x0E, 5, [0x02, 0x0C]⟩ = false ∧ served (inMode .run) ⟨0x0E, 5, [0x02, 0x0C]⟩ = true) ∧
    ((d .stored).flt.pool[7] = some storedFrame ∧ (d .stored).sto.job = none ∧ (d .stored).sto.storage = .present ∧
      (d .stored).flt.queue = [] ∧ (d .stored).pls.odoJob ≠ .queued ∧ (d .stored).sto.loader.queued = none ∧
      (d .stored).sto.hostReads = [] ∧ (d .stored).sto.storeQueued = false) ∧
    (served (withJob someJob (d .stored)) ⟨0x0E, 5, [0x02, 0x0C]⟩ = true ∧
      (withJob someJob (d .stored)).sto.job.isSome = true) := by
  decide +kernel

theorem witness_FaultClearErasesPassive :
    ∀ active ∈ [true, false],
      let d := recorded { storedFaultRecord with active := active, frame := .inPool 7 } (inMode .service)
      served d ⟨0x0F, 5, [0, 0x02, 0x0C]⟩ = true ∧ served d ⟨0x0F, 5, [1, 0x02, 0x0C]⟩ = true ∧
        served d ⟨0x0F, 5, [1, 0x02, 0x0D]⟩ = true ∧
        ((d.slot 0).record.map fun r => (r.code, r.active)) = some (BitVec.ofNat 16 (0x02 * 256 + 0x0C), active) := by
  decide +kernel

theorem witness_ServiceIsEnteredAndLeft :
    (∀ m ∈ [Mode.run, .service, .sweep], (inMode m).mod.mode = m ∧ served (inMode m) ⟨0x10, 5, []⟩ = true ∧
      served (inMode m) ⟨0x11, 5, []⟩ = true) ∧
    (let braked (v : Int) := setRecord 3 (fun r => { r with kind := .switch, notYet := false, value := v })
      (withRam [(20, 3#8)] (inMode .run))
    let ready (d : Dev) := d.pls.standstill = true ∧
      ∀ ch, ch < 46 → d.parkingChannel = some ch → (d.chan ch).quality = .good ∧ (d.chan ch).value = 1
    (braked 1).parkingChannel = some 3 ∧ ready (braked 1) ∧ ¬ready (braked 0)) := by
  decide +kernel

theorem witness_CalWriteAndReadRam :
    let d (l : LoaderState) := withSto (fun s => { s with loader := { s.loader with state := l } }) (inMode .awaitingImage)
    (∀ l ∈ [LoaderState.idle, .verifying], Memory.wf (d l).cal.ram = true ∧ (d l).mod.mode = .awaitingImage ∧
      (d l).sto.loader.state = l ∧
      (served (d l) ⟨0x14, 5, [0x13, 0x8F, 7]⟩ = true ∧ 0x13 * 256 + 0x8F + 1 ≤ 5008) ∧
      (served (d l) ⟨0x14, 5, [0x13, 0x90, 7]⟩ = true ∧ 5008 < 0x13 * 256 + 0x90 + 1)) ∧
    served (inMode .run) ⟨0x14, 5, [0, 0, 7]⟩ = true ∧
    (∀ p ∈ [[0x13#8, 0x8F#8, 1#8], [0x13#8, 0x90#8, 1#8], [0#8, 0#8, 192#8], [0#8, 0#8, 193#8], [0#8, 0#8, 0#8]],
      served (d .idle) ⟨0x17, 5, p⟩ = true) := by
  decide +kernel

theorem witness_RestoreFreesAndResetFlushes :
    (∀ uv ∈ [true, false], let d := withMod (fun m => { m with undervolt := uv, supply := .waitingRestore }) .service
      d.mod.undervolt = uv ∧ d.mod.overvolt = false ∧ d.mod.overtemp = false ∧ d.mod.supply = .waitingRestore ∧
      served d ⟨0x18, 5, []⟩ = true) ∧
    (∀ m ∈ [Mode.saving, .sweep, .run, .service], (inMode m).mod.mode = m ∧ served (inMode m) ⟨0x19, 5, []⟩ = true) := by
  decide +kernel

/-! ### A valid image -/

/-- A least image that passes validation: one door on channel 0, every pin a SWITCH, every gauge and warning disabled. The
CRC-16 of its body is 0x5C8F. -/
def imageRam : List Host.Cell :=
  [(0, 0x4D#8), (1, 0x4E#8), (2, 0x43#8), (3, 0x42#8), (5, 1#8), (6, 0x13#8), (7, 0x80#8), (11, 7#8), (12, 0x5C#8),
    (13, 0x8F#8), (16, 1#8), (17, 255#8), (18, 255#8), (19, 255#8), (20, 255#8), (21, 255#8), (23, 3#8), (24, 232#8),
    (26, 200#8), (27, 1#8)] ++
  ((List.range 40).flatMap fun c =>
    [(80 + 64 * c, 1#8), (85 + 64 * c, 20#8), (96 + 64 * c, 1#8), (97 + 64 * c, 1#8), (102 + 64 * c, 1#8)]) ++
  [(2897, 50#8), (2899, 200#8), (2901, 3#8), (2902, 232#8), (2961, 50#8), (2963, 200#8), (2966, 1#8),
    (4849, 255#8), (4850, 255#8), (4851, 255#8), (4852, 255#8), (4853, 255#8), (4854, 255#8), (4857, 1#8)]

/-- AWAITING_IMAGE with that image in calibration RAM. -/
def imageDev : Dev := withRam imageRam (inMode .awaitingImage)

/-- A read of calibration RAM in a form that the kernel evaluates fast. -/
def fastRead (m : List Host.Cell) (a : Nat) : Nat :=
  List.rec (motive := fun _ => Nat) 0 (fun c _ ih => bif Nat.beq c.1 a then c.2.toNat else bif Nat.ble c.1 a then ih else 0) m

theorem ram8_fast (d : Dev) (a : Nat) : d.ram8 a = fastRead d.cal.ram a := by
  unfold Dev.ram8
  induction d.cal.ram with
  | nil => rfl
  | cons c t ih =>
    obtain ⟨x, v⟩ := c
    show _ = bif Nat.beq x a then v.toNat else bif Nat.ble x a then fastRead t a else 0
    rw [← ih]
    rcases Nat.lt_trichotomy x a with h | h | h
    · have h1 : Nat.beq x a = false := by
        cases e : Nat.beq x a with
        | false => rfl
        | true => exact absurd (Nat.eq_of_beq_eq_true e) (by omega)
      have h2 : Nat.ble x a = true := Nat.ble_eq.mpr (by omega)
      rw [h1, h2]; simp [Memory.read, show ¬ (x = a) by omega, show ¬ (a < x) by omega]
    · subst h; simp [Memory.read]
    · have h1 : Nat.beq x a = false := by
        cases e : Nat.beq x a with
        | false => rfl
        | true => exact absurd (Nat.eq_of_beq_eq_true e) (by omega)
      have h2 : Nat.ble x a = false := by rw [Bool.eq_false_iff, ne_eq, Nat.ble_eq]; omega
      rw [h1, h2]; simp [Memory.read, show ¬ (x = a) by omega, h, Memory.unlisted]

/-- The CRC in a form that the kernel evaluates byte by byte. -/
def crcStrict (r : BitVec 16) : List Byte → BitVec 16
  | [] => r
  | b :: bs => if (crcByte r b).toNat < 65536 then crcStrict (crcByte r b) bs else 0

theorem crcFrom_eq_strict : ∀ (bs : List Byte) (r : BitVec 16), crcFrom r bs = crcStrict r bs
  | [], _ => rfl
  | b :: bs, r => by
    rw [crcStrict, if_pos (by omega), ← crcFrom_eq_strict bs]
    rfl

theorem image_header : imageDev.headerOk = true := by
  have h : headerHolds imageDev.header = true ∧ headerZeros imageDev.header = true := by decide +kernel
  have k : imageDev.bodyCrcOk = true := by
    unfold Dev.bodyCrcOk crc16
    rw [crcFrom_eq_strict]
    decide +kernel
  simp [Dev.headerOk, h, k]

theorem image_pins : ∀ c, c < 40 → imageDev.pinOk c = true := by
  simp only [Dev.pinOk, Dev.pinCfg, Dev.ram16, Dev.ramInt16, ram8_fast]
  decide +kernel

theorem image_rest : imageDev.systemOk = true ∧ imageDev.pulseOk .road = true ∧ imageDev.pulseOk .engine = true ∧
    (∀ g, imageDev.gaugeOk g = true) ∧ (∀ w, w < 64 → imageDev.warningOk w = true) ∧
    (∀ i, i < 4 → imageDev.doorOk i = true) ∧ ∀ i, i < 32 → imageDev.groupOk i = true := by
  simp only [Dev.systemOk, Dev.pulseOk, Dev.gaugeOk, Dev.gaugeCfg, Dev.warningOk, Dev.doorOk, Dev.groupOk, Dev.switchOrAbsent,
    Dev.isSwitchChannel, Dev.ramFlag, Dev.ram16, Dev.doorCount, ram8_fast]
  decide +kernel

/-- Validation passes where every entry of every section does (R157). -/
theorem validate_pass (d : Dev) (h0 : d.headerOk = true) (h1 : d.systemOk = true)
    (hp : ∀ c, c < 40 → d.pinOk c = true) (h2 : d.pulseOk .road = true) (h3 : d.pulseOk .engine = true)
    (h4 : ∀ g, d.gaugeOk g = true) (h5 : ∀ w, w < 64 → d.warningOk w = true)
    (h6 : ∀ i, i < 4 → d.doorOk i = true) (h7 : ∀ i, i < 32 → d.groupOk i = true) : d.validate = .pass := by
  unfold Dev.validate
  rw [List.find?_eq_none.mpr]
  intro e he
  obtain ⟨s, hs, he⟩ := List.mem_flatMap.mp he
  obtain ⟨n, hn, rfl⟩ := List.mem_map.mp he
  have hn := List.mem_range.mp hn
  have : d.entryOk s.1 n = true := by
    simp only [sections, List.mem_cons, List.not_mem_nil, or_false] at hs
    rcases hs with rfl | rfl | rfl | rfl | rfl | rfl | rfl
    · exact h0
    · exact h1
    · simp only [Dev.entryOk]
      split_ifs with a b c
      · exact hp n a
      · exact h2
      · exact h3
      · rfl
    · have : n < 6 := hn
      simp only [Dev.entryOk, this, dite_true]
      exact h4 _
    · exact h5 n hn
    · exact h6 n hn
    · exact h7 n hn
  simp [this]

theorem imageDev_valid : imageDev.validate = .pass := by
  obtain ⟨h1, h2, h3, h4, h5, h6, h7⟩ := image_rest
  exact validate_pass imageDev image_header h1 image_pins h2 h3 h4 h5 h6 h7

/-- CAL_BEGIN, CAL_COMMIT and CAL_ABORT, the last two on the valid image and on RAM that lists nothing. -/
theorem witness_CalBeginCommitAbort :
    (∀ storing ∈ [true, false],
      let d := withSto (fun s => { s with storePage := if storing then some 0 else none }) (inMode .service)
      served d ⟨0x13, 5, []⟩ = true ∧ d.mod.mode = .service ∧ d.sto.storePage.isSome = storing ∧ d.sto.job = none ∧
        d.sto.loader.state = .idle) ∧
    (∀ k ∈ [0x15#8, 0x16#8], served (inMode .awaitingImage) ⟨k, 5, []⟩ = true ∧ served imageDev ⟨k, 5, []⟩ = true) ∧
    ((inMode .awaitingImage).mod.mode = .awaitingImage ∧ (inMode .awaitingImage).sto.loader.state = .idle ∧
      (inMode .awaitingImage).validate = .failure 0 0 ∧ (inMode .awaitingImage).sto.storage ≠ .present) ∧
    (imageDev.mod.mode = .awaitingImage ∧ imageDev.sto.loader.state = .idle ∧ imageDev.sto.storage ≠ .present ∧
      imageDev.validate = .pass) ∧
    (let d := withSto (fun s => { s with storage := .present }) (inMode .awaitingImage)
    served d ⟨0x16, 5, []⟩ = true ∧ d.mod.mode = .awaitingImage ∧ d.sto.loader.state = .idle) :=
  ⟨by decide +kernel, by decide +kernel, ⟨rfl, rfl, by decide +kernel, nofun⟩, ⟨rfl, rfl, nofun, imageDev_valid⟩,
    by decide +kernel⟩

end Sys2Proof.Tests
end

section
/-! SUPPORT. The fault memory (chapter 7): the searches over slots and pool entries, what each operation of FLT writes
of FLT itself, the replacement candidate, the passes of SAVING entry, and with them the statement
`Obligations.FaultReportsWriteRecords` (O48). What the operations leave of the other blocks is in the `told_` lemmas. -/

namespace Sys2Proof.Machine

variable {d₀ d e : Dev} {code : BitVec 16} {i : Fin 40} {r : FaultRec}

/-! ## Passes in ascending order -/

/-- A pass that keeps `before` below index `i`, turns it into `after` at `i` and keeps that above `i`. -/
theorem foldl_finRange_at {k : Nat} {β : Type} {f : β → Fin k → β} {b : β} (before after : β → Prop) (i : Fin k)
    (below : ∀ j < i, ∀ b, before b → before (f b j)) (here : ∀ b, before b → after (f b i))
    (above : ∀ j, i < j → ∀ b, after b → after (f b j)) (h : before b) :
    after ((List.finRange k).foldl f b) := by
  obtain ⟨l, m, split⟩ := List.append_of_mem (List.mem_finRange i)
  have sorted := (List.sortedLT_finRange k).pairwise
  rw [split, List.pairwise_append, List.pairwise_cons] at sorted
  obtain ⟨-, ⟨hm, -⟩, hl⟩ := sorted
  rw [split, List.foldl_append, List.foldl_cons]
  refine List.foldlRecOn m f (here _ (List.foldlRecOn l f h ?_)) ?_
  · exact fun b hb j hj => below j (hl j hj i List.mem_cons_self) b hb
  · exact fun b hb j hj => above j (hm j hj) b hb

theorem forEach_at {k : Nat} {f : Fin k → Dev → Dev} (before after : Dev → Prop) (i : Fin k)
    (others : ∀ j ≠ i, ∀ e, before e → before (f j e)) (here : ∀ e, before e → after (f i e))
    (keeps : ∀ j ≠ i, ∀ e, after e → after (f j e)) (h : before d) : after (forEach k f d) :=
  foldl_finRange_at before after i (fun j hj => others j hj.ne) here (fun j hj => keeps j hj.ne') h

theorem forEach_keeps {k : Nat} {f : Fin k → Dev → Dev} (P : Dev → Prop) (hf : ∀ j e, P e → P (f j e)) (h : P d) :
    P (forEach k f d) :=
  List.foldlRecOn _ _ h fun e he j _ => hf j e he

/-! ## Searches -/

theorem find?_finRange_eq_some {n : Nat} {p : Fin n → Bool} {i : Fin n} :
    (List.finRange n).find? p = some i ↔ p i = true ∧ ∀ j < i, p j = false := by
  rw [← Fin.find?_eq_find?_finRange, Fin.find?_eq_some_iff]

theorem FaultSlot.holds_iff (s : FaultSlot) (code : BitVec 16) :
    s.holds code = true ↔ ∃ r, s.record = some r ∧ r.code = code := by
  unfold FaultSlot.holds
  cases s.record <;> simp

theorem findCode_eq_some_iff : findCode d code = some i ↔
    (∃ r, (d.slot i).record = some r ∧ r.code = code) ∧
      ∀ k, k < i → ¬∃ r, (d.slot k).record = some r ∧ r.code = code := by
  simp only [findCode, find?_finRange_eq_some, ← Bool.not_eq_true, FaultSlot.holds_iff]

theorem findCode_eq_none_iff : findCode d code = none ↔
    ∀ k, ¬∃ r, (d.slot k).record = some r ∧ r.code = code := by
  simp only [findCode, List.find?_eq_none, List.mem_finRange, true_imp_iff, FaultSlot.holds_iff]

theorem freeSlot_eq_some_iff : freeSlot d = some i ↔
    (d.slot i).record = none ∧ ∀ k, k < i → (d.slot k).record ≠ none := by
  simp [freeSlot, find?_finRange_eq_some, Option.isSome_iff_ne_none]

theorem freeSlot_eq_none_iff : freeSlot d = none ↔ ∀ k, (d.slot k).record ≠ none := by
  simp [freeSlot]

theorem freePool_eq_some_iff {p : Fin 8} : freePool d = some p ↔
    d.flt.pool[p] = none ∧ ∀ q : Fin 8, q < p → d.flt.pool[q] ≠ none := by
  simp [freePool, find?_finRange_eq_some, Option.isSome_iff_ne_none]

theorem freePool_eq_none_iff : freePool d = none ↔ ∀ p : Fin 8, d.flt.pool[p] ≠ none := by
  simp [freePool]

/-! ## What the operations write of FLT -/

theorem lnkPost_flt (k : NoticeKind) (s : Nat) (c : List Byte) (d : Dev) : (lnkPost k s c d).flt = d.flt := by
  unfold lnkPost
  repeat' split
  all_goals rfl

theorem countGrant_flt (q : Requester) (d : Dev) : (countGrant q d).flt = d.flt := by
  unfold countGrant
  split <;> rfl

/-- A grant moves FLT's dirty queue and its write in flight. -/
theorem grantTo_flt (q : Requester) (d : Dev) :
    (grantTo q d).flt = { d.flt with queue := (grantTo q d).flt.queue, write := (grantTo q d).flt.write } := by
  cases q with
  | odometer => rfl
  | faultWriter | loader | hostRead | imageStore =>
    simp only [grantTo]
    split <;> rfl

theorem stoGrant_flt (d : Dev) :
    (stoGrant d).flt = { d.flt with queue := (stoGrant d).flt.queue, write := (stoGrant d).flt.write } := by
  unfold stoGrant
  split
  · rfl
  · split
    · rw [grantTo_flt, countGrant_flt]
    · rfl

theorem fltDirty_flt (i : Fin 40) (renewed : Bool) (d : Dev) : (fltDirty i renewed d).flt = { d.flt with
    slots := d.flt.slots.set i { d.slot i with dirty := true }
    queue := (fltDirty i renewed d).flt.queue, write := (fltDirty i renewed d).flt.write } := by
  have enqueue (e : Dev) : (fltDirty.enqueue i e).flt = { e.flt with
      queue := (fltDirty.enqueue i e).flt.queue, write := (fltDirty.enqueue i e).flt.write } := by
    unfold fltDirty.enqueue
    split
    · rfl
    · rw [stoGrant_flt]
  unfold fltDirty
  dsimp only
  split
  · split
    · rfl
    · rw [enqueue]; rfl
  · rw [enqueue]; rfl

/-- A record written: its slot, and the way of the slot to the store. -/
theorem commitRecord_flt (i : Fin 40) (r : FaultRec) (renewed : Bool) (d : Dev) :
    (commitRecord i r renewed d).flt = { d.flt with
      slots := d.flt.slots.set i ⟨some r, true⟩
      queue := (commitRecord i r renewed d).flt.queue, write := (commitRecord i r renewed d).flt.write } := by
  simp only [commitRecord, postFault, lnkPost_flt]
  rw [fltDirty_flt]
  simp [Dev.setSlot, Dev.slot]

/-- The pool when the entry a frame reference names is free. -/
def freedPool (f : FrameRef) (pool : Vector (Option FreezeFrame) 8) : Vector (Option FreezeFrame) 8 :=
  match f with
  | .inPool p => pool.set p none
  | .absent | .stored => pool

theorem freeFrame_eq (f : FrameRef) (d : Dev) :
    freeFrame f d = { d with flt := { d.flt with pool := freedPool f d.flt.pool } } := by
  cases f <;> rfl

/-- A record erased: its slot and its pool entry, and the way of the slot to the store. -/
theorem eraseSlot_flt (i : Fin 40) (r : FaultRec) (d : Dev) : (eraseSlot i r d).flt = { d.flt with
    slots := d.flt.slots.set i ⟨none, true⟩, pool := freedPool r.frame d.flt.pool
    queue := (eraseSlot i r d).flt.queue, write := (eraseSlot i r d).flt.write } := by
  simp only [eraseSlot, postFault, lnkPost_flt, freeFrame_eq]
  rw [fltDirty_flt]
  simp [Dev.setSlot, Dev.slot]

theorem commitRecord_slot (i k : Fin 40) (r : FaultRec) (renewed : Bool) (d : Dev) :
    (commitRecord i r renewed d).slot k = if i = k then ⟨some r, true⟩ else d.slot k := by
  rw [← setSlot_slot, Dev.slot, commitRecord_flt]
  rfl

theorem eraseSlot_slot (i k : Fin 40) (r : FaultRec) (d : Dev) :
    (eraseSlot i r d).slot k = if i = k then ⟨none, true⟩ else d.slot k := by
  rw [← setSlot_slot, Dev.slot, eraseSlot_flt]
  rfl

@[simp] theorem commitRecord_pool (i : Fin 40) (r : FaultRec) (renewed : Bool) (d : Dev) :
    (commitRecord i r renewed d).flt.pool = d.flt.pool := by
  rw [commitRecord_flt]

@[simp] theorem eraseSlot_pool (i : Fin 40) (r : FaultRec) (d : Dev) :
    (eraseSlot i r d).flt.pool = freedPool r.frame d.flt.pool := by
  rw [eraseSlot_flt]

/-! ## Records written -/

/-- From `d` to `e` the record of one slot is written and the slot made dirty: the other slots and the dropped count
stay, and beside FLT only the notices and the storage port move. -/
def RecordWritten (d e : Dev) (i : Fin 40) (r : FaultRec) : Prop :=
  Told 0 d e ∧ e.slot i = ⟨some r, true⟩ ∧ (∀ k, k ≠ i → e.slot k = d.slot k) ∧ e.flt.dropped = d.flt.dropped

theorem commitRecord_written (i : Fin 40) (r : FaultRec) (renewed : Bool) (d : Dev) :
    RecordWritten d (commitRecord i r renewed d) i r := by
  refine ⟨told_commitRecord i r renewed (Told.refl 0 d), ?_, fun k hk => ?_, ?_⟩
  · rw [commitRecord_slot, if_pos rfl]
  · rw [commitRecord_slot, if_neg hk.symm]
  · rw [commitRecord_flt]

/-- The pool is no part of what `RecordWritten` compares. -/
theorem RecordWritten.of_pool {pool : Vector (Option FreezeFrame) 8}
    (h : RecordWritten { d with flt := { d.flt with pool := pool } } e i r) : RecordWritten d e i r := by
  obtain ⟨told, slot, others, dropped⟩ := h
  exact ⟨(told_flt _ (Told.refl 0 d)).trans told, slot, others, dropped⟩

/-- From `d` to `e` a new record of a code and severity is written (R133), its frame taken from `pool` (R135). -/
def RecordCreated (d e : Dev) (code : BitVec 16) (sev : Severity) (i : Fin 40)
    (pool : Vector (Option FreezeFrame) 8) : Prop :=
  let framed := sev ≠ .minor ∧ d.cal.valid = true
  ∃ frame lost,
    RecordWritten d e i {
      code := code, active := true, severity := sev, occurrences := 1
      firstDistance := d.pls.distance, lastDistance := d.pls.distance
      firstCycle := d.pls.cycles, lastCycle := d.pls.cycles
      aging := 0, frame := frame, frameLost := lost } ∧
    (¬framed → frame = .absent ∧ lost = false ∧ e.flt.pool = pool) ∧
    (framed → (∀ p : Fin 8, pool[p] ≠ none) → frame = .absent ∧ lost = true ∧ e.flt.pool = pool) ∧
    (∀ p : Fin 8, framed → pool[p] = none → (∀ q : Fin 8, q < p → pool[q] ≠ none) →
      frame = .inPool p ∧ lost = false ∧ e.flt.pool = pool.set p (some (freezeFrame d code)))

theorem takeFrame_unframed {sev : Severity} (h : ¬(sev ≠ .minor ∧ d.cal.valid = true)) :
    takeFrame code sev d = (d, .absent, false) := by
  unfold takeFrame
  rw [if_pos (by simpa [or_iff_not_imp_left] using h)]

theorem takeFrame_pool {sev : Severity} {p : Fin 8} (h : sev ≠ .minor ∧ d.cal.valid = true)
    (free : freePool d = some p) : takeFrame code sev d =
      ({ d with flt := { d.flt with pool := d.flt.pool.set p (some (freezeFrame d code)) } }, .inPool p, false) := by
  unfold takeFrame
  rw [if_neg (by simpa using h), free]

theorem takeFrame_lost {sev : Severity} (h : sev ≠ .minor ∧ d.cal.valid = true) (full : freePool d = none) :
    takeFrame code sev d = (d, .absent, true) := by
  unfold takeFrame
  rw [if_neg (by simpa using h), full]

theorem createRecord_created (i : Fin 40) (code : BitVec 16) (sev : Severity) (renewed : Bool) (d : Dev) :
    RecordCreated d (createRecord i code sev renewed d) code sev i d.flt.pool := by
  by_cases framed : sev ≠ .minor ∧ d.cal.valid = true
  case neg =>
    simp only [createRecord, takeFrame_unframed framed]
    exact ⟨_, _, commitRecord_written .., fun _ => ⟨rfl, rfl, commitRecord_pool ..⟩, fun h => absurd h framed,
      fun _ h => absurd h framed⟩
  case pos =>
    cases free : freePool d with
    | none =>
      have full := freePool_eq_none_iff.mp free
      simp only [createRecord, takeFrame_lost framed free]
      exact ⟨_, _, commitRecord_written .., fun h => absurd framed h, fun _ _ => ⟨rfl, rfl, commitRecord_pool ..⟩,
        fun p _ hp => absurd hp (full p)⟩
    | some p =>
      simp only [createRecord, takeFrame_pool framed free]
      refine ⟨_, _, (commitRecord_written ..).of_pool, fun h => absurd framed h, fun _ full => ?_,
        fun q _ hq least => ?_⟩
      · exact absurd (freePool_eq_some_iff.mp free).1 (full p)
      · obtain rfl : p = q := Option.some.inj (free.symm.trans (freePool_eq_some_iff.mpr ⟨hq, least⟩))
        exact ⟨rfl, rfl, commitRecord_pool ..⟩

/-- A new record over one whose frame has been freed (R134). -/
theorem createRecord_freeFrame_created (i : Fin 40) (code : BitVec 16) (sev : Severity) (renewed : Bool)
    (f : FrameRef) (d : Dev) :
    RecordCreated d (createRecord i code sev renewed (freeFrame f d)) code sev i (freedPool f d.flt.pool) := by
  rw [freeFrame_eq]
  obtain ⟨frame, lost, written, frames⟩ := createRecord_created i code sev renewed
    { d with flt := { d.flt with pool := freedPool f d.flt.pool } }
  exact ⟨frame, lost, written.of_pool, frames⟩

/-! ## Absent reports -/

theorem fltAbsent_active (h : findCode d code = some i) (hr : (d.slot i).record = some r) (ha : r.active = true) :
    fltAbsent code d = commitRecord i { r with active := false } false d := by
  simp only [fltAbsent, h, hr, ha, if_true]

theorem fltAbsent_no_active
    (h : ∀ i r, (d.slot i).record = some r → r.code = code → r.active = false) : fltAbsent code d = d := by
  unfold fltAbsent
  split
  next i found =>
    obtain ⟨⟨r, hr, hc⟩, -⟩ := findCode_eq_some_iff.mp found
    simp [hr, h i r hr hc]
  next => rfl

/-! ## Replacement (R134) -/

/-- What the search for the candidate does at one slot. -/
def candidateStep (d : Dev) (best : Option (Fin 40 × FaultRec)) (i : Fin 40) : Option (Fin 40 × FaultRec) :=
  match (d.slot i).record with
  | some r =>
    if r.active then best
    else match best with
      | some b => if keepsCandidate b.2 r then best else some (i, r)
      | none => some (i, r)
  | none => best

theorem replaceCandidate_eq_foldl (d : Dev) :
    replaceCandidate d = (List.finRange 40).foldl (candidateStep d) none := rfl

/-- A record is replaced before another by R134: lower severity, then higher aging, then the lower slot. -/
def ReplacedBefore (i : Fin 40) (r : FaultRec) (k : Fin 40) (q : FaultRec) : Prop :=
  r.severity.code < q.severity.code ∨ (r.severity.code = q.severity.code ∧
    (q.aging < r.aging ∨ (q.aging = r.aging ∧ i < k)))

theorem keepsCandidate_of_replacedBefore {k : Fin 40} {q : FaultRec} (h : ReplacedBefore i r k q) :
    keepsCandidate r q = true := by
  simp only [keepsCandidate, Bool.or_eq_true, Bool.and_eq_true, decide_eq_true_eq, beq_iff_eq]
  unfold ReplacedBefore at h
  omega

theorem not_keepsCandidate_of_replacedBefore {k : Fin 40} {q : FaultRec} (hk : k < i)
    (h : ReplacedBefore i r k q) : keepsCandidate q r = false := by
  rw [← Bool.not_eq_true]
  simp only [keepsCandidate, Bool.or_eq_true, Bool.and_eq_true, decide_eq_true_eq, beq_iff_eq]
  unfold ReplacedBefore at h
  omega

theorem replaceCandidate_eq_none (h : ∀ k r, (d.slot k).record = some r → r.active = true) :
    replaceCandidate d = none := by
  rw [replaceCandidate_eq_foldl]
  refine List.foldlRecOn (motive := (· = none)) _ _ rfl fun best hb k _ => ?_
  unfold candidateStep
  split
  next r hr => rw [if_pos (h k r hr), hb]
  next => exact hb

/-- What the search holds below slot `i`: nothing, or a PASSIVE record of a slot below. -/
def CandidateBelow (d : Dev) (i : Fin 40) (best : Option (Fin 40 × FaultRec)) : Prop :=
  ∀ k q, best = some (k, q) → k < i ∧ (d.slot k).record = some q ∧ q.active = false

theorem candidateStep_below {k : Fin 40} {best : Option (Fin 40 × FaultRec)} (hk : k < i)
    (hb : CandidateBelow d i best) : CandidateBelow d i (candidateStep d best k) := by
  unfold candidateStep
  split
  next q hq =>
    split
    next => exact hb
    next passive =>
      have new : CandidateBelow d i (some (k, q)) := by
        rintro _ _ ⟨⟩
        exact ⟨hk, hq, by simpa using passive⟩
      split
      · split
        · exact hb
        · exact new
      · exact new
  next => exact hb

/-- The PASSIVE record that is replaced before every other one is the candidate: the search takes it at its slot and
keeps it from there on. -/
theorem replaceCandidate_eq_some (hr : (d.slot i).record = some r) (hp : r.active = false)
    (first : ∀ k q, k ≠ i → (d.slot k).record = some q → q.active = false → ReplacedBefore i r k q) :
    replaceCandidate d = some (i, r) := by
  rw [replaceCandidate_eq_foldl]
  refine foldl_finRange_at (before := CandidateBelow d i) (after := (· = some (i, r))) i
    (fun k hk best => candidateStep_below hk) (fun best hb => ?_) (fun k hk best hb => ?_) nofun
  · simp only [candidateStep, hr, hp]
    split
    next => contradiction
    next =>
      split
      next b =>
        obtain ⟨lower, hb, passive⟩ := hb b.1 b.2 rfl
        rw [not_keepsCandidate_of_replacedBefore lower (first b.1 b.2 lower.ne hb passive)]
        rfl
      next => rfl
  · subst hb
    unfold candidateStep
    split
    next q hq =>
      split
      next => rfl
      next passive =>
        exact if_pos (keepsCandidate_of_replacedBefore (first k q hk.ne' hq (by simpa using passive)))
    next => rfl

/-! ## Present reports -/

section Present

variable {g : Nat} (hg : groupEntry (code.toNat / 256) = some g)
include hg

theorem fltPresent_masked (hm : (d.groupSetting g).1 = true) : fltPresent code d = d := by
  simp only [fltPresent, hg, hm, if_true]

variable (hm : (d.groupSetting g).1 = false)
include hm

theorem fltPresent_held (h : findCode d code = some i) (hr : (d.slot i).record = some r) :
    fltPresent code d = if r.active then d else reactivate i r (d.groupSetting g).2 d := by
  simp only [fltPresent, hg, hm, h, hr]
  rfl

theorem fltPresent_free (h : findCode d code = none) (hf : freeSlot d = some i) :
    fltPresent code d = createRecord i code (d.groupSetting g).2 false d := by
  simp only [fltPresent, hg, hm, h, hf]
  rfl

theorem fltPresent_full (h : findCode d code = none) (hf : freeSlot d = none) :
    fltPresent code d = replaceRecord code (d.groupSetting g).2 d := by
  simp only [fltPresent, hg, hm, h, hf]
  rfl

/-- With no slot free and no PASSIVE record, a new code is dropped and counted (R134). -/
theorem fltPresent_all_active (h : findCode d code = none) (hf : freeSlot d = none)
    (active : ∀ k r, (d.slot k).record = some r → r.active = true) :
    fltPresent code d = { d with flt := { d.flt with dropped := bump 255 d.flt.dropped } } := by
  rw [fltPresent_full hg hm h hf, replaceRecord, replaceCandidate_eq_none active]

section Candidate

variable (h : findCode d code = none) (hf : freeSlot d = none) (hr : (d.slot i).record = some r)
  (hp : r.active = false)
  (first : ∀ k q, k ≠ i → (d.slot k).record = some q → q.active = false → ReplacedBefore i r k q)
include h hf hr hp first

theorem fltPresent_replaces (atMost : r.severity.code ≤ (d.groupSetting g).2.code) :
    fltPresent code d = createRecord i code (d.groupSetting g).2 true (freeFrame r.frame d) := by
  rw [fltPresent_full hg hm h hf, replaceRecord, replaceCandidate_eq_some hr hp first]
  exact if_pos atMost

theorem fltPresent_drops (above : (d.groupSetting g).2.code < r.severity.code) :
    fltPresent code d = { d with flt := { d.flt with dropped := bump 255 d.flt.dropped } } := by
  rw [fltPresent_full hg hm h hf, replaceRecord, replaceCandidate_eq_some hr hp first]
  exact if_neg (Nat.not_le.mpr above)

end Candidate

end Present

/-! ## SAVING entry (R142) -/

/-- A slot after the first pass: an ACTIVE record is PASSIVE with aging 0. -/
def FaultSlot.passivated (s : FaultSlot) : FaultSlot :=
  match s.record with
  | none => s
  | some r => if r.active then ⟨some { r with active := false, aging := 0 }, true⟩ else s

/-- A slot after the aging pass in a cycle with a limit. -/
def FaultSlot.aged (cycle limit : Nat) (s : FaultSlot) : FaultSlot :=
  match s.record with
  | none => s
  | some r =>
    if r.active || r.lastCycle == cycle then s
    else if limit ≤ bump 255 r.aging then ⟨none, true⟩
    else ⟨some { r with aging := bump 255 r.aging }, true⟩

/-- What the first pass does at one slot: nothing, or a record written there. -/
theorem passivateSlot_keeps {P : Dev → Prop} (unchanged : P d) (commit : ∀ r, P (commitRecord i r false d)) :
    P (passivateSlot i d) := by
  unfold passivateSlot
  split
  · exact unchanged
  · split
    · exact commit _
    · exact unchanged

/-- What the aging pass does at one slot: nothing, or a record written or erased there. -/
theorem ageSlot_keeps {P : Dev → Prop} (unchanged : P d) (erase : ∀ r, P (eraseSlot i r d))
    (commit : ∀ r, P (commitRecord i r false d)) : P (ageSlot i d) := by
  unfold ageSlot
  split
  · exact unchanged
  · dsimp only
    split
    · exact unchanged
    · split
      · exact erase _
      · exact commit _

theorem passivateSlot_slot_self (i : Fin 40) (d : Dev) : (passivateSlot i d).slot i = (d.slot i).passivated := by
  unfold passivateSlot FaultSlot.passivated
  cases (d.slot i).record with
  | none => rfl
  | some r =>
    dsimp only
    split
    · rw [commitRecord_slot, if_pos rfl]
    · rfl

theorem passivateSlot_slot_ne {k : Fin 40} (h : i ≠ k) (d : Dev) : (passivateSlot i d).slot k = d.slot k :=
  passivateSlot_keeps (P := fun e => e.slot k = d.slot k) rfl fun r => by rw [commitRecord_slot, if_neg h]

theorem ageSlot_slot_self (i : Fin 40) (d : Dev) :
    (ageSlot i d).slot i = (d.slot i).aged d.pls.cycles d.flt.agingLimit := by
  unfold ageSlot FaultSlot.aged
  cases (d.slot i).record with
  | none => rfl
  | some r =>
    dsimp only
    split
    · rfl
    · split
      · rw [eraseSlot_slot, if_pos rfl]
      · rw [commitRecord_slot, if_pos rfl]

/-! ### The context of the passes -/

/-- What the passes read beside the slots, and the dropped count. -/
def savingContext (d : Dev) : Nat × Nat × Nat := (d.pls.cycles, d.flt.agingLimit, d.flt.dropped)

theorem savingContext_eq_iff : savingContext e = savingContext d ↔
    e.pls.cycles = d.pls.cycles ∧ e.flt.agingLimit = d.flt.agingLimit ∧ e.flt.dropped = d.flt.dropped := by
  simp only [savingContext, Prod.mk.injEq]

theorem Told.cycles {n : Nat} (h : Told n d e) : e.pls.cycles = d.pls.cycles := by
  rw [h.pls]

theorem commitRecord_context (i : Fin 40) (r : FaultRec) (renewed : Bool) (d : Dev) :
    savingContext (commitRecord i r renewed d) = savingContext d := by
  rw [savingContext_eq_iff, commitRecord_flt]
  exact ⟨(told_commitRecord i r renewed (Told.refl 0 d)).cycles, rfl, rfl⟩

theorem eraseSlot_context (i : Fin 40) (r : FaultRec) (d : Dev) :
    savingContext (eraseSlot i r d) = savingContext d := by
  rw [savingContext_eq_iff, eraseSlot_flt]
  exact ⟨(told_eraseSlot i r (Told.refl 0 d)).cycles, rfl, rfl⟩

theorem passivateSlot_context (i : Fin 40) (d : Dev) : savingContext (passivateSlot i d) = savingContext d :=
  passivateSlot_keeps (P := (savingContext · = savingContext d)) rfl (commitRecord_context i · false d)

/-! ### The two passes -/

/-- The aging pass at one slot: only what was not ACTIVE at the entry ages. -/
def ageUnlessActive (start : Dev) (i : Fin 40) (d : Dev) : Dev :=
  if (start.slot i).isActive then d else ageSlot i d

/-- The aging pass, once in a cycle. -/
def agingPass (start d : Dev) : Dev :=
  if start.flt.cycleAged = some start.pls.cycles then d else forEach 40 (ageUnlessActive start) d

theorem fltSaving_flt (d : Dev) : (fltSaving d).flt =
    { (agingPass d (forEach 40 passivateSlot d)).flt with cycleAged := some (fltSaving d).pls.cycles } := by
  simp only [fltSaving, agingPass, beq_iff_eq]
  rfl

theorem ageUnlessActive_keeps {P : Dev → Prop} (start : Dev) (unchanged : P d) (erase : ∀ r, P (eraseSlot i r d))
    (commit : ∀ r, P (commitRecord i r false d)) : P (ageUnlessActive start i d) := by
  unfold ageUnlessActive
  split
  · exact unchanged
  · exact ageSlot_keeps unchanged erase commit

theorem ageUnlessActive_slot_ne {k : Fin 40} (start : Dev) (h : i ≠ k) (d : Dev) :
    (ageUnlessActive start i d).slot k = d.slot k :=
  ageUnlessActive_keeps (P := fun e => e.slot k = d.slot k) start rfl
    (fun r => by rw [eraseSlot_slot, if_neg h]) (fun r => by rw [commitRecord_slot, if_neg h])

theorem ageUnlessActive_context (start : Dev) (i : Fin 40) (d : Dev) :
    savingContext (ageUnlessActive start i d) = savingContext d :=
  ageUnlessActive_keeps (P := (savingContext · = savingContext d)) start rfl (eraseSlot_context i · d)
    (commitRecord_context i · false d)

theorem passivatePass_context (d : Dev) : savingContext (forEach 40 passivateSlot d) = savingContext d :=
  forEach_keeps (savingContext · = savingContext d) (fun j e h => (passivateSlot_context j e).trans h) rfl

theorem agingPass_context (start d : Dev) : savingContext (agingPass start d) = savingContext d := by
  unfold agingPass
  split
  · rfl
  · exact forEach_keeps (savingContext · = savingContext d)
      (fun j e h => (ageUnlessActive_context start j e).trans h) rfl

theorem passivatePass_slot (i : Fin 40) (d : Dev) :
    (forEach 40 passivateSlot d).slot i = (d.slot i).passivated :=
  forEach_at (before := fun e => e.slot i = d.slot i) (after := fun e => e.slot i = (d.slot i).passivated) i
    (fun _ hj e h => (passivateSlot_slot_ne hj e).trans h) (fun e h => by rw [passivateSlot_slot_self, h])
    (fun _ hj e h => (passivateSlot_slot_ne hj e).trans h) rfl

/-- A pass that ages finds slot `i`, not ACTIVE at the entry, and the context as they were before the pass; what
aging the slot there brings about, and aging another slot keeps, holds after the pass. -/
theorem agingPass_at {start : Dev} (once : start.flt.cycleAged ≠ some start.pls.cycles)
    (inactive : (start.slot i).isActive = false) (after : Dev → Prop)
    (here : ∀ e, e.slot i = d.slot i → savingContext e = savingContext d → after (ageSlot i e))
    (keeps : ∀ j ≠ i, ∀ e, after e → after (ageUnlessActive start j e)) : after (agingPass start d) := by
  rw [agingPass, if_neg once]
  refine forEach_at (before := fun e => e.slot i = d.slot i ∧ savingContext e = savingContext d) after i
    (fun j hj e ⟨slot, context⟩ => ⟨(ageUnlessActive_slot_ne start hj e).trans slot,
      (ageUnlessActive_context start j e).trans context⟩) (fun e ⟨slot, context⟩ => ?_) keeps ⟨rfl, rfl⟩
  rw [ageUnlessActive, inactive]
  exact here e slot context

theorem agingPass_slot_aged {start : Dev} (once : start.flt.cycleAged ≠ some start.pls.cycles)
    (inactive : (start.slot i).isActive = false) (d : Dev) :
    (agingPass start d).slot i = (d.slot i).aged d.pls.cycles d.flt.agingLimit := by
  refine agingPass_at once inactive (fun e => e.slot i = _) (fun e slot context => ?_)
    (fun j hj e h => (ageUnlessActive_slot_ne start hj e).trans h)
  obtain ⟨cycles, limit, -⟩ := savingContext_eq_iff.mp context
  rw [ageSlot_slot_self, slot, cycles, limit]

theorem agingPass_slot_active {start : Dev} (active : (start.slot i).isActive = true) (d : Dev) :
    (agingPass start d).slot i = d.slot i := by
  unfold agingPass
  split
  · rfl
  · refine forEach_keeps (fun e => e.slot i = d.slot i) (fun j e h => ?_) rfl
    by_cases same : j = i
    · rw [ageUnlessActive, same, active]
      exact h
    · exact (ageUnlessActive_slot_ne start same e).trans h

/-! ### SAVING entry, slot by slot -/

theorem FaultSlot.isActive_of_record {s : FaultSlot} (h : s.record = some r) : s.isActive = r.active := by
  rw [FaultSlot.isActive, h]

theorem FaultSlot.passivated_of_not_isActive {s : FaultSlot} (h : s.isActive = false) : s.passivated = s := by
  unfold FaultSlot.passivated
  split
  · rfl
  next r hr =>
    rw [FaultSlot.isActive_of_record hr] at h
    simp [h]

/-- A slot at SAVING entry: aged, once in a cycle, where it was not ACTIVE, and passivated otherwise. -/
theorem fltSaving_slot (i : Fin 40) (d : Dev) : (fltSaving d).slot i =
    if d.flt.cycleAged ≠ some d.pls.cycles ∧ (d.slot i).isActive = false then
      (d.slot i).aged d.pls.cycles d.flt.agingLimit
    else (d.slot i).passivated := by
  have slots : (fltSaving d).slot i = (agingPass d (forEach 40 passivateSlot d)).slot i := by
    rw [Dev.slot, fltSaving_flt]
    rfl
  rw [slots, ← passivatePass_slot]
  split
  next ages =>
    obtain ⟨once, inactive⟩ := ages
    obtain ⟨cycles, limit, -⟩ := savingContext_eq_iff.mp (passivatePass_context d)
    rw [agingPass_slot_aged once inactive, cycles, limit, passivatePass_slot,
      FaultSlot.passivated_of_not_isActive inactive]
  next stays =>
    by_cases once : d.flt.cycleAged = some d.pls.cycles
    · rw [agingPass, if_pos once]
    · exact agingPass_slot_active (by simpa [once] using stays) _

theorem fltSaving_dropped (d : Dev) : (fltSaving d).flt.dropped = d.flt.dropped := by
  obtain ⟨-, -, dropped⟩ := savingContext_eq_iff.mp ((agingPass_context d _).trans (passivatePass_context d))
  rw [fltSaving_flt]
  exact dropped

theorem fltSaving_cycleAged (d : Dev) : (fltSaving d).flt.cycleAged = some d.pls.cycles := by
  rw [fltSaving_flt, (told_fltSaving (Told.refl 0 d)).cycles]

theorem fltSaving_slot_free (hr : (d.slot i).record = none) : (fltSaving d).slot i = d.slot i := by
  simp [fltSaving_slot, FaultSlot.aged, FaultSlot.passivated, hr]

theorem fltSaving_slot_active (hr : (d.slot i).record = some r) (active : r.active = true) :
    (fltSaving d).slot i = ⟨some { r with active := false, aging := 0 }, true⟩ := by
  simp [fltSaving_slot, FaultSlot.isActive_of_record hr, FaultSlot.passivated, hr, active]

theorem fltSaving_slot_unaged (hr : (d.slot i).record = some r) (passive : r.active = false)
    (stays : d.flt.cycleAged = some d.pls.cycles ∨ r.lastCycle = d.pls.cycles) :
    (fltSaving d).slot i = d.slot i := by
  rcases stays with done | recent
  · simp [fltSaving_slot, FaultSlot.passivated, hr, passive, done]
  · simp [fltSaving_slot, FaultSlot.passivated, FaultSlot.aged, hr, passive, recent]

section Ages

variable (hr : (d.slot i).record = some r) (passive : r.active = false)
  (once : d.flt.cycleAged ≠ some d.pls.cycles) (stale : r.lastCycle ≠ d.pls.cycles)
include hr passive once stale

theorem fltSaving_slot_aged (below : bump 255 r.aging < d.flt.agingLimit) :
    (fltSaving d).slot i = ⟨some { r with aging := bump 255 r.aging }, true⟩ := by
  simp [fltSaving_slot, FaultSlot.isActive_of_record hr, FaultSlot.aged, hr, passive, once, stale,
    Nat.not_le.mpr below]

theorem fltSaving_slot_erased (limit : d.flt.agingLimit ≤ bump 255 r.aging) :
    (fltSaving d).slot i = ⟨none, true⟩ := by
  simp [fltSaving_slot, FaultSlot.isActive_of_record hr, FaultSlot.aged, hr, passive, once, stale, limit]

end Ages

/-! ### The pool entries of erased records -/

theorem freedPool_none {f : FrameRef} {pool : Vector (Option FreezeFrame) 8} {p : Fin 8}
    (h : f = .inPool p ∨ pool[p] = none) : (freedPool f pool)[p] = none := by
  cases f with
  | absent | stored => simpa [freedPool] using h
  | inPool q =>
    by_cases same : q = p
    · simp [freedPool, same]
    · have free : pool[p] = none := h.resolve_left fun eq => same (FrameRef.inPool.inj eq)
      have ne : q.val ≠ p.val := fun eq => same (Fin.ext eq)
      simpa [freedPool, Vector.getElem_set_ne, ne] using free

theorem ageUnlessActive_pool_none {p : Fin 8} (start : Dev) (j : Fin 40) (h : d.flt.pool[p] = none) :
    (ageUnlessActive start j d).flt.pool[p] = none :=
  ageUnlessActive_keeps (P := fun e => e.flt.pool[p] = none) start h
    (fun r => by simp only [eraseSlot_pool]; exact freedPool_none (.inr h))
    (fun r => by simp only [commitRecord_pool]; exact h)

/-- A record that reaches the limit gives its pool entry back. -/
theorem ageSlot_frees {p : Fin 8} (hr : (d.slot i).record = some r) (passive : r.active = false)
    (stale : r.lastCycle ≠ d.pls.cycles) (limit : d.flt.agingLimit ≤ bump 255 r.aging) (hp : r.frame = .inPool p) :
    (ageSlot i d).flt.pool[p] = none := by
  simp only [ageSlot, hr, passive, beq_eq_false_iff_ne.mpr stale, limit, Bool.or_self, Bool.false_eq_true, if_false,
    if_true, eraseSlot_pool]
  exact freedPool_none (.inl hp)

theorem fltSaving_frees {p : Fin 8} (hr : (d.slot i).record = some r) (passive : r.active = false)
    (once : d.flt.cycleAged ≠ some d.pls.cycles) (stale : r.lastCycle ≠ d.pls.cycles)
    (limit : d.flt.agingLimit ≤ bump 255 r.aging) (hp : r.frame = .inPool p) :
    (fltSaving d).flt.pool[p] = none := by
  have inactive : (d.slot i).isActive = false := by rw [FaultSlot.isActive_of_record hr, passive]
  have atEntry : (forEach 40 passivateSlot d).slot i = d.slot i := by
    rw [passivatePass_slot, FaultSlot.passivated_of_not_isActive inactive]
  rw [fltSaving_flt]
  refine agingPass_at once inactive (fun e => e.flt.pool[p] = none) (fun e slot context => ?_)
    (fun j _ e h => ageUnlessActive_pool_none d j h)
  obtain ⟨cycles, same, -⟩ := savingContext_eq_iff.mp (context.trans (passivatePass_context d))
  refine ageSlot_frees ?_ passive ?_ ?_ hp
  · rw [slot, atEntry, hr]
  · rwa [cycles]
  · rwa [same]

/-! ## The statement -/

/-- Settles O48: the reports by what the search for the code and for a free slot finds, with the replacement candidate
of R134, and SAVING entry slot by slot. -/
theorem faultReportsWriteRecords : Obligations.FaultReportsWriteRecords := by
  unfold Obligations.FaultReportsWriteRecords
  refine ⟨fun d code => ⟨?absentActive, fltAbsent_no_active, fun g hg => ⟨fltPresent_masked hg, fun hm =>
      ⟨?heldActive, ?heldPassive, ?freeSlot, ?noSlot⟩⟩⟩,
    fun d => ⟨told_fltSaving (Told.refl 0 d), fltSaving_cycleAged d, fltSaving_dropped d, fun i =>
      ⟨fltSaving_slot_free, fun r hr => ?saving⟩⟩⟩
  case absentActive =>
    rintro i r ⟨hr, hc, least⟩ active
    rw [fltAbsent_active (findCode_eq_some_iff.mpr ⟨⟨r, hr, hc⟩, least⟩) hr active]
    exact ⟨commitRecord_written .., commitRecord_pool ..⟩
  case heldActive =>
    rintro i r ⟨hr, hc, least⟩ active
    rw [fltPresent_held hg hm (findCode_eq_some_iff.mpr ⟨⟨r, hr, hc⟩, least⟩) hr, if_pos active]
  case heldPassive =>
    rintro i r ⟨hr, hc, least⟩ passive
    rw [fltPresent_held hg hm (findCode_eq_some_iff.mpr ⟨⟨r, hr, hc⟩, least⟩) hr, if_neg (by simp [passive])]
    exact ⟨commitRecord_pool .., commitRecord_written ..⟩
  case freeSlot =>
    intro i unheld free least
    rw [fltPresent_free hg hm (findCode_eq_none_iff.mpr unheld) (freeSlot_eq_some_iff.mpr ⟨free, least⟩)]
    exact createRecord_created ..
  case noSlot =>
    intro unheld full
    have h := findCode_eq_none_iff.mpr unheld
    have hf := freeSlot_eq_none_iff.mpr full
    refine ⟨fltPresent_all_active hg hm h hf, fun i r hr passive first =>
      ⟨fun atMost => ?_, fltPresent_drops hg hm h hf hr passive first⟩⟩
    rw [fltPresent_replaces hg hm h hf hr passive first atMost]
    exact createRecord_freeFrame_created ..
  case saving =>
    refine ⟨fltSaving_slot_active hr, fun passive stays => fltSaving_slot_unaged hr passive ?_,
      fun ⟨passive, once, stale⟩ => fltSaving_slot_aged hr passive once stale,
      fun ⟨passive, once, stale⟩ limit => ⟨fltSaving_slot_erased hr passive once stale limit, fun p =>
        fltSaving_frees hr passive once stale limit⟩⟩
    by_contra neither
    obtain ⟨once, stale⟩ := not_or.mp neither
    exact stays ⟨passive, once, stale⟩

end Sys2Proof.Machine
end

section
/-! SUPPORT. The arbiter of the storage port (R154): the members of a group, the order they are looked at after a
grant, the group served, and what a grant counts; the bytes of a fault slot (R139) and the record job that follows a
frame job (R153); with them the statement `Obligations.ArbitrationIsRoundRobin` (O39). -/

namespace Sys2Proof.Machine

variable {d : Dev} {high : Bool} {q r : Requester} {last : Option Requester}

/-! ## The groups -/

/-- The requesters of a group in the order section 8.3 lists them. -/
def groupOrder (high : Bool) : List Requester := if high then highOrder else lowOrder

/-- The last grant of a group (R154). -/
def Dev.lastGrant (d : Dev) (high : Bool) : Option Requester := if high then d.sto.lastHigh else d.sto.lastLow

theorem mem_groupOrder : r ∈ groupOrder high ↔ r.isHigh = high := by
  cases high <;> cases r <;> decide

/-- A job of a group waits. -/
def Dev.waits (d : Dev) (high : Bool) : Prop := ∃ r : Requester, r.isHigh = high ∧ holdsJob d r = true

theorem groupHolds_iff_waits (d : Dev) (high : Bool) : groupHolds d (groupOrder high) = true ↔ d.waits high := by
  simp only [groupHolds, List.any_eq_true, mem_groupOrder, Dev.waits]

theorem groupHolds_lowOrder_iff : groupHolds d lowOrder = true ↔ d.waits false := groupHolds_iff_waits d false

theorem groupHolds_highOrder_iff : groupHolds d highOrder = true ↔ d.waits true := groupHolds_iff_waits d true

/-! ## The order after a grant -/

/-- A requester's place in its group. -/
def Requester.place : Requester → Nat
  | .faultWriter | .hostRead => 0
  | .odometer | .imageStore => 1
  | .loader => 2

/-- How many requesters of its group stand between the last grant and a requester, counted round the group. -/
def Requester.turn (r : Requester) (last : Option Requester) : Nat :=
  let size := if r.isHigh then 3 else 2
  match last with
  | none => r.place
  | some l => (r.place + size - (l.place + 1)) % size

/-- The order after a grant to a member is the group's, rotated. -/
theorem afterGrant_perm {order : List Requester} (member : ∀ l, last = some l → l ∈ order) :
    (afterGrant order last).Perm order := by
  cases last with
  | none => exact .refl _
  | some l =>
    obtain ⟨before, rest, rfl, fresh⟩ := List.eq_append_cons_of_mem (member l rfl)
    have passed : ∀ q ∈ before, (q != l) = true := fun q hq => bne_iff_ne.mpr fun same => fresh (same ▸ hq)
    have rotated : afterGrant (before ++ l :: rest) (some l) = rest ++ before ++ [l] := by
      simp [afterGrant, List.dropWhile_append_of_pos passed, List.takeWhile_append_of_pos passed]
    rw [rotated, List.append_assoc]
    exact List.perm_append_comm.trans (by simp)

theorem afterGrant_sorted (own : ∀ l, last = some l → l.isHigh = high) :
    (afterGrant (groupOrder high) last).Pairwise (fun q r => q.turn last ≤ r.turn last) := by
  cases last with
  | none => cases high <;> decide
  | some l => obtain rfl := own l rfl; cases l <;> decide

/-- A search finds a least element of a sorted list. -/
theorem find?_sorted {α : Type} {p : α → Bool} {l : List α} {a b : α} {rank : α → Nat}
    (sorted : l.Pairwise (fun x y => rank x ≤ rank y)) (found : l.find? p = some a) (mem : b ∈ l) (hb : p b = true) :
    rank a ≤ rank b := by
  obtain ⟨-, before, after, rfl, passed⟩ := List.find?_eq_some_iff_append.mp found
  rcases List.mem_append.mp mem with hit | hit
  · exact absurd hb (by simpa using passed b hit)
  · obtain ⟨-, fromFound, -⟩ := List.pairwise_append.mp sorted
    obtain ⟨least, -⟩ := List.pairwise_cons.mp fromFound
    rcases List.mem_cons.mp hit with rfl | later
    · exact le_rfl
    · exact least b later

/-! ## The group served -/

/-- The first requester of a group after its last grant that holds a job. -/
def firstAfterGrant (d : Dev) (high : Bool) : Option Requester :=
  (afterGrant (groupOrder high) (d.lastGrant high)).find? (holdsJob d)

/-- Whether the high group is served: it holds a job and the low group has not waited for 4 of its grants. -/
def servesHigh (d : Dev) : Bool :=
  groupHolds d highOrder && !(groupHolds d lowOrder && d.sto.highWhileLow == 4)

theorem servesHigh_iff : servesHigh d = true ↔ d.waits true ∧ ¬(d.waits false ∧ d.sto.highWhileLow = 4) := by
  rw [← groupHolds_lowOrder_iff, ← groupHolds_highOrder_iff, servesHigh]
  cases groupHolds d lowOrder <;> simp

theorem arbitrate_eq (d : Dev) : arbitrate d = firstAfterGrant d (servesHigh d) := by
  simp only [arbitrate, servesHigh]
  cases groupHolds d lowOrder && d.sto.highWhileLow == 4 <;> cases groupHolds d highOrder <;> rfl

section Granted

variable (own : ∀ l, d.lastGrant high = some l → l.isHigh = high)
include own

theorem mem_afterGrant : r ∈ afterGrant (groupOrder high) (d.lastGrant high) ↔ r.isHigh = high :=
  (afterGrant_perm fun l hl => mem_groupOrder.mpr (own l hl)).mem_iff.trans mem_groupOrder

theorem firstAfterGrant_eq_none_iff : firstAfterGrant d high = none ↔ ¬d.waits high := by
  simp only [firstAfterGrant, List.find?_eq_none, mem_afterGrant own, Dev.waits, not_exists, not_and]

/-- A group's grant goes to the requester of least turn among those that hold a job. -/
theorem firstAfterGrant_eq_some (granted : firstAfterGrant d high = some r) :
    r.isHigh = high ∧ holdsJob d r = true ∧
      ∀ q, q.isHigh = high → holdsJob d q = true → r.turn (d.lastGrant high) ≤ q.turn (d.lastGrant high) :=
  ⟨(mem_afterGrant own).mp (List.mem_of_find?_eq_some granted), List.find?_some granted, fun _ group holds =>
    find?_sorted (afterGrant_sorted own) granted ((mem_afterGrant own).mpr group) holds⟩

end Granted

/-! ## The arbitrated grant -/

section Arbitrated

variable (own : ∀ high l, d.lastGrant high = some l → l.isHigh = high)
include own

theorem arbitrate_eq_none_iff : arbitrate d = none ↔ ¬d.waits true ∧ ¬d.waits false := by
  rw [arbitrate_eq, firstAfterGrant_eq_none_iff (own _)]
  cases serves : servesHigh d with
  | true =>
    obtain ⟨waits, -⟩ := servesHigh_iff.mp serves
    simp [waits]
  | false =>
    have notServed : ¬(d.waits true ∧ ¬(d.waits false ∧ d.sto.highWhileLow = 4)) := fun h => by
      simp [servesHigh_iff.mpr h] at serves
    tauto

/-- A grant goes to the group served. -/
theorem isHigh_of_arbitrate (granted : arbitrate d = some r) : r.isHigh = servesHigh d := by
  obtain ⟨served, -⟩ := firstAfterGrant_eq_some (own _) (arbitrate_eq d ▸ granted)
  exact served

theorem holdsJob_of_arbitrate (granted : arbitrate d = some r) : holdsJob d r = true := by
  obtain ⟨-, holds, -⟩ := firstAfterGrant_eq_some (own _) (arbitrate_eq d ▸ granted)
  exact holds

theorem turn_le_of_arbitrate (granted : arbitrate d = some r) (group : q.isHigh = r.isHigh)
    (holds : holdsJob d q = true) : r.turn (d.lastGrant r.isHigh) ≤ q.turn (d.lastGrant q.isHigh) := by
  obtain ⟨served, -, least⟩ := firstAfterGrant_eq_some (own _) (arbitrate_eq d ▸ granted)
  rw [group, served]
  exact least q (group.trans served) holds

theorem low_of_arbitrate_iff (granted : arbitrate d = some r) :
    r.isHigh = false ↔ d.waits false ∧ (d.sto.highWhileLow = 4 ∨ ¬d.waits true) := by
  have waits : d.waits r.isHigh := ⟨r, rfl, holdsJob_of_arbitrate own granted⟩
  have served := servesHigh_iff (d := d)
  rw [← isHigh_of_arbitrate own granted] at served
  cases group : r.isHigh with
  | true => simp only [group, true_iff] at served; tauto
  | false => simp only [group] at waits served; tauto

end Arbitrated

/-! ## The count of a grant -/

theorem countGrant_high_waited (group : r.isHigh = true) (waits : d.waits false) :
    countGrant r d =
      { d with sto := { d.sto with lastHigh := some r, highWhileLow := d.sto.highWhileLow + 1 } } := by
  rw [countGrant, if_pos group, if_pos (groupHolds_lowOrder_iff.mpr waits)]

theorem countGrant_high_alone (group : r.isHigh = true) (idle : ¬d.waits false) :
    countGrant r d = { d with sto := { d.sto with lastHigh := some r, highWhileLow := 0 } } := by
  rw [countGrant, if_pos group, if_neg (mt groupHolds_lowOrder_iff.mp idle)]

theorem countGrant_low (group : r.isHigh = false) :
    countGrant r d = { d with sto := { d.sto with lastLow := some r, highWhileLow := 0 } } := by
  rw [countGrant, if_neg (by simp [group])]

/-! ## The record job (R139, R153) -/

/-- The 30 covered bytes of a fault slot (section 11.8). -/
def coveredBytes : Option FaultRec → List Byte
  | none => zeros 30
  | some r => recordBytes r (storedFrameCode r.frame) ++ zeros 10

theorem faultSlotBytes_eq (record : Option FaultRec) :
    faultSlotBytes record = coveredBytes record ++ be16 (crc16 (coveredBytes record)).toNat := by
  cases record <;> rfl

/-- The record job writes the snapshot to its slot's place, and the port keeps the rest of its state. -/
theorem continueWrite_eq (w : FaultWrite) (d : Dev) :
    continueWrite w d = { d with
      flt := { d.flt with write := some { w with recordStage := true } }
      sto := { d.sto with job := some ⟨.faultWriter, .write (0x4100 + 32 * w.slot.val) (faultSlotBytes w.record),
        1, 0, .polling (d.clock + 1000), none, 0⟩ } } :=
  rfl

/-! ## The statement -/

/-- The covered bytes in the fields of section 11.8. -/
theorem coveredBytes_some (r : FaultRec) : coveredBytes (some r) =
    be16 r.code.toNat ++ [if r.active then 0#8 else 1#8, byte r.severity.code, byte r.occurrences, byte r.aging] ++
      be32 r.firstDistance ++ be32 r.lastDistance ++ be16 r.firstCycle ++ be16 r.lastCycle ++
      [if r.frame = .absent then 0#8 else 2#8, if r.frameLost then 1#8 else 0#8] ++ List.replicate 10 0#8 := by
  have status : byte (statusCode r.active) = if r.active then 0#8 else 1#8 := by cases r.active <;> rfl
  have frame : byte (storedFrameCode r.frame) = if r.frame = .absent then 0#8 else 2#8 := by
    cases r.frame <;> rfl
  rw [coveredBytes, recordBytes, status, frame, flagByte, zeros]

/-- Settles O39: the order after a grant is the group's rotated, so it is sorted by turn, and a search through it finds
the job of least turn. -/
theorem arbitrationIsRoundRobin : Obligations.ArbitrationIsRoundRobin := by
  unfold Obligations.ArbitrationIsRoundRobin
  intro d ownHigh ownLow waits place turn
  have own : ∀ high l, d.lastGrant high = some l → l.isHigh = high
    | true, l => ownHigh l
    | false, l => ownLow l
  have turn_eq (q : Requester) : turn q = q.turn (d.lastGrant q.isHigh) := rfl
  refine ⟨arbitrate_eq_none_iff own, fun r granted => ⟨holdsJob_of_arbitrate own granted,
    low_of_arbitrate_iff own granted, fun q group holds => ?_, countGrant_high_waited, countGrant_high_alone,
    countGrant_low⟩, fun w => ?_⟩
  · rw [turn_eq, turn_eq]
    exact turn_le_of_arbitrate own granted group holds
  · rw [continueWrite_eq, faultSlotBytes_eq]
    cases w.record with
    | none => rfl
    | some r => rw [coveredBytes_some]

end Sys2Proof.Machine
end

section
/-! SUPPORT. Posting a notice (R190): the entry of a kind and subject in the queue and its new content, and what posting
does to the link; with them the statement `Obligations.NoticesCoalesceOrQueue` (O47). -/

namespace Sys2Proof.Machine

variable {d : Dev} {k : NoticeKind} {subject : Nat}

/-! ## The entry of a kind and subject -/

theorem Notice.sameAs_iff (n : Notice) (k : NoticeKind) (subject : Nat) :
    n.sameAs k subject = true ↔ n.kind = k ∧ n.subject = subject := by
  rw [Notice.sameAs, Bool.and_eq_true, beq_iff_eq, beq_iff_eq]

theorem any_sameAs_iff (queue : List Notice) (k : NoticeKind) (subject : Nat) :
    queue.any (·.sameAs k subject) = true ↔ ∃ n ∈ queue, n.kind = k ∧ n.subject = subject := by
  simp only [List.any_eq_true, Notice.sameAs_iff]

theorem replaceNotice_eq_map (k : NoticeKind) (subject : Nat) (content : List Byte) (overflow : Bool)
    (queue : List Notice) :
    replaceNotice k subject content overflow queue = queue.map fun n =>
      if n.kind = k ∧ n.subject = subject then { n with content := content, marker := n.marker || overflow }
      else n := by
  simp only [replaceNotice, Notice.sameAs_iff]

/-! ## The outcomes of posting -/

theorem lnkPost_unsubscribed (content : List Byte) (h : subscribed d k = false) :
    lnkPost k subject content d = d := by
  rw [lnkPost, if_pos (by rw [h]; rfl)]

/-- Posting to a subscribed group, by the room in the queue and the entry it may hold already. -/
theorem lnkPost_subscribed (content : List Byte) (h : subscribed d k = true) :
    lnkPost k subject content d =
      if ∃ n ∈ d.lnk.notices, n.kind = k ∧ n.subject = subject then
        { d with lnk := { d.lnk with
          notices := replaceNotice k subject content d.lnk.overflow d.lnk.notices, overflow := false } }
      else if d.lnk.notices.length < 32 then
        { d with lnk := { d.lnk with
          notices := d.lnk.notices ++ [⟨k, subject, content, d.lnk.overflow⟩], overflow := false } }
      else { d with lnk := { d.lnk with overflow := true } } := by
  rw [lnkPost, if_neg (by simp [h])]
  simp only [any_sameAs_iff]

/-! ## The statement -/

/-- Settles O47: a notice of a group not subscribed changes nothing, and the other outcomes are the branches of a post
to a subscribed group, chosen by whether its kind and subject are queued and by the queue's length. -/
theorem noticesCoalesceOrQueue : Obligations.NoticesCoalesceOrQueue := by
  unfold Obligations.NoticesCoalesceOrQueue
  intro d k subject content post l queued
  refine ⟨lnkPost_unsubscribed content, fun on held => ?coalesced, fun on new room => ?queued,
    fun on new full => ?dropped⟩
  all_goals refine (lnkPost_subscribed content on).trans ?_
  case coalesced => rw [if_pos held, replaceNotice_eq_map]
  case queued => rw [if_neg new, if_pos room]
  case dropped => rw [if_neg new, if_neg (Nat.not_lt.mpr full)]

end Sys2Proof.Machine
end

section
/-! SUPPORT. Every command is an event of the part, and its effect keeps the invariant; with it the statements
`Obligations.StepKeepsInv` (O3), `Obligations.ReleaseLineLaw` (O5), `Obligations.StepTakesFrontCommand` (O1),
`Obligations.EveryCommandCompletes` (O2), `Obligations.ResetMeetsInv` (O4) and `Obligations.IgnitionPinDebounced`
(O7). -/
namespace Sys2Proof.Machine
variable {d : Dev}

/-! ## The effect of a command -/

/-- A command that is the event of `f` leaves what `f` makes of the part. -/
theorem Runs.of_event {c : Instr} {s : State} {f : Dev → Dev} {e : Dev} (hc : exec c s = .next (s.event f))
    (h : f s.dev = e) : Runs c s e := by
  subst h
  exact hc

/-- The expiry of a timer keeps the invariant when what follows it does. -/
theorem inv_onExpiry {t : Timer} {f : Dev → Dev} (h : Inv d) (hf : ∀ e, Inv e → Inv (f e)) :
    Inv (onExpiry t f d) := by
  cases t with
  | none => exact h
  | some t => exact hf _ (inv_advanceTo t h)

/-- Every command is an event whose effect keeps the invariant. The frames of the host share one argument. -/
theorem exec_event_inv (c : Instr) (s : State) :
    ∃ f : Dev → Dev, exec c s = .next (s.event f) ∧ (Inv s.dev → Inv (f s.dev)) := by
  cases c with
  | powerOnReset pin => exact ⟨_, rfl, fun _ => inv_powerOn pin⟩
  | ignPinChange level => exact ⟨_, rfl, fun h => inv_near h (near_ignitionPin _ (Near.refl _))⟩
  | ignitionDebounceExpiry => exact ⟨_, rfl, fun h => inv_onExpiry h fun _ => inv_ignitionExpire⟩
  | bulbCheckExpiry => exact ⟨_, rfl, inv_bulbEnd⟩
  | flushTimerExpiry => exact ⟨_, rfl, fun h => inv_onExpiry h fun _ => inv_flushEnd _⟩
  | undervoltageTimerExpiry => exact ⟨_, rfl, fun h => inv_onExpiry h fun _ => inv_undervoltExpire⟩
  | scanPeriodExpiry cls => exact ⟨_, rfl, fun h => inv_onExpiry h fun _ => inv_scanExpire _⟩
  | settleTimerExpiry => exact ⟨_, rfl, fun h => inv_near h (near_settleEnd (Near.refl _))⟩
  | conversionComplete sample peak => exact ⟨_, rfl, inv_conversionEnd _ _⟩
  | recoveryGapExpiry => exact ⟨_, rfl, fun h => inv_near h (near_recoveryEnd (Near.refl _))⟩
  | pulseEdge input stamp =>
    exact ⟨_, rfl, fun h => inv_near h (near_plsEdge _ _ (near_advanceCounter _ (Near.refl _)))⟩
  | pulseUpdate input => exact ⟨_, rfl, fun h => inv_onExpiry h fun _ => inv_plsUpdate _⟩
  | gaugeUpdate => exact ⟨_, rfl, fun h => inv_onExpiry h fun _ => inv_gaugeTick⟩
  | pwmPeriodEnd g => exact ⟨_, rfl, fun h => inv_near h (near_told (told_gaugePeriodEnd _ (Told.refl 2 _)) (Near.refl _))⟩
  | coilCurrentLimit g coil milliamps counts =>
    exact ⟨_, rfl, fun h => inv_near h (near_coilCurrent _ _ _ _ (Near.refl _))⟩
  | restartTimerExpiry g => exact ⟨_, rfl, fun h => inv_onExpiry h fun _ => inv_restartEnd _⟩
  | holdTimerExpiry g =>
    exact ⟨_, rfl, fun h => inv_onExpiry h fun _ k => inv_near k (near_told (told_gaugeHoldEnd _ (Told.refl 2 _)) (Near.refl _))⟩
  | warningDelayExpiry w =>
    exact ⟨_, rfl, fun h => inv_onExpiry h fun _ k => inv_near k (near_told (told_warningExpire _ (Told.refl 2 _)) (Near.refl _))⟩
  | flashPhaseExpiry => exact ⟨_, rfl, fun h => inv_near h (near_flashEnd (Near.refl _))⟩
  | diagnosisTimerExpiry l =>
    exact ⟨_, rfl, fun h => inv_onExpiry h fun _ k => inv_near k (near_told (told_lampDiagnose _ (Told.refl 2 _)) (Near.refl _))⟩
  | lampOvercurrent l milliamps sinceOn =>
    exact ⟨_, rfl, fun h => inv_near h (near_lampCurrent _ _ _ (Near.refl _))⟩
  | retryTimerExpiry l =>
    exact ⟨_, rfl, fun h => inv_onExpiry h fun _ k => inv_near k (near_told (told_lampRetry _ (Told.refl 2 _)) (Near.refl _))⟩
  | chimePlayerStep => exact ⟨_, rfl, fun h => inv_near h (near_playerEnd (Near.refl _))⟩
  | chimeSilenceEnd => exact ⟨_, rfl, fun h => inv_near h (near_silenceOver (Near.refl _))⟩
  | doorHoldTimerExpiry i => exact ⟨_, rfl, fun h => inv_onExpiry h fun _ => inv_dorHoldExpire _⟩
  | closeTimeout i => exact ⟨_, rfl, fun h => inv_onExpiry h fun _ => inv_dorCloseTimeout _⟩
  | brakeDelayExpiry => exact ⟨_, rfl, fun h => inv_onExpiry h fun _ => inv_dorBrakeExpire⟩
  | storagePollTick status => exact ⟨_, rfl, fun h => inv_near h (near_statusRead _ (Near.refl _))⟩
  | readJobComplete result => exact ⟨_, rfl, inv_readEnded _⟩
  | writeJobComplete ok => exact ⟨_, rfl, inv_writeEnded _⟩
  | probeComplete status => exact ⟨_, rfl, inv_probeEnded _⟩
  | rxByte b stopBit => exact ⟨_, rfl, fun h => inv_rxByte _ _ h fun f => inv_handFrame f h⟩
  | gapTimerExpiry =>
    exact ⟨_, rfl, fun h => inv_onExpiry h fun _ k => inv_near k (near_rxDiscard (Near.refl _))⟩
  | linkTimerExpiry =>
    exact ⟨_, rfl, fun h => inv_onExpiry h fun _ k => inv_near k (near_linkLoss (Near.refl _))⟩
  | transmitComplete => exact ⟨_, rfl, inv_transmitEnd⟩
  | lampSenseChange l sense => exact ⟨_, rfl, fun h => inv_near h (near_lampSensed _ _ (Near.refl _))⟩
  | keepAlive | unknownKind | identify | status | subscribe | readChannels | sampleNow | readWarnings
  | ackWarnings | setLamps | doorCommandRelease | doorCommandClose | readDoors | readGauges | readOdometer
  | faultList | faultRead | faultClearAll | faultClearOne | serviceEnter | serviceExit | outputTestGauge
  | outputTestLamp | outputTestChime | calBegin | calWrite | calCommit | calAbort | calRead | restoreOutputs
  | reset | readLamps => exact ⟨_, rfl, inv_frameCommand _⟩

/-! ## The invariant -/

/-- Settles O3: an event is its effect and then the transmitter, and the effect of every command keeps `Inv`; on an
empty queue only the clock moves. -/
theorem stepKeepsInv : Obligations.StepKeepsInv := by
  intro s t h hst
  unfold step at hst
  split at hst
  · cases hst
    exact inv_near h (near_tick (Near.refl _))
  · next c rest _ =>
    obtain ⟨f, hf, keeps⟩ := exec_event_inv c { s with pending := rest }
    rw [hf] at hst
    cases hst
    exact inv_near (keeps h) (near_txStart (Near.refl _))

theorem Mode.active_iff (m : Mode) : m.active = true ↔ m = .sweep ∨ m = .run ∨ m = .service := by
  cases m <;> simp [Mode.active]

theorem speedOk_iff (d : Dev) (c : DoorCfg) :
    speedOk d c = true ↔ d.dor.roadQuality = .good ∧ d.dor.roadInstant ≤ (c.releaseSpeed : Int) := by
  simp [speedOk]

/-- The line of a door is on exactly while the door is RELEASED. -/
theorem Inv.line_iff (h : Inv d) (i : Fin 4) : (d.door i).line = true ↔ (d.door i).release = .released := by
  have := h.line i
  unfold lineOn at this
  simp [this]

/-- Settles O5: the next state meets `Inv` (O3), and the law of the line is what `Inv` says of DOR. -/
theorem releaseLineLaw : Obligations.ReleaseLineLaw := by
  intro s t i h hst
  have inv : Inv t.dev := stepKeepsInv s t h hst
  constructor
  · rw [inv.line_iff, ← Mode.active_iff, ← inv.running]
    exact ⟨fun k => ⟨k, (inv.released i k).1⟩, And.left⟩
  · intro hl
    obtain ⟨_, _, ok⟩ := inv.released i ((inv.line_iff i).mp hl)
    exact (speedOk_iff t.dev _).mp ok

/-! ## The machine -/

/-- Settles O1: it is the second equation of `step`. -/
theorem stepTakesFrontCommand : Obligations.StepTakesFrontCommand := fun _ _ _ => rfl

/-- Settles O2: every command is an event. -/
theorem everyCommandCompletes : Obligations.EveryCommandCompletes := by
  intro c s
  obtain ⟨f, hf, _⟩ := exec_event_inv c s
  exact ⟨f s.dev, hf⟩

/-- Settles O4: the power-on reset with the pin off is the reset state, and it meets `Inv`. -/
theorem resetMeetsInv : Obligations.ResetMeetsInv := inv_powerOn false

/-- Settles O7: the effect of the command is `ignitionPin`, by cases on the pin and the debounced state. -/
theorem ignitionPinDebounced : Obligations.IgnitionPinDebounced := by
  intro s level
  refine Runs.of_event (f := ignitionPin level) rfl ?_
  unfold ignitionPin
  cases s.dev.mod.debounceTimer with
  | none => cases level <;> rfl
  | some t => rfl

end Sys2Proof.Machine
end

section
/-! SUPPORT. The receiver, the frames and the transmitter; with them the statements `Obligations.ReceiverTakesBytes`
(O40), `Obligations.FrameBytesAreTheirCommand` (O41), `Obligations.DecodeFrameReadsEncoded` (O42),
`Obligations.KeepAlivesAndRejections` (O43), `Obligations.RequestsJudgedInOrder` (O44) and
`Obligations.TransmitterSendsNextFrame` (O46). -/

namespace Sys2Proof.Machine
variable {d : Dev}

/-! ## The receiver -/

theorem Mode.receives_iff (m : Mode) : m.receives = true ↔ m ≠ .standby := by
  cases m <;> simp [Mode.receives]

theorem rxByte_off (b : Byte) (stop : Bool) (hand : Frame → Dev → Dev) (h : d.mod.mode = .standby) :
    rxByte b stop hand d = d := by
  simp [rxByte, Mode.receives, h]

theorem rxByte_hunting (b : Byte) (stop : Bool) (hand : Frame → Dev → Dev) (h : d.mod.mode ≠ .standby)
    (ha : d.lnk.assembly = none) :
    rxByte b stop hand d = if stop = true ∧ b = 0xA5#8 then rxKeep [] d else d := by
  have := (Mode.receives_iff _).mpr h
  simp [rxByte, this, ha]

theorem rxByte_assembling {bs : List Byte} (b : Byte) (stop : Bool) (hand : Frame → Dev → Dev)
    (h : d.mod.mode ≠ .standby) (ha : d.lnk.assembly = some bs) :
    rxByte b stop hand d = if stop then rxAppend (bs ++ [b]) hand d else rxDiscard d := by
  have := (Mode.receives_iff _).mpr h
  simp [rxByte, this, ha]

theorem rxAppend_long {bs : List Byte} (hand : Frame → Dev → Dev) (h : maxPayload < byteAt bs 0) :
    rxAppend bs hand d = rxDiscard d := if_pos h

theorem rxAppend_short {bs : List Byte} (hand : Frame → Dev → Dev) (h : byteAt bs 0 ≤ maxPayload)
    (hl : bs.length < byteAt bs 0 + 5) : rxAppend bs hand d = rxKeep bs d := by
  unfold rxAppend
  rw [if_neg (Nat.not_lt.mpr h), if_pos hl]

/-- All bytes of a frame have arrived: its CRC decides. -/
theorem rxAppend_full {bs : List Byte} (hand : Frame → Dev → Dev) (h : byteAt bs 0 ≤ maxPayload)
    (hl : byteAt bs 0 + 5 ≤ bs.length) :
    rxAppend bs hand d = ((checkFrame bs).map (hand · d)).getD (rxDiscard d) := by
  unfold rxAppend
  rw [if_neg (Nat.not_lt.mpr h), if_neg (Nat.not_lt.mpr hl)]
  cases checkFrame bs <;> rfl

theorem checkFrame_bad {bs : List Byte}
    (h : (crc16 (bs.take (3 + byteAt bs 0))).toNat ≠ be16At bs (3 + byteAt bs 0)) : checkFrame bs = none :=
  if_neg h

/-- Settles O40: by the receiver's state, hunting or assembling, and then by the bytes received. -/
theorem receiverTakesBytes : Obligations.ReceiverTakesBytes := by
  intro s b stop kept discarded
  refine ⟨fun hm => ?off, fun hm ha => ⟨fun hb => ?sync, fun hb => ?other⟩, ?assembling, fun t ht => ?gap⟩
  case off => exact .of_event (f := rxByte b stop handFrame) rfl (rxByte_off b stop _ hm)
  case sync =>
    exact .of_event (f := rxByte b stop handFrame) rfl (by rw [rxByte_hunting b stop _ hm ha, if_pos hb]; rfl)
  case other =>
    exact .of_event (f := rxByte b stop handFrame) rfl (by rw [rxByte_hunting b stop _ hm ha, if_neg hb])
  case assembling =>
    intro bs hm ha bytes len
    have received : rxByte b stop handFrame s.dev =
        if stop then rxAppend bytes handFrame s.dev else rxDiscard s.dev := rxByte_assembling b stop _ hm ha
    refine ⟨fun hs => .of_event (f := rxByte b stop handFrame) rfl (received.trans ?stopBit),
      fun hs hl => .of_event (f := rxByte b stop handFrame) rfl (received.trans ?long),
      fun hs hl hn => .of_event (f := rxByte b stop handFrame) rfl (received.trans ?short),
      fun hs hl hn hc => .of_event (f := rxByte b stop handFrame) rfl (received.trans ?crc)⟩
    case stopBit => rw [hs]; rfl
    case long => rw [if_pos hs, rxAppend_long _ hl]; rfl
    case short => rw [if_pos hs, rxAppend_short _ hl hn]; rfl
    case crc => rw [if_pos hs, rxAppend_full _ hl hn, checkFrame_bad hc]; rfl
  case gap => exact .of_event (f := onExpiry s.dev.lnk.gapTimer rxDiscard) rfl (by rw [ht]; rfl)

/-! ## A frame's bytes and its command -/

/-- Every command that is a frame is the event of that frame, with an owner that a request passing the tests
reaches. -/
theorem exec_frame {c : Instr} {f : Frame} (h : encodeFrame c = some f) :
    ∃ owner : Dev → Dev, (∀ s, exec c s = .next (s.event (onFrame f owner))) ∧
      frameCommand c = onFrame f owner := by
  cases c <;> cases h <;> exact ⟨_, fun _ => rfl, rfl⟩

theorem byteAt_append_length (l : List Byte) (b : Byte) (t : List Byte) :
    byteAt (l ++ b :: t) l.length = b.toNat := by
  simp [byteAt]

theorem be16At_append_be16 (l : List Byte) {n : Nat} (h : n < 65536) : be16At (l ++ be16 n) l.length = n := by
  have high : byteAt (l ++ be16 n) l.length = n / 256 := by
    rw [be16, byteAt_append_length]
    simp only [byte, BitVec.toNat_ofNat]
    omega
  have low : byteAt (l ++ be16 n) (l.length + 1) = n % 256 := by
    have := byteAt_append_length (l ++ [byte (n / 256)]) (byte n) []
    simpa [be16, byte] using this
  rw [be16At, high, low]
  omega

/-- The bytes of a frame, read as the receiver reads them after SYNC. -/
theorem checkFrame_frameBytes {bs payload : List Byte} {kind tag : Byte} (hp : payload.length ≤ 240)
    (h : 0xA5#8 :: bs = frameBytes kind tag payload) :
    byteAt bs 0 = payload.length ∧ bs.length = payload.length + 5 ∧ checkFrame bs = some ⟨kind, tag, payload⟩ := by
  obtain rfl : bs = (byte payload.length :: kind :: tag :: payload) ++
      crcField (byte payload.length :: kind :: tag :: payload) := (List.cons.inj h).2
  generalize hc : byte payload.length :: kind :: tag :: payload = covered
  have hlen : covered.length = 3 + payload.length := by simp [← hc]; omega
  have hn : byteAt (covered ++ crcField covered) 0 = payload.length := by
    simp [← hc, byteAt, byte]; omega
  refine ⟨hn, by simp [hlen, crcField, be16]; omega, ?_⟩
  have hcrc : be16At (covered ++ crcField covered) (3 + payload.length) = (crc16 covered).toNat := by
    rw [← hlen]
    exact be16At_append_be16 covered (crc16 covered).isLt
  unfold checkFrame
  dsimp only
  rw [hn, hcrc, List.take_left' hlen, if_pos rfl]
  simp [← hc]

/-- A frame is the frame of the command it decodes to. -/
theorem encodeFrame_decodeFrame (f : Frame) : encodeFrame (decodeFrame f) = some f := by
  obtain ⟨kind, tag, payload⟩ := f
  have spelled : ∀ n : Nat, kind.toNat = n → kind = BitVec.ofNat 8 n := fun n h =>
    BitVec.eq_of_toNat_eq (by rw [← h]; simp)
  unfold decodeFrame
  split
  · next h => exact congrArg (fun t => some (Frame.mk kind t payload)) h.symm
  · split
    case h_9 hk =>
      obtain rfl := spelled 9 hk
      rcases payload with _ | ⟨door, _ | ⟨action, rest⟩⟩
      case cons.cons => dsimp only; split_ifs <;> simp_all [encodeFrame]
      all_goals rfl
    case h_15 hk =>
      obtain rfl := spelled 15 hk
      rcases payload with _ | ⟨scope, rest⟩
      case cons => dsimp only; split_ifs <;> simp_all [encodeFrame]
      rfl
    case h_18 hk =>
      obtain rfl := spelled 18 hk
      rcases payload with _ | ⟨item, rest⟩
      case cons => dsimp only; split_ifs <;> simp_all [encodeFrame]
      rfl
    case h_27 => rfl
    all_goals next hk => exact congrArg (fun k => some (Frame.mk k tag payload)) (spelled _ hk).symm

/-- Settles O41: the receiver finds the frame complete and its CRC good, and hands it to its command. -/
theorem frameBytesAreTheirCommand : Obligations.FrameBytesAreTheirCommand := by
  intro s bs payload b kind tag hm ha hp h
  obtain ⟨hlen, htotal, hcheck⟩ := checkFrame_frameBytes hp h
  obtain ⟨owner, hexec, hframe⟩ := exec_frame (encodeFrame_decodeFrame ⟨kind, tag, payload⟩)
  have received : rxByte b true handFrame s.dev = onFrame ⟨kind, tag, payload⟩ owner s.dev := by
    rw [rxByte_assembling b true _ hm ha, if_pos rfl, rxAppend_full _ (hlen ▸ hp) (by omega), hcheck, ← hframe]
    rfl
  rw [hexec]
  show Host.Outcome.next (s.event (rxByte b true handFrame)) = _
  unfold State.event
  rw [received]

theorem requestOk_le {tag : Byte} {n : Nat} (h : requestOk tag n = true) : n ≤ 240 := by
  simp only [requestOk, Bool.and_eq_true, decide_eq_true_eq] at h
  exact h.2

/-- The payload of a frame that a well-formed command is fits the receiver. -/
theorem payload_le {i : Instr} {f : Frame} (h : WellFormed i = true) (hf : encodeFrame i = some f) :
    f.payload.length ≤ 240 := by
  cases i with
  | keepAlive => cases hf; exact of_decide_eq_true h
  | unknownKind => cases hf; exact requestOk_le (Bool.and_elim_left h)
  | identify | status | subscribe | readChannels | sampleNow | readWarnings | ackWarnings | setLamps
  | doorCommandRelease | doorCommandClose | readDoors | readGauges | readOdometer | faultList | faultRead
  | faultClearAll | faultClearOne | serviceEnter | serviceExit | outputTestGauge | outputTestLamp
  | outputTestChime | calBegin | calWrite | calCommit | calAbort | calRead | restoreOutputs | reset
  | readLamps => cases hf; exact requestOk_le h
  | _ => cases hf

/-- Settles O42: the round trip of every row, and the bound of LEN in its well-formedness. -/
theorem decodeFrameReadsEncoded : Obligations.DecodeFrameReadsEncoded := by
  intro i f h hf
  refine ⟨?_, payload_le h hf⟩
  cases i with
  | keepAlive => exact Laws.RoundTrip.keepAlive _ _ h f hf
  | unknownKind => exact Laws.RoundTrip.unknownKind _ _ _ h f hf
  | identify => exact Laws.RoundTrip.identify _ _ h f hf
  | status => exact Laws.RoundTrip.status _ _ h f hf
  | subscribe => exact Laws.RoundTrip.subscribe _ _ h f hf
  | readChannels => exact Laws.RoundTrip.readChannels _ _ h f hf
  | sampleNow => exact Laws.RoundTrip.sampleNow _ _ h f hf
  | readWarnings => exact Laws.RoundTrip.readWarnings _ _ h f hf
  | ackWarnings => exact Laws.RoundTrip.ackWarnings _ _ h f hf
  | setLamps => exact Laws.RoundTrip.setLamps _ _ h f hf
  | doorCommandRelease => exact Laws.RoundTrip.doorCommandRelease _ _ _ h f hf
  | doorCommandClose => exact Laws.RoundTrip.doorCommandClose _ _ _ h f hf
  | readDoors => exact Laws.RoundTrip.readDoors _ _ h f hf
  | readGauges => exact Laws.RoundTrip.readGauges _ _ h f hf
  | readOdometer => exact Laws.RoundTrip.readOdometer _ _ h f hf
  | faultList => exact Laws.RoundTrip.faultList _ _ h f hf
  | faultRead => exact Laws.RoundTrip.faultRead _ _ h f hf
  | faultClearAll => exact Laws.RoundTrip.faultClearAll _ _ h f hf
  | faultClearOne => exact Laws.RoundTrip.faultClearOne _ _ h f hf
  | serviceEnter => exact Laws.RoundTrip.serviceEnter _ _ h f hf
  | serviceExit => exact Laws.RoundTrip.serviceExit _ _ h f hf
  | outputTestGauge => exact Laws.RoundTrip.outputTestGauge _ _ h f hf
  | outputTestLamp => exact Laws.RoundTrip.outputTestLamp _ _ h f hf
  | outputTestChime => exact Laws.RoundTrip.outputTestChime _ _ h f hf
  | calBegin => exact Laws.RoundTrip.calBegin _ _ h f hf
  | calWrite => exact Laws.RoundTrip.calWrite _ _ h f hf
  | calCommit => exact Laws.RoundTrip.calCommit _ _ h f hf
  | calAbort => exact Laws.RoundTrip.calAbort _ _ h f hf
  | calRead => exact Laws.RoundTrip.calRead _ _ h f hf
  | restoreOutputs => exact Laws.RoundTrip.restoreOutputs _ _ h f hf
  | reset => exact Laws.RoundTrip.reset _ _ h f hf
  | readLamps => exact Laws.RoundTrip.readLamps _ _ h f hf
  | _ => cases hf

/-! ## The link's judgement of a frame -/

/-- The part when a valid frame has been seen and no link loss is to be ended: the receiver hunts, and the link timer
has restarted if it ran. -/
theorem frameSeen_rxHunt (h : d.lnk.lost = false) :
    frameSeen (rxHunt d) = { d with lnk := { d.lnk with
      assembly := none, gapTimer := none
      timer := if d.lnk.timer.isSome then some (d.clock + d.linkTimeout) else none } } := by
  unfold frameSeen rxHunt lnkStartTimer
  cases ht : d.lnk.timer with
  | none => simp [h, ht]
  | some t => simp [h, Dev.timerIn]; rfl

theorem onFrame_receiving (f : Frame) (owner : Dev → Dev) (h : d.mod.mode ≠ .standby) :
    onFrame f owner d = txStart (frameActed f owner (frameSeen (rxHunt d))) :=
  if_pos ((Mode.receives_iff _).mpr h)

/-- A frame's command leaves what the link makes of the frame; its event starts the transmitter once more, with no
effect. -/
theorem Runs.of_frame {c : Instr} {s : State} {f : Frame} {owner : Dev → Dev} {e : Dev}
    (hc : exec c s = .next (s.event (onFrame f owner))) (h : onFrame f owner s.dev = txStart e) : Runs c s e := by
  rw [Runs, hc, State.event, h, txStart_twice]

theorem tagInUse_iff (d : Dev) (tag : Byte) : tagInUse d tag = true ↔ ∃ q ∈ d.lnk.requests, q.tag = tag := by
  simp [tagInUse]

theorem frameActed_keepAlive {f : Frame} (owner : Dev → Dev) (h : f.tag = 0#8) : frameActed f owner d = d :=
  if_pos h

theorem frameActed_tagInUse {f : Frame} (owner : Dev → Dev) (h : f.tag ≠ 0#8) (hu : tagInUse d f.tag = true) :
    frameActed f owner d = lnkReject f.kind f.tag .tagInUse d := by
  rw [frameActed, if_neg h, if_pos hu]

theorem frameActed_busy {f : Frame} (owner : Dev → Dev) (h : f.tag ≠ 0#8) (hu : tagInUse d f.tag = false)
    (hn : 4 ≤ d.lnk.requests.length) : frameActed f owner d = lnkReject f.kind f.tag .busy d := by
  rw [frameActed, if_neg h, hu, if_neg Bool.false_ne_true, if_pos hn]

theorem frameActed_judge {f : Frame} (owner : Dev → Dev) (h : f.tag ≠ 0#8) (hu : tagInUse d f.tag = false)
    (hn : d.lnk.requests.length < 4) : frameActed f owner d = judge f owner (lnkTake f.kind f.tag d) := by
  rw [frameActed, if_neg h, hu, if_neg Bool.false_ne_true, if_neg (Nat.not_le.mpr hn)]

theorem lnkReject_room (kind tag : Byte) (st : Status) (h : (d.lnk.replies.filter (·.rejection)).length < 4) :
    lnkReject kind tag st d = { d with lnk := { d.lnk with
      replies := d.lnk.replies ++ [⟨replyKind kind, tag, statusReply st, true⟩] } } := if_pos h

theorem lnkReject_full (kind tag : Byte) (st : Status) (h : 4 ≤ (d.lnk.replies.filter (·.rejection)).length) :
    lnkReject kind tag st d = { d with lnk := { d.lnk with
      rejectionDrops := min 65535 (d.lnk.rejectionDrops + 1) } } := if_neg (Nat.not_lt.mpr h)

/-- Settles O43: what the link does first at a valid frame, then the keep-alive's tag 0 or the rejection. -/
theorem keepAlivesAndRejections : Obligations.KeepAlivesAndRejections := by
  intro s hm hl seen
  have reached : ∀ (f : Frame) (owner : Dev → Dev),
      onFrame f owner s.dev = txStart (frameActed f owner { s.dev with lnk := seen }) := fun f owner => by
    rw [onFrame_receiving f owner hm, frameSeen_rxHunt hl]
  refine ⟨fun kind payload => .of_frame rfl (reached ⟨kind, 0#8, payload⟩ id), ?_⟩
  intro c f status hc htag kind hwhy
  obtain ⟨owner, hexec, -⟩ := exec_frame hc
  have rejected : ∃ st : Status, statusReply st = [status] ∧
      frameActed f owner { s.dev with lnk := seen } = lnkReject f.kind f.tag st { s.dev with lnk := seen } := by
    rcases hwhy with ⟨used, rfl⟩ | ⟨free, full, rfl⟩
    · exact ⟨.tagInUse, rfl, frameActed_tagInUse owner htag ((tagInUse_iff _ _).mpr used)⟩
    · refine ⟨.busy, rfl, frameActed_busy owner htag ?_ full⟩
      exact Bool.eq_false_iff.mpr fun h => (tagInUse_iff _ _).mp h |>.elim fun q k => free q k.1 k.2
  obtain ⟨st, hst, hrej⟩ := rejected
  constructor
  · intro room
    refine .of_frame (hexec s) ?_
    rw [reached, hrej, lnkReject_room (d := { s.dev with lnk := seen }) _ _ _ room, hst]
    rfl
  · intro full
    refine .of_frame (hexec s) ?_
    rw [reached, hrej, lnkReject_full (d := { s.dev with lnk := seen }) _ _ _ full]

/-- A request that the link takes is judged in the state in which it stands in the list. -/
theorem onFrame_taken {f : Frame} (owner : Dev → Dev) (hm : d.mod.mode ≠ .standby) (hl : d.lnk.lost = false)
    (htag : f.tag ≠ 0#8) (hu : tagInUse d f.tag = false) (hn : d.lnk.requests.length < 4) :
    onFrame f owner d = txStart (judge f owner (taken f d)) := by
  rw [onFrame_receiving f owner hm, frameSeen_rxHunt hl]
  exact congrArg txStart (frameActed_judge owner htag hu hn)

theorem judge_pending (f : Frame) (owner : Dev → Dev) (h : d.mod.resetPending = true) :
    judge f owner d = refuse f.tag .refusedCondition d := if_pos h

theorem judge_unknown {f : Frame} (owner : Dev → Dev) (h : d.mod.resetPending = false)
    (hk : inCatalogue f.kind = false) : judge f owner d = refuse f.tag .unknownKind d := by
  simp [judge, h, hk]

theorem judge_mode {f : Frame} (owner : Dev → Dev) (h : d.mod.resetPending = false) (hk : inCatalogue f.kind = true)
    (ha : admits d.mod.mode f.kind = false) : judge f owner d = refuse f.tag .refusedMode d := by
  simp [judge, h, hk, ha]

theorem judge_length {f : Frame} (owner : Dev → Dev) (h : d.mod.resetPending = false) (hk : inCatalogue f.kind = true)
    (ha : admits d.mod.mode f.kind = true) (hl : lengthFits f.kind f.payload = false) :
    judge f owner d = refuse f.tag .badLength d := by
  simp [judge, h, hk, ha, hl]

theorem judge_passed {f : Frame} (owner : Dev → Dev) (h : d.mod.resetPending = false) (hk : inCatalogue f.kind = true)
    (ha : admits d.mod.mode f.kind = true) (hl : lengthFits f.kind f.payload = true) :
    judge f owner d = owner d := by
  simp [judge, h, hk, ha, hl]

theorem inCatalogue_iff (k : Byte) : inCatalogue k = true ↔ 1 ≤ k.toNat ∧ k.toNat ≤ 0x1A := by
  simp [inCatalogue]

/-- The kinds a mode admits, listed (R187). -/
theorem admits_iff (m : Mode) (kind : Byte) : admits m kind = true ↔ match m with
    | .standby => False
    | .loading | .awaitingImage => kind.toNat ∈ [0x01, 0x02, 0x13, 0x14, 0x15, 0x16, 0x17, 0x19]
    | .sweep | .run => kind.toNat ∉ [0x0F, 0x12]
    | .service => True
    | .saving => kind.toNat ∈ [0x01, 0x02, 0x04, 0x06, 0x0A, 0x0B, 0x0C, 0x0D, 0x0E, 0x17, 0x19, 0x1A] := by
  cases m with
  | standby | service => simp [admits]
  | loading | awaitingImage => simp [admits, loadingKind]
  | sweep | run => simp [admits, serviceKind]
  | saving => simp [admits, readKind]; tauto

/-- Settles O44: the frame reaches `judge` with its request taken, and the first test that fails gives the reply. -/
theorem requestsJudgedInOrder : Obligations.RequestsJudgedInOrder := by
  intro s c f hc hm hl htag hk hfree hn k answers admitted
  obtain ⟨owner, hexec, hcmd⟩ := exec_frame hc
  have hu : tagInUse s.dev f.tag = false :=
    Bool.eq_false_iff.mpr fun h => (tagInUse_iff _ _).mp h |>.elim fun q k => hfree q k.1 k.2
  have judged : ∀ st : Status, judge f owner (taken f s.dev) = refuse f.tag st (taken f s.dev) →
      Runs c s (replied f (statusReply st) (taken f s.dev)) := fun st h => by
    refine .of_frame (hexec s) ?_
    rw [onFrame_taken owner hm hl htag hu hn, h, refuse, answer_last rfl hu hk]
  have hadm : admits (taken f s.dev).mod.mode f.kind = true ↔ admitted := by
    exact admits_iff _ _
  refine ⟨fun hp => judged .refusedCondition (judge_pending f owner hp), fun hp hx => ?unknown,
    fun hp h1 h2 ha => ?mode, fun hp h1 h2 ha hlen => ?length, fun kind tag payload he hp h1 h2 ha hlen => ?argument⟩
  case unknown => exact judged .unknownKind (judge_unknown owner hp (by simp [inCatalogue]; omega))
  all_goals have hcat : inCatalogue f.kind = true := (inCatalogue_iff _).mpr ⟨h1, h2⟩
  case mode =>
    exact judged .refusedMode (judge_mode owner hp hcat (Bool.eq_false_iff.mpr fun h => ha (hadm.mp h)))
  case length => exact judged .badLength (judge_length owner hp hcat (hadm.mpr ha) hlen)
  case argument =>
    subst he
    cases hc
    refine .of_frame (f := ⟨kind, tag, payload⟩) rfl ?_
    rw [onFrame_taken _ hm hl htag hu hn, judge_passed (d := taken _ s.dev) _ hp hcat (hadm.mpr ha) hlen, refuse,
      answer_last rfl hu hk]
    rfl

/-! ## The transmitter -/

theorem flushJudge_none (h : d.mod.flush = .none) : flushJudge d = d := by
  simp [flushJudge, h]

/-- Settles O46: the sent frame leaves, and the idle transmitter takes the head of the first queue that has one. -/
theorem transmitterSendsNextFrame : Obligations.TransmitterSendsNextFrame := by
  intro s t ht hf left after
  have sent : transmitEnd s.dev = { s.dev with lnk := { s.dev.lnk with tx := none, requests := left } } := by
    unfold transmitEnd txEnd
    rw [ht]
    exact flushJudge_none hf
  have ended : exec .transmitComplete s = .next { s with
      dev := txStart { s.dev with lnk := { s.dev.lnk with tx := none, requests := left } } } := by
    rw [← sent]; rfl
  refine ⟨fun r rest hr => ended.trans ?_, fun n rest hr hn => ended.trans ?_, fun hr hn => ended.trans ?_⟩
  · simp [txStart, hr]
  · simp [txStart, hr, hn, Notice.payload]
  · simp [txStart, hr, hn]

end Sys2Proof.Machine
end

section
/-! SUPPORT. The requests that read, and the bytes of their replies; with them the statement
`Obligations.ReadRequestsAnswerAtOnce` (O49). -/

namespace Sys2Proof.Machine
variable {d : Dev}

/-! ## Served requests -/

@[simp] theorem taken_clock (f : Frame) (d : Dev) : (taken f d).clock = d.clock := rfl
@[simp] theorem taken_seq (f : Frame) (d : Dev) : (taken f d).seq = d.seq := rfl
@[simp] theorem taken_sig (f : Frame) (d : Dev) : (taken f d).sig = d.sig := rfl
@[simp] theorem taken_pls (f : Frame) (d : Dev) : (taken f d).pls = d.pls := rfl
@[simp] theorem taken_gau (f : Frame) (d : Dev) : (taken f d).gau = d.gau := rfl
@[simp] theorem taken_wrn (f : Frame) (d : Dev) : (taken f d).wrn = d.wrn := rfl
@[simp] theorem taken_dor (f : Frame) (d : Dev) : (taken f d).dor = d.dor := rfl
@[simp] theorem taken_flt (f : Frame) (d : Dev) : (taken f d).flt = d.flt := rfl
@[simp] theorem taken_sto (f : Frame) (d : Dev) : (taken f d).sto = d.sto := rfl
@[simp] theorem taken_cal (f : Frame) (d : Dev) : (taken f d).cal = d.cal := rfl
@[simp] theorem taken_mod (f : Frame) (d : Dev) : (taken f d).mod = d.mod := rfl

/-- A served frame leaves what its owner makes of the part once its request is taken. -/
theorem Runs.of_served {c : Instr} {s : State} {f : Frame} {owner : Dev → Dev} {e : Dev}
    (hc : exec c s = .next (s.event (onFrame f owner))) (h : served s.dev f = true)
    (he : owner (taken f s.dev) = e) : Runs c s e :=
  .of_frame hc (by rw [onFrame_served h, he])

/-- A served frame whose owner answers at once and does nothing else. -/
theorem Runs.of_answer {c : Instr} {s : State} {f : Frame} {owner : Dev → Dev} {p q : List Byte}
    (hc : exec c s = .next (s.event (onFrame f owner))) (h : served s.dev f = true)
    (ho : owner (taken f s.dev) = lnkAnswer f.tag p (taken f s.dev)) (hq : p = q) :
    Runs c s (replied f q (taken f s.dev)) :=
  .of_served hc h (by rw [ho, answer_taken h, hq])

/-! ## Fields of the replies -/

/-- A remaining time as section 11.5 sends it: tenths of a second in two bytes, 0xFFFF for none. -/
theorem field16Opt_remaining (d : Dev) (t : Timer) : field16Opt (d.remaining t) = match t with
    | none => [0xFF#8, 0xFF#8]
    | some deadline => be16 ((deadline - d.clock) / 100000 +
        if (deadline - d.clock) % 100000 = 0 then 0
        else if Config.remainingRoundsUp (deadline - d.clock) then 1 else 0) := by
  cases t with
  | none => rfl
  | some deadline =>
    show field16Opt (some (if _ then _ else if _ then _ else _)) = be16 (_ + if _ then _ else if _ then _ else _)
    split_ifs <;> rfl

theorem toList_eq_map_finRange {α : Type} {n : Nat} (v : Vector α n) :
    v.toList = (List.finRange n).map fun i => v[i] :=
  List.ext_getElem (by simp) (by simp)

theorem filter_toList_length {α : Type} {n : Nat} (v : Vector α n) (p : α → Bool) :
    (v.toList.filter p).length = ((List.finRange n).filter fun i => p v[i]).length := by
  rw [toList_eq_map_finRange, List.filter_map, List.length_map]
  rfl

theorem recordCount_eq (d : Dev) :
    recordCount d = ((List.finRange 40).filter fun i => (d.slot i).record.isSome).length :=
  filter_toList_length _ _

/-- A mask in two bytes. -/
theorem be16_toNat (b : Byte) : be16 b.toNat = [0#8, b] := by
  have high : b.toNat / 256 = 0 := by have := b.isLt; omega
  simp [be16, byte, high]

theorem calIdField_activeId (d : Dev) :
    calIdField d.activeId = be32 (if d.cal.valid then d.cal.calId.getD 0xFFFFFFFF else 0xFFFFFFFF) := by
  unfold calIdField Dev.activeId
  split_ifs <;> rfl

theorem chimeGroup_high (d : Dev) : chimeGroup d true = d.wrn.requests.filter fun q => q.high := by
  simp [chimeGroup]

theorem chimeGroup_low (d : Dev) : chimeGroup d false = d.wrn.requests.filter fun q => !q.high := by
  simp [chimeGroup]

theorem byte_forceCode (o : Option Bool) : byte (forceCode o) = match o with
    | none => 0#8
    | some true => 1#8
    | some false => 2#8 := by
  rcases o with _ | _ | _ <;> rfl

theorem byte_odoCode (j : OdometerJob) : byte j.code = match j with
    | .none => 0#8
    | .queued => 1#8
    | .inFlight => 2#8 := by
  cases j <;> rfl

theorem index8_remembered (o : Option Remembered) : index8 (o.map Remembered.code) = match o with
    | none => 0xFF#8
    | some .activeNew => 2#8
    | some .activeAcked => 3#8 := by
  rcases o with _ | _ | _ <;> rfl

theorem byte_statusCode (b : Bool) : byte (statusCode b) = if b then 0#8 else 1#8 := by
  cases b <;> rfl

theorem byte_frameCode (r : FrameRef) : byte r.code = match r with
    | .absent => 0#8
    | .inPool _ => 1#8
    | .stored => 2#8 := by
  cases r <;> rfl

theorem index8_ite (c : Prop) [Decidable c] (n : Nat) :
    index8 (if c then some n else none) = if c then byte n else 0xFF#8 := by
  split_ifs <;> rfl

/-- The chime's part of READ_WARNINGS, byte by byte. -/
theorem chimeFields_eq (d : Dev) : chimeFields d = (match d.wrn.player with
      | .idle => [0#8, 0xFF#8, 0#8]
      | .playing q => [1#8, (match q.warning with
        | some w => byte w.val
        | none => 0x40#8), byte q.pattern.code]
      | .silence _ => [2#8, 0xFF#8, 0#8]) ++
    [byte (d.wrn.requests.filter fun q => q.high).length, byte (d.wrn.requests.filter fun q => !q.high).length] := by
  unfold chimeFields
  rw [chimeGroup_high, chimeGroup_low]
  cases d.wrn.player with
  | idle => rfl
  | silence t => rfl
  | playing q =>
    obtain ⟨_ | w, _⟩ := q <;> rfl

/-- One slot of FAULT_LIST, byte by byte. -/
theorem faultItem_eq (d : Dev) (i : Fin 40) : faultItem d i = match (d.slot i).record with
    | none => []
    | some r => byte i.val :: (be16 r.code.toNat ++ [if r.active then 0#8 else 1#8, byte r.severity.code,
        byte r.occurrences, byte r.aging] ++ be32 r.firstDistance ++ be32 r.lastDistance ++ be16 r.firstCycle ++
        be16 r.lastCycle ++ [(match r.frame with
          | .absent => 0#8
          | .inPool _ => 1#8
          | .stored => 2#8), flagByte r.frameLost, (match r.frame with
          | .inPool q => byte q.val
          | .absent | .stored => 0xFF#8), flagByte (d.slot i).dirty]) := by
  unfold faultItem recordForm recordBytes
  dsimp only
  cases (d.slot i).record with
  | none => rfl
  | some r =>
    simp only [byte_statusCode, byte_frameCode, List.append_assoc, List.cons_append, List.nil_append] <;> rfl

/-! ## The owners that look at an index -/

theorem ownReadChannels_ok {tag : Byte} {p : List Byte} (h1 : field8 p 0 ≤ 45) (h2 : 1 ≤ field8 p 1)
    (h3 : field8 p 1 ≤ 16) :
    ownReadChannels tag p d = lnkAnswer tag (channelsReply d (field8 p 0) (field8 p 1)) d :=
  if_neg (by simp; omega)

theorem ownReadChannels_bad {tag : Byte} {p : List Byte} (h : 45 < field8 p 0 ∨ field8 p 1 = 0 ∨ 16 < field8 p 1) :
    ownReadChannels tag p d = lnkAnswer tag (statusReply .badArgument) d :=
  if_pos (by simp; omega)

theorem ownReadWarnings_ok {tag : Byte} {p : List Byte} (h1 : field8 p 0 ≤ 63) (h2 : 1 ≤ field8 p 1)
    (h3 : field8 p 1 ≤ 32) :
    ownReadWarnings tag p d = lnkAnswer tag (warningsReply d (field8 p 0) (field8 p 1)) d :=
  if_neg (by simp; omega)

theorem ownReadWarnings_bad {tag : Byte} {p : List Byte} (h : 63 < field8 p 0 ∨ field8 p 1 = 0 ∨ 32 < field8 p 1) :
    ownReadWarnings tag p d = lnkAnswer tag (statusReply .badArgument) d :=
  if_pos (by simp; omega)

theorem ownFaultList_ok {tag : Byte} {p : List Byte} (h : field8 p 0 ≤ 39) :
    ownFaultList tag p d = lnkAnswer tag (faultListReply d (field8 p 0)) d :=
  if_neg (Nat.not_lt.mpr h)

theorem ownFaultList_bad {tag : Byte} {p : List Byte} (h : 39 < field8 p 0) :
    ownFaultList tag p d = lnkAnswer tag (statusReply .badArgument) d :=
  if_pos h

/-- Settles O49: each owner answers at once, and each reply is laid out field by field by the lemmas above. -/
theorem readRequestsAnswerAtOnce : Obligations.ReadRequestsAnswerAtOnce := by
  refine ⟨by decide, ?_⟩
  intro s tag p d first count answers flag index int16 time id records channel door gauge lamp warning chime fault
    named listed
  have htime : ∀ (f : Frame) (t : Timer), field16Opt ((taken f d).remaining t) = time t := fun f t =>
    field16Opt_remaining _ t
  have hid : ∀ f : Frame, calIdField (taken f d).activeId = id := fun f => calIdField_activeId _
  have hrecords : ∀ f : Frame, recordCount (taken f d) = records := fun f => recordCount_eq _
  refine ⟨fun h => .of_answer rfl h rfl ?identify, fun h => .of_answer rfl h rfl ?status,
    fun h => .of_answer rfl h rfl ?doors, fun h => .of_answer rfl h rfl ?gauges,
    fun h => .of_answer rfl h rfl ?odometer, fun h => .of_answer rfl h rfl ?lamps,
    fun h1 h2 h3 h => .of_answer rfl h (ownReadChannels_ok h1 h2 h3) ?channels,
    fun hbad h => .of_answer rfl h (ownReadChannels_bad hbad) rfl,
    fun h1 h2 h3 h => .of_answer rfl h (ownReadWarnings_ok h1 h2 h3) ?warnings,
    fun hbad h => .of_answer rfl h (ownReadWarnings_bad hbad) rfl,
    fun h1 h => .of_answer rfl h (ownFaultList_ok h1) ?faults,
    fun hbad h => .of_answer rfl h (ownFaultList_bad hbad) rfl⟩
  case identify =>
    unfold identifyReply
    rw [hid]
    rfl
  case status =>
    unfold statusRequestReply statusFields okReply
    rw [htime, hrecords, hid, be16_toNat]
    simp only [List.append_assoc, List.cons_append, List.nil_append]
    rfl
  case doors =>
    have hdoor : ∀ (f : Frame) (i : Fin 4), doorItem (taken f d) i = door i := fun f i => by
      unfold doorItem
      dsimp only
      rw [htime]
      rfl
    unfold doorsReply interlockFields okReply
    dsimp only
    rw [htime, funext (hdoor _)]
    simp only [List.append_assoc]
    rfl
  case gauges =>
    refine congrArg (0#8 :: ·) (List.flatMap_congr fun g _ => ?_)
    show gaugeItem d g = gauge g
    rfl
  case odometer =>
    unfold odometerReply
    rw [byte_odoCode]
    rfl
  case lamps =>
    refine congrArg (0#8 :: ·) (List.flatMap_congr fun l _ => ?_)
    unfold lampItem
    dsimp only
    rw [byte_forceCode]
    rfl
  case channels =>
    have hitems : (upTo 46 first count).length = min count (46 - first) := by simp [upTo]
    unfold channelsReply okReply
    dsimp only
    rw [show field8 p 0 = first from rfl, show field8 p 1 = count from rfl, hitems]
    rfl
  case warnings =>
    have hwarning : ∀ w : Fin 64, warningItem d w = warning w := fun w => by
      unfold warningItem
      dsimp only
      rw [index8_remembered]
      rfl
    unfold warningsReply okReply
    dsimp only
    rw [show field8 p 0 = first from rfl, show field8 p 1 = count from rfl, chimeFields_eq]
    exact congrArg (fun l => 0#8 :: byte named.length :: (l ++ chime)) (List.flatMap_congr fun w _ => hwarning w)
  case faults =>
    unfold faultListReply okReply
    dsimp only
    rw [hrecords, index8_ite]
    refine congrArg ([0#8, byte records, byte d.flt.dropped, flag d.flt.persistent,
      if first + 8 ≤ 39 then byte (first + 8) else 0xFF#8, byte listed.length] ++ ·) ?_
    exact List.flatMap_congr fun i _ => faultItem_eq d i

end Sys2Proof.Machine
end

section
/-! SUPPORT. Requests that are deferred, subscriptions, and the requests of the fault memory; with them the statements
`Obligations.SubscribeReplacesMask` (O50), `Obligations.SampleNowJoinsList` (O51),
`Obligations.FaultReadAnswersOrDefers` (O55) and `Obligations.FaultClearErasesPassive` (O56). -/

namespace Sys2Proof.Machine
variable {d e : Dev} {f : Frame}

/-! ## Deferred requests -/

/-- A served request deferred: it stands last in the list with its flag set, and no other request carries its tag. -/
theorem lnkDefer_taken (h : served d f = true) : lnkDefer f.tag (taken f d) = { taken f d with
    lnk := { (taken f d).lnk with requests := d.lnk.requests ++ [⟨f.tag, f.kind, true⟩] } } := by
  obtain ⟨-, -, free, -⟩ := served_iff.mp h
  have others : (d.lnk.requests.map fun q => if q.tag == f.tag then { q with deferred := true } else q) =
      d.lnk.requests := by
    refine (List.map_congr_left fun q hq => if_neg fun same => ?_).trans (List.map_id _)
    exact Bool.eq_false_iff.mp free ((tagInUse_iff _ _).mpr ⟨q, hq, eq_of_beq same⟩)
  simp only [lnkDefer, taken, List.map_append, others, List.map_cons, List.map_nil, beq_self_eq_true, if_true]

/-- A served frame whose owner answers after an effect that leaves the request list as it was. -/
theorem Runs.of_effect {c : Instr} {s : State} {owner : Dev → Dev} {p : List Byte}
    (hc : exec c s = .next (s.event (onFrame f owner))) (h : served s.dev f = true)
    (ho : owner (taken f s.dev) = lnkAnswer f.tag p e) (hr : e.lnk.requests = (taken f s.dev).lnk.requests) :
    Runs c s (replied f p e) :=
  .of_served hc h (by rw [ho, answer_after h hr])

/-! ## SUBSCRIBE (R191) -/

/-- From `d` to `e` notices are posted: beside the notice queue nothing moves, and `P` holds of the queue's entries. -/
def Posted (P : Notice → Prop) (d e : Dev) : Prop :=
  e = { d with lnk := { d.lnk with notices := e.lnk.notices, overflow := e.lnk.overflow } } ∧
    ∀ n ∈ e.lnk.notices, P n

theorem Posted.post {P : Notice → Prop} (h : Posted P d e)
    (hP : ∀ n : Notice, d.lnk.mask.getLsbD n.kind.group = true → P n) (k : NoticeKind) (subject : Nat)
    (content : List Byte) : Posted P d (lnkPost k subject content e) := by
  obtain ⟨he, hn⟩ := h
  have hmask : e.lnk.mask = d.lnk.mask := by rw [he]
  cases hs : subscribed e k with
  | false =>
    rw [lnkPost_unsubscribed content hs]
    exact ⟨he, hn⟩
  | true =>
    have hk : d.lnk.mask.getLsbD k.group = true := hmask ▸ hs
    rw [lnkPost_subscribed content hs]
    split_ifs
    · refine ⟨by rw [he], fun n hmem => ?_⟩
      rw [replaceNotice_eq_map] at hmem
      obtain ⟨m, hm, rfl⟩ := List.mem_map.mp hmem
      split_ifs with same
      · exact hP _ (same.1 ▸ hk)
      · exact hn m hm
    · refine ⟨by rw [he], fun n hmem => ?_⟩
      rcases List.mem_append.mp hmem with hmem | hmem
      · exact hn n hmem
      · exact hP n (List.mem_singleton.mp hmem ▸ hk)
    · exact ⟨by rw [he], hn⟩

/-- The snapshot of a group posts notices and does nothing else. -/
theorem Posted.groupSnapshot {P : Notice → Prop} (h : Posted P d e)
    (hP : ∀ n : Notice, d.lnk.mask.getLsbD n.kind.group = true → P n) (g : Nat) :
    Posted P d (groupSnapshot g e) := by
  unfold Machine.groupSnapshot
  split
  · refine forEach_keeps (P := Posted P d) (fun ch e he => ?_) h
    split_ifs
    · exact he
    · exact he.post hP _ _ _
  · refine forEach_keeps (P := Posted P d) (fun w e he => ?_) h
    split_ifs
    · exact he
    · exact he.post hP _ _ _
  · refine Posted.post (forEach_keeps (P := Posted P d) (fun i e he => ?_) h) hP _ _ _
    split_ifs
    · exact he.post hP _ _ _
    · exact he
  · refine forEach_keeps (P := Posted P d) (fun g e he => ?_) h
    split_ifs
    · exact he
    · exact he.post hP _ _ _
  · refine forEach_keeps (P := Posted P d) (fun i e he => ?_) h
    split
    · split_ifs
      · exact he.post hP _ _ _
      · exact he
    · exact he
  · exact h.post hP _ _ _
  · exact h.post hP _ _ _
  · exact h

theorem forEach_of_forall_eq {k : Nat} {f : Fin k → Dev → Dev} (h : ∀ i, f i d = d) : forEach k f d = d :=
  forEach_keeps (P := (· = d)) (fun i e he => by rw [he, h]) rfl

/-- The notices that stay when a mask replaces another (R191). -/
def keptNotices (mask : BitVec 8) (d : Dev) : List Notice :=
  d.lnk.notices.filter fun n => !d.lnk.mask.getLsbD n.kind.group || mask.getLsbD n.kind.group

/-- The mask replaced, and the notices of the groups it disables gone. -/
def masked (mask : BitVec 8) (d : Dev) : Dev :=
  { d with lnk := { d.lnk with mask := mask, notices := keptNotices mask d } }

theorem setMask_eq (mask : BitVec 8) (d : Dev) : setMask mask d =
    forEach 8 (fun g e => if mask.getLsbD g && !d.lnk.mask.getLsbD g then groupSnapshot g e else e)
      (masked mask d) := rfl

theorem setMask_posted (mask : BitVec 8) (d : Dev) :
    Posted (fun n => d.lnk.mask.getLsbD n.kind.group = true → mask.getLsbD n.kind.group = true) (masked mask d)
      (setMask mask d) := by
  rw [setMask_eq]
  refine forEach_keeps (P := Posted _ _) (fun g e he => ?_) ⟨rfl, fun n hn => ?_⟩
  · split_ifs
    · exact he.groupSnapshot (fun n hm _ => hm) g
    · exact he
  · have := (List.mem_filter.mp hn).2
    simpa [imp_iff_not_or] using this

/-- A mask that enables no new group queues no snapshot. -/
theorem setMask_of_le {mask : BitVec 8} (h : ∀ g, mask.getLsbD g = true → d.lnk.mask.getLsbD g = true) :
    setMask mask d = masked mask d := by
  rw [setMask_eq]
  refine forEach_of_forall_eq fun g => if_neg ?_
  have := h g
  simpa using this

/-- A mask that newly enables MODE alone queues the MODE_CHANGE snapshot. -/
theorem setMask_mode {mask : BitVec 8} (h : mask = d.lnk.mask ||| 0x40#8) (hold : d.lnk.mask.getLsbD 6 = false) :
    setMask mask d = postMode (masked mask d) := by
  have other : ∀ g : Fin 8, g ≠ 6 → (mask.getLsbD g && !d.lnk.mask.getLsbD g) = false := fun g hg => by
    have : (0x40#8).getLsbD g = false := by revert hg; revert g; decide
    rw [h, BitVec.getLsbD_or, this, Bool.or_false, Bool.and_not_self]
  have mode : (mask.getLsbD 6 && !d.lnk.mask.getLsbD 6) = true := by
    rw [h, BitVec.getLsbD_or, hold]
    decide
  rw [setMask_eq]
  refine forEach_at (before := (· = masked mask d)) (after := (· = postMode (masked mask d))) 6
    (fun g hg e he => ?_) (fun e he => ?_) (fun g hg e he => ?_) rfl
  · rw [other g hg]; exact he
  · rw [he]; exact if_pos mode
  · rw [other g hg]; exact he

theorem modeByte_eq (o : Option Mode) : modeByte o = (o.map fun p => byte p.code).getD 0xFF#8 := by
  cases o <;> rfl

/-- Settles O50: the owner answers after `setMask`, whose snapshots are posted notices. -/
theorem subscribeReplacesMask : Obligations.SubscribeReplacesMask := by
  intro s tag high mask f old kept m h
  obtain ⟨hframe, hsubscribed⟩ := setMask_posted mask (taken f s.dev)
  have hlnk : (setMask mask (taken f s.dev)).lnk.requests = (taken f s.dev).lnk.requests := by
    rw [hframe]; rfl
  have hreply : ownSubscribe tag [high, mask] (taken f s.dev) =
      lnkAnswer f.tag [0#8, 0#8, mask] (setMask mask (taken f s.dev)) := by
    show lnkAnswer tag (okReply (be16 mask.toNat)) _ = _
    rw [be16_toNat]
    rfl
  refine ⟨replied f [0#8, 0#8, mask] (setMask mask (taken f s.dev)), .of_effect rfl h hreply hlnk, ?_, ?_, hlnk, ?_,
    hsubscribed, fun hle => ?_, fun hmask hbit hnone hroom => ?_⟩
  · rw [hframe]; rfl
  · rw [hframe]; rfl
  · rw [hframe]; rfl
  · rw [setMask_of_le (d := taken f s.dev) hle]
    exact ⟨rfl, rfl⟩
  · have hkind : ¬∃ n ∈ (masked mask (taken f s.dev)).lnk.notices, n.kind = .modeChange ∧ n.subject = 0 :=
      fun ⟨n, hn, hk, _⟩ => hnone n (List.mem_filter.mp hn).1 hk
    have hlen : (masked mask (taken f s.dev)).lnk.notices.length < 32 := (List.length_filter_le _ _).trans_lt hroom
    have hsub : subscribed (masked mask (taken f s.dev)) .modeChange = true := by
      show mask.getLsbD 6 = true
      rw [hmask, BitVec.getLsbD_or]
      simp
    rw [setMask_mode (d := taken f s.dev) hmask hbit, postMode, lnkPost_subscribed _ hsub, if_neg hkind, if_pos hlen]
    simp only [modeContent, modeByte_eq]
    rfl

/-! ## SAMPLE_NOW (R13) -/

/-- A grant moves the converter alone. -/
theorem seqGrant_eq (d : Dev) :
    seqGrant d = { d with seq := { d.seq with converter := (seqGrant d).seq.converter } } := by
  unfold seqGrant
  split <;> rfl

theorem seqGrant_not_idle (h : (nextConversion d).isSome) : (seqGrant d).seq.converter ≠ .idle := by
  obtain ⟨⟨ch, src⟩, hn⟩ := Option.isSome_iff_exists.mp h
  simp [seqGrant, hn, setConverter]

/-- An entry without a result is pending. -/
theorem nextConversion_isSome {x : DemandEntry} (hx : x ∈ d.seq.onDemand) (hr : x.result = none) :
    (nextConversion d).isSome := by
  have : (nextOnDemand d).isSome := List.find?_isSome.mpr ⟨x, hx, by simp [hr]⟩
  unfold nextConversion
  cases scanNext d .fast with
  | some c => rfl
  | none =>
    cases scanNext d .medium with
    | some c => rfl
    | none =>
      cases scanNext d .slow with
      | some c => rfl
      | none => simpa [Option.orElse] using this

theorem seqGrantIfIdle_eq (d : Dev) :
    seqGrantIfIdle d = { d with seq := { d.seq with converter := (seqGrantIfIdle d).seq.converter } } := by
  unfold seqGrantIfIdle
  split
  · exact seqGrant_eq d
  · rfl

theorem seqGrantIfIdle_busy (h : d.seq.converter ≠ .idle) : seqGrantIfIdle d = d := if_neg h

theorem seqGrantIfIdle_idle (h : d.seq.converter = .idle) : seqGrantIfIdle d = seqGrant d := if_pos h

theorem demandEntries_pending {tag : Byte} {channels : List Byte} (h : 1 ≤ channels.length) :
    ∃ x ∈ demandEntries tag channels, x.result = none := by
  obtain ⟨c, hc⟩ := List.exists_mem_of_length_pos h
  exact ⟨_, List.mem_map.mpr ⟨c, hc, rfl⟩, rfl⟩

/-- The on-demand list with the entries of a request, which is deferred. -/
def sampled (f : Frame) (channels : List Byte) (d : Dev) : Dev :=
  { taken f d with
    seq := { d.seq with onDemand := d.seq.onDemand ++ demandEntries f.tag channels }
    lnk := { (taken f d).lnk with requests := d.lnk.requests ++ [⟨f.tag, f.kind, true⟩] } }

/-- Settles O51: the owner's tests in order; where they pass, the request is deferred and its entries join. -/
theorem sampleNowJoinsList : Obligations.SampleNowJoinsList := by
  intro s tag count channels f named room h
  have hnamed : (channels.isEmpty || 8 < channels.length || channels.any fun c => decide (43 < c.toNat)) = true ↔
      ¬named := by
    simp only [named, Bool.or_eq_true, List.isEmpty_iff_length_eq_zero, decide_eq_true_eq, List.any_eq_true,
      Classical.not_and_iff_not_or_not, not_forall, Nat.not_le, exists_prop, or_assoc, Nat.lt_one_iff]
  have htests (d : Dev) : ownSampleNow tag (count :: channels) d =
      if ¬named then refuse tag .badArgument d
      else if 8 < d.seq.onDemand.length + channels.length then refuse tag .busy d
      else seqGrantIfIdle { lnkDefer tag d with seq := { d.seq with
        onDemand := d.seq.onDemand ++ demandEntries tag channels } } := by
    unfold ownSampleNow
    simp only [← hnamed]
    rfl
  refine ⟨fun hn hr => ?_, fun hn hr => .of_answer rfl h ?_ rfl, fun hn => .of_answer rfl h ?_ rfl⟩
  · have he : ownSampleNow tag (count :: channels) (taken f s.dev) = seqGrantIfIdle (sampled f channels s.dev) := by
      rw [htests, if_neg (not_not.mpr hn), taken_seq, if_neg (Nat.not_lt.mpr hr), lnkDefer_taken h]
      rfl
    refine ⟨_, .of_served rfl h he, seqGrantIfIdle_eq _, fun hc => ?_, fun hc => ?_⟩
    · rw [seqGrantIfIdle_busy (d := sampled f channels s.dev) hc]
      rfl
    · obtain ⟨x, hx, hpending⟩ := demandEntries_pending (tag := tag) hn.1
      rw [seqGrantIfIdle_idle (d := sampled f channels s.dev) hc]
      exact seqGrant_not_idle (nextConversion_isSome (List.mem_append_right _ hx) hpending)
  · rw [htests, if_neg (not_not.mpr hn), taken_seq, if_pos (Nat.lt_of_not_le hr)]
    rfl
  · rw [htests, if_pos hn]
    rfl

/-! ## FAULT_READ (R146) -/

theorem ownFaultRead_absent {tag : Byte} {p : List Byte} (h : findCode d (BitVec.ofNat 16 (field16 p 0)) = none) :
    ownFaultRead tag p d = lnkAnswer tag (statusReply .badArgument) d := by
  simp only [ownFaultRead, h]
  rfl

section Held

variable {tag : Byte} {p : List Byte} {i : Fin 40} {r : FaultRec}
  (h : findCode d (BitVec.ofNat 16 (field16 p 0)) = some i) (hr : (d.slot i).record = some r)
include h hr

theorem ownFaultRead_now (hf : r.frame ≠ .stored) : ownFaultRead tag p d = lnkAnswer tag (faultReadNow d i r) d := by
  simp only [ownFaultRead, h, hr]
  cases hc : r.frame <;> first | rfl | exact absurd hc hf

theorem ownFaultRead_stored (hf : r.frame = .stored) :
    ownFaultRead tag p d = deferFaultRead tag i (BitVec.ofNat 16 (field16 p 0)) d := by
  simp only [ownFaultRead, h, hr, hf]

end Held

/-- With nothing but a host read waiting, the arbiter chooses the host reads. -/
theorem arbitrate_hostRead (h1 : d.flt.queue = []) (h2 : d.pls.odoJob ≠ .queued) (h3 : d.sto.loader.queued = none)
    (h4 : d.sto.hostReads ≠ []) (h5 : d.sto.storeQueued = false) : arbitrate d = some .hostRead := by
  have high : groupHolds d highOrder = false := by simp [groupHolds, highOrder, holdsJob, h1, h2, h3]
  have low : (afterGrant lowOrder d.sto.lastLow).find? (holdsJob d) = some .hostRead := by
    rcases d.sto.lastLow with _ | _ | _ | _ | _ | _ <;>
      simp [afterGrant, lowOrder, holdsJob, h4, h5]
  unfold arbitrate
  rw [low, high]
  simp

/-- A grant with nothing but one host read waiting puts its read of the frame slot in flight. -/
theorem stoGrant_hostRead {x : HostRead} (hj : d.sto.job = none) (hs : d.sto.storage ≠ .absent) (h1 : d.flt.queue = [])
    (h2 : d.pls.odoJob ≠ .queued) (h3 : d.sto.loader.queued = none) (h4 : d.sto.hostReads = [x])
    (h5 : d.sto.storeQueued = false) : stoGrant d = { d with sto := { d.sto with
      job := some ⟨.hostRead, .read (0x4600 + 64 * x.slot.val) 64, 1, 0, .started, some x, 0⟩
      hostReads := [], lastLow := some .hostRead, highWhileLow := 0 } } := by
  unfold stoGrant
  rw [if_neg (by simp [hj, hs]), arbitrate_hostRead h1 h2 h3 (by simp [h4]) h5]
  simp only [countGrant, Requester.isHigh, grantTo, h4, startJob, startPhase]
  rfl

/-- Settles O55. -/
theorem faultReadAnswersOrDefers : Obligations.FaultReadAnswersOrDefers := by
  intro s tag a b f code cmd holds h
  refine ⟨fun hnone => .of_answer rfl h (ownFaultRead_absent (findCode_eq_none_iff.mpr hnone)) rfl, ?_⟩
  intro i r hr hcode hfirst record deferred
  have hfind : findCode (taken f s.dev) (BitVec.ofNat 16 (field16 [a, b] 0)) = some i :=
    findCode_eq_some_iff.mpr ⟨⟨r, hr, hcode⟩, hfirst⟩
  have hdefer : r.frame = .stored → ownFaultRead tag [a, b] (taken f s.dev) = stoGrant { s.dev with
      lnk := deferred, sto := { s.dev.sto with hostReads := s.dev.sto.hostReads ++ [⟨tag, i, code⟩] } } := fun hf => by
    rw [ownFaultRead_stored hfind hr hf, deferFaultRead, lnkDefer_taken h]
    rfl
  refine ⟨fun hf => .of_answer rfl h (ownFaultRead_now hfind hr (by simp [hf])) ?_, fun p fr hf hp =>
    .of_answer rfl h (ownFaultRead_now hfind hr (by simp [hf])) ?_, fun hf hj => .of_served rfl h ?_,
    fun hf hj hs h1 h2 h3 h4 h5 => .of_served rfl h ?_⟩
  · have : poolFrame (taken f s.dev) r.frame = none := by rw [hf]; rfl
    rw [faultReadNow, this]
    rfl
  · have : poolFrame (taken f s.dev) r.frame = some fr := by rw [hf]; exact hp
    rw [faultReadNow, this]
    show _ = ([0#8, byte i.val] ++ recordForm (s.dev.slot i) r) ++ [1#8] ++ frameBytes32 fr
    rw [List.append_assoc]
    rfl
  · rw [hdefer hf]
    exact if_pos (by simp [hj])
  · rw [hdefer hf]
    refine Eq.trans (stoGrant_hostRead (x := ⟨tag, i, code⟩) (by exact hj) (by simp [hs]) (by exact h1) (by exact h2)
      (by exact h3) (by simp [h4]) (by exact h5)) ?_
    simp [h4]

/-! ## FAULT_CLEAR (R144) -/

theorem statusCount_eq (d : Dev) (active : Bool) :
    statusCount d active = ((List.finRange 40).filter fun i => (d.slot i).hasStatus active).length :=
  filter_toList_length _ _

theorem FaultSlot.hasStatus_iff (s : FaultSlot) (active : Bool) :
    s.hasStatus active = true ↔ ∃ r, s.record = some r ∧ r.active = active := by
  unfold FaultSlot.hasStatus
  cases s.record <;> simp

theorem erasePassive_passive {i : Fin 40} {r : FaultRec} (hr : (d.slot i).record = some r) (ha : r.active = false) :
    erasePassive i d = eraseSlot i r d := by
  simp [erasePassive, hr, ha]

theorem erasePassive_other {i : Fin 40} (h : ¬∃ r, (d.slot i).record = some r ∧ r.active = false) :
    erasePassive i d = d := by
  unfold erasePassive
  split
  next r hr =>
    refine if_pos (by_contra fun ha => h ⟨r, hr, ?_⟩)
    simpa using ha
  next => rfl

/-- What the erasure does at one slot: nothing, or a PASSIVE record erased there. -/
theorem erasePassive_keeps {P : Dev → Prop} {i : Fin 40} (unchanged : P d) (erase : ∀ r, P (eraseSlot i r d)) :
    P (erasePassive i d) := by
  unfold erasePassive
  split
  · split
    · exact unchanged
    · exact erase _
  · exact unchanged

theorem erasePassive_slot_ne {i k : Fin 40} (h : i ≠ k) (d : Dev) : (erasePassive i d).slot k = d.slot k :=
  erasePassive_keeps (P := fun e => e.slot k = d.slot k) rfl fun r => by rw [eraseSlot_slot, if_neg h]

theorem told_erasePassive {n : Nat} {d₀ : Dev} (i : Fin 40) (h : Told n d₀ d) : Told n d₀ (erasePassive i d) :=
  erasePassive_keeps (P := Told n d₀) h fun r => told_eraseSlot i r h

theorem forEach_erasePassive_passive {i : Fin 40} {r : FaultRec} (hr : (d.slot i).record = some r)
    (ha : r.active = false) : (forEach 40 erasePassive d).slot i = ⟨none, true⟩ := by
  refine forEach_at (before := fun e => e.slot i = d.slot i) (after := fun e => e.slot i = ⟨none, true⟩) i
    (fun j hj e he => ?_) (fun e he => ?_) (fun j hj e he => ?_) rfl
  · rw [erasePassive_slot_ne hj, he]
  · rw [erasePassive_passive (he ▸ hr) ha, eraseSlot_slot, if_pos rfl]
  · rw [erasePassive_slot_ne hj, he]

theorem forEach_erasePassive_other {i : Fin 40} (h : ¬∃ r, (d.slot i).record = some r ∧ r.active = false) :
    (forEach 40 erasePassive d).slot i = d.slot i := by
  refine forEach_keeps (P := fun e => e.slot i = d.slot i) (fun j e he => ?_) rfl
  by_cases same : j = i
  · subst same
    rw [erasePassive_other (he ▸ h), he]
  · rw [erasePassive_slot_ne same, he]

theorem forEach_erasePassive_frees {i : Fin 40} {r : FaultRec} {p : Fin 8} (hr : (d.slot i).record = some r)
    (ha : r.active = false) (hp : r.frame = .inPool p) : (forEach 40 erasePassive d).flt.pool[p] = none := by
  refine forEach_at (before := fun e => e.slot i = d.slot i) (after := fun e => e.flt.pool[p] = none) i
    (fun j hj e he => ?_) (fun e he => ?_) (fun j hj e he => ?_) rfl
  · rw [erasePassive_slot_ne hj, he]
  · rw [erasePassive_passive (he ▸ hr) ha]
    simp only [eraseSlot_pool]
    exact freedPool_none (.inl hp)
  · refine erasePassive_keeps (P := fun e => e.flt.pool[p] = none) he fun q => ?_
    simp only [eraseSlot_pool]
    exact freedPool_none (.inr he)

theorem slot_setDropped (d : Dev) (n : Nat) (i : Fin 40) :
    Dev.slot { d with flt := { d.flt with dropped := n } } i = d.slot i := rfl

theorem pool_setDropped (d : Dev) (n : Nat) (p : Fin 8) :
    ({ d with flt := { d.flt with dropped := n } } : Dev).flt.pool[p] = d.flt.pool[p] := rfl

theorem ownFaultClearOne_absent {tag : Byte} {rest : List Byte}
    (h : findCode d (BitVec.ofNat 16 (field16 rest 0)) = none) :
    ownFaultClearOne tag rest d = lnkAnswer tag (clearReply 0 0) d := by
  simp only [ownFaultClearOne, h]
  rfl

theorem ownFaultClearOne_found {tag : Byte} {rest : List Byte} {i : Fin 40}
    (h : findCode d (BitVec.ofNat 16 (field16 rest 0)) = some i) :
    ownFaultClearOne tag rest d = if (d.slot i).hasStatus true then lnkAnswer tag (clearReply 0 1) d
      else lnkAnswer tag (clearReply 1 0) (erasePassive i d) := by
  simp only [ownFaultClearOne, h]
  rfl

/-- Settles O56: the erasures are those of the slots, one after the other, and the reply joins the queue after
them. -/
theorem faultClearErasesPassive : Obligations.FaultClearErasesPassive := by
  intro s tag a b f code count cleared holds
  have hcleared {c : Instr} {scope : Byte} {reply : List Byte} {erased : Fin 40 → Prop} {owner : Dev → Dev} {e : Dev}
      (hc : exec c s = .next (s.event (onFrame (f scope) owner))) (h : served s.dev (f scope) = true)
      (ho : owner (taken (f scope) s.dev) = lnkAnswer tag (0#8 :: reply) e) (told : Told 0 (taken (f scope) s.dev) e)
      (hin : ∀ i, erased i → e.slot i = ⟨none, true⟩) (hout : ∀ i, ¬erased i → e.slot i = s.dev.slot i)
      (hpool : ∀ i r p, erased i → (s.dev.slot i).record = some r → r.frame = .inPool p → e.flt.pool[p] = none)
      (hdropped : scope = 0#8 → e.flt.dropped = 0) : cleared c scope reply erased := by
    have hreq : e.lnk.requests = (taken (f scope) s.dev).lnk.requests := by rw [told.lnk]
    refine ⟨_, .of_effect hc h ho hreq, hin, hout, hpool, hdropped, hreq, ?_, told.wrn rfl, told.gau (by omega),
      told.dor, told.cal, told.mod⟩
    show e.lnk.replies ++ [_] = _
    rw [told.lnk]
    rfl
  have hcount (scope : Byte) (active : Bool) : byte (statusCount (taken (f scope) s.dev) active) = count active := by
    rw [statusCount_eq]
    rfl
  refine ⟨fun h => ?all, fun h => ⟨fun hnone => ?none, fun i hi hfirst => ?kept, fun k hk hfirst => ?erased⟩⟩
  case all =>
    have told : Told 0 (taken (f 0#8) s.dev) (forEach 40 erasePassive (taken (f 0#8) s.dev)) :=
      told_forEach (fun i e => told_erasePassive i) (Told.refl 0 _)
    refine hcleared rfl h ?_
      (told_flt { (forEach 40 erasePassive (taken (f 0#8) s.dev)).flt with dropped := 0 } told)
      (fun i ⟨r, hr, ha⟩ => ?_) (fun i hi => ?_) (fun i r p ⟨q, hq, ha⟩ hr hp => ?_) (fun _ => rfl)
    · rw [← hcount 0#8 false, ← hcount 0#8 true]
      rfl
    · exact (slot_setDropped _ _ _).trans (forEach_erasePassive_passive (d := taken (f 0#8) s.dev) hr ha)
    · exact (slot_setDropped _ _ _).trans (forEach_erasePassive_other (d := taken (f 0#8) s.dev) hi)
    · obtain rfl : q = r := Option.some.inj (hq.symm.trans hr)
      exact (pool_setDropped _ _ _).trans (forEach_erasePassive_frees (d := taken (f 0#8) s.dev) hr ha hp)
  all_goals
    have hfind {i : Fin 40} {active : Bool} (hi : holds i active) (hfirst : ∀ k active, k < i → ¬holds k active) :
        findCode (taken (f 1#8) s.dev) (BitVec.ofNat 16 (field16 [a, b] 0)) = some i := by
      obtain ⟨r, hr, hcode, -⟩ := hi
      exact findCode_eq_some_iff.mpr ⟨⟨r, hr, hcode⟩, fun k hk ⟨q, hq, hqc⟩ => hfirst k q.active hk ⟨q, hq, hqc, rfl⟩⟩
  case none =>
    refine hcleared rfl h (ownFaultClearOne_absent ?_) (Told.refl 0 _) nofun (fun i _ => rfl) nofun nofun
    exact findCode_eq_none_iff.mpr fun k ⟨r, hr, hcode⟩ => hnone k r.active ⟨r, hr, hcode, rfl⟩
  case kept =>
    obtain ⟨r, hr, hcode, ha⟩ := hi
    refine hcleared rfl h ((ownFaultClearOne_found (hfind ⟨r, hr, hcode, ha⟩ hfirst)).trans (if_pos ?_)) (Told.refl 0 _)
      nofun (fun i _ => rfl) nofun nofun
    exact (FaultSlot.hasStatus_iff _ _).mpr ⟨r, hr, ha⟩
  case erased =>
    obtain ⟨r, hr, hcode, ha⟩ := hk
    have herase : erasePassive k (taken (f 1#8) s.dev) = eraseSlot k r (taken (f 1#8) s.dev) :=
      erasePassive_passive (d := taken (f 1#8) s.dev) hr ha
    refine hcleared rfl h ((ownFaultClearOne_found (hfind ⟨r, hr, hcode, ha⟩ hfirst)).trans (if_neg ?_))
      (told_erasePassive k (Told.refl 0 _)) (fun i hi => ?_) (fun i hi => erasePassive_slot_ne (Ne.symm hi) _)
      (fun i q p hi hq hp => ?_) nofun
    · rw [FaultSlot.hasStatus_iff]
      rintro ⟨q, hq, hqa⟩
      obtain rfl : q = r := Option.some.inj (hq.symm.trans hr)
      rw [ha] at hqa
      contradiction
    · subst hi
      rw [herase, eraseSlot_slot, if_pos rfl]
    · subst hi
      obtain rfl : q = r := Option.some.inj (hq.symm.trans hr)
      rw [herase]
      simp only [eraseSlot_pool]
      exact freedPool_none (.inl hp)

end Sys2Proof.Machine
end

section
/-! SUPPORT. What a channel update leaves of the sensing side, the converter and the pulse inputs; with them the
statements `Obligations.ConverterSettlesAndGrants` (O13), `Obligations.OnDemandResultIsAnswered` (O14),
`Obligations.PulseEdgeIsCaptured` (O19), `Obligations.PulseUpdateComputesSpeed` (O20) and
`Obligations.PulseSilenceReachesStandstill` (O21). -/

namespace Sys2Proof.Machine
variable {d e : Dev}

/-! ## The sensing side -/

/-- From `d` to `e` the sensing side stays: the clock, SEQ, SIG, calibration, and of PLS all but the odometer job. The
consumers of a channel update (R19) do no more to it. -/
structure SensesKept (d e : Dev) : Prop where
  clock : e.clock = d.clock
  seq : e.seq = d.seq
  sig : e.sig = d.sig
  cal : e.cal = d.cal
  pls : e.pls = { d.pls with odoJob := e.pls.odoJob, writeOwed := e.pls.writeOwed }

theorem SensesKept.refl (d : Dev) : SensesKept d d := ⟨rfl, rfl, rfl, rfl, rfl⟩

theorem SensesKept.trans {a b c : Dev} (h : SensesKept a b) (k : SensesKept b c) : SensesKept a c :=
  ⟨k.clock.trans h.clock, k.seq.trans h.seq, k.sig.trans h.sig, k.cal.trans h.cal, by rw [k.pls, h.pls]⟩

theorem Told.senses {n : Nat} (h : Told n d e) : SensesKept d e := ⟨h.clock, h.seq, h.sig, h.cal, h.pls⟩

theorem SensesKept.chan (h : SensesKept d e) (ch : Nat) : e.chan ch = d.chan ch := by
  unfold Dev.chan
  rw [h.sig]

theorem senses_dor (w : DorState) (d : Dev) : SensesKept d { d with dor := w } := ⟨rfl, rfl, rfl, rfl, rfl⟩

theorem senses_mod (w : ModState) (d : Dev) : SensesKept d { d with mod := w } := ⟨rfl, rfl, rfl, rfl, rfl⟩

theorem senses_forEach {k : Nat} {f : Fin k → Dev → Dev} (hf : ∀ i e, SensesKept e (f i e)) (d : Dev) :
    SensesKept d (forEach k f d) :=
  forEach_keeps (P := SensesKept d) (fun i e he => he.trans (hf i e)) (.refl d)

theorem senses_interlockRefresh (entered : Bool) (d : Dev) : SensesKept d (interlockRefresh entered d) := by
  unfold interlockRefresh
  extract_lets old new a b
  have told : Told 1 a b := told_fltReportIf _ _ _ _ (Told.refl 1 a)
  have kept : SensesKept d b := (senses_dor _ d).trans told.senses
  clear_value b
  split
  · exact kept.trans (told_wrnInterlock (told_lnkPost _ _ _ (Told.refl 1 b))).senses
  · exact kept

theorem senses_doorComplete (i : Fin 4) (new : DoorRec) (cause : DoorCause) (d : Dev) :
    SensesKept d (doorComplete i new cause d) := by
  unfold doorComplete
  extract_lets old a b
  have told : Told 1 a b := told_fltReportIf _ _ _ _ (Told.refl 1 a)
  have kept : SensesKept d b := (senses_dor _ d).trans told.senses
  clear_value b
  split
  · exact kept.trans (told_wrnDoor _ (told_lnkPost _ _ _ (Told.refl 1 b))).senses
  · exact kept

theorem senses_doorEvent (interlock : Bool) (f : Fin 4 → DoorCfg → DoorRec → DoorRec × DoorCause) (d : Dev) :
    SensesKept d (doorEvent interlock f d) := by
  unfold doorEvent
  extract_lets d'
  have kept : SensesKept d d' := senses_forEach (fun i e => by
    dsimp only
    split_ifs
    · exact .refl e
    · exact senses_doorComplete ..
    · exact .refl e) d
  split
  · exact kept.trans (senses_interlockRefresh ..)
  · exact kept

theorem senses_dorChannel (ch : Nat) (flipOn : Bool) (d : Dev) : SensesKept d (dorChannel ch flipOn d) := by
  unfold dorChannel
  split
  · extract_lets a
    split
    · exact (senses_dor _ d).trans (senses_doorEvent ..)
    · exact senses_dor _ d
  · split
    · exact senses_doorEvent ..
    · exact .refl d

theorem senses_modSet (m : Mode) (cause : ModeCause) (d : Dev) : SensesKept d (modSet m cause d) :=
  (senses_mod _ d).trans (told_lnkPost _ _ _ (Told.refl 1 _)).senses

theorem senses_sweepToRun (d : Dev) : SensesKept d (sweepToRun d) := by
  unfold sweepToRun
  extract_lets a m b
  have ha : SensesKept d a := senses_modSet _ _ d
  have hb : SensesKept d b := ha.trans (senses_mod _ a)
  clear_value b
  have told : Told 2 b (wrnEnterRun (gauEnterRun b)) := told_wrnEnterRun (told_gauEnterRun (Told.refl 2 b))
  exact (hb.trans told.senses).trans (senses_interlockRefresh ..)

theorem senses_modSweepCheck (d : Dev) : SensesKept d (modSweepCheck d) := by
  unfold modSweepCheck
  split
  · exact senses_sweepToRun d
  · exact .refl d

theorem senses_serviceToRun (cause : ModeCause) (d : Dev) : SensesKept d (serviceToRun cause d) := by
  unfold serviceToRun
  have ha : SensesKept d (modSet .run cause d) := senses_modSet _ _ d
  generalize modSet .run cause d = a at ha ⊢
  have told : Told 2 a (wrnLeaveService (gauEndOverrides a)) := told_wrnLeaveService (told_gauEndOverrides (Told.refl 2 a))
  exact (ha.trans told.senses).trans (senses_interlockRefresh ..)

theorem told_causeReport {n : Nat} {d₀ : Dev} (group : Nat) (was is held : Bool) (h : Told n d₀ d) :
    Told n d₀ (causeReport group was is held d) := by
  unfold causeReport
  split_ifs
  · exact told_fltReportIf _ _ _ _ h
  · exact told_fltReport _ _ _ h
  · exact h

theorem told_handSupply {n : Nat} {d₀ : Dev} (old : Supply) (h : Told (n + 2) d₀ d) :
    Told (n + 2) d₀ (handSupply old d) := by
  unfold handSupply
  split
  · exact told_wrnSupplyOff (told_gauSupplyOff h)
  · exact told_wrnSupplyOn (told_gauSupplyOn h)
  · exact told_wrnSupplyOn (told_gauSupplyOn h)
  · exact h

theorem senses_supplyApply (old : ModState) (d : Dev) : SensesKept d (supplyApply old d) := by
  unfold supplyApply
  extract_lets m a b c e f g
  split
  · exact .refl d
  have ha : SensesKept d a := senses_mod _ d
  clear_value a
  have hf : Told 2 a f := told_handSupply _ (told_postSystem (told_causeReport _ _ _ _
    (told_causeReport _ _ _ _ (told_causeReport _ _ _ _ (Told.refl 2 a)))))
  clear_value f
  have hg : Told 2 f g := by
    show Told 2 f (if f.mod.supply != old.supply then wrnSystem .driverShutdown f else f)
    split
    · exact told_wrnSystem _ (Told.refl 2 f)
    · exact Told.refl 2 f
  exact ((ha.trans hf.senses).trans hg.senses).trans (senses_modSweepCheck g)

theorem senses_judgeCauses (ch : Nat) (d : Dev) : SensesKept d (judgeCauses ch d) := by
  unfold judgeCauses
  extract_lets r
  split_ifs
  · exact .refl d
  · exact (senses_mod _ d).trans (senses_supplyApply ..)
  · exact (senses_mod _ d).trans (senses_supplyApply ..)
  · exact .refl d

theorem senses_forcedExit (ch : Nat) (d : Dev) : SensesKept d (forcedExit ch d) := by
  unfold forcedExit
  split_ifs
  · exact .refl d
  · exact .refl d
  · exact senses_serviceToRun ..
  · exact senses_serviceToRun ..
  · exact .refl d

/-- A channel update leaves the sensing side as it was. -/
theorem senses_chanUpdate (ch : Nat) (flipOn : Bool) (d : Dev) : SensesKept d (chanUpdate ch flipOn d) :=
  (told_wrnChannel ch flipOn (told_gauChannel ch (Told.refl 2 d))).senses.trans <|
    (senses_dorChannel ..).trans <| (senses_judgeCauses ..).trans (senses_forcedExit ..)

/-! ## The converter (R8, R9, R11) -/

theorem settleEnd_settling {c : Conversion} {t : Nat} (h : d.seq.converter = .settling c t) :
    settleEnd d = setConverter (.converting c (max d.clock t + 10)) (d.advanceTo t) := by
  unfold settleEnd
  rw [h]
  rfl

theorem settleEnd_other (h : ∀ c t, d.seq.converter ≠ .settling c t) : settleEnd d = d := by
  unfold settleEnd
  cases hc : d.seq.converter with
  | settling c t => exact absurd hc (h c t)
  | _ => rfl

theorem recoveryEnd_recovering {t : Nat} (h : d.seq.converter = .recovering t) :
    recoveryEnd d = seqGrant (d.advanceTo t) := by
  unfold recoveryEnd
  rw [h]

theorem recoveryEnd_other (h : ∀ t, d.seq.converter ≠ .recovering t) : recoveryEnd d = d := by
  unfold recoveryEnd
  cases hc : d.seq.converter with
  | recovering t => exact absurd hc (h t)
  | _ => rfl

theorem conversionEnd_converting {c : Conversion} {t : Nat} (sample peak : Int)
    (h : d.seq.converter = .converting c t) :
    conversionEnd sample peak d = seqComplete c sample peak (d.advanceTo t) := by
  unfold conversionEnd
  rw [h]

@[simp] theorem seqGrant_clock (d : Dev) : (seqGrant d).clock = d.clock := by rw [seqGrant_eq]
@[simp] theorem seqGrant_sig (d : Dev) : (seqGrant d).sig = d.sig := by rw [seqGrant_eq]
@[simp] theorem seqGrant_pls (d : Dev) : (seqGrant d).pls = d.pls := by rw [seqGrant_eq]
@[simp] theorem seqGrant_gau (d : Dev) : (seqGrant d).gau = d.gau := by rw [seqGrant_eq]
@[simp] theorem seqGrant_wrn (d : Dev) : (seqGrant d).wrn = d.wrn := by rw [seqGrant_eq]
@[simp] theorem seqGrant_dor (d : Dev) : (seqGrant d).dor = d.dor := by rw [seqGrant_eq]
@[simp] theorem seqGrant_flt (d : Dev) : (seqGrant d).flt = d.flt := by rw [seqGrant_eq]
@[simp] theorem seqGrant_sto (d : Dev) : (seqGrant d).sto = d.sto := by rw [seqGrant_eq]
@[simp] theorem seqGrant_cal (d : Dev) : (seqGrant d).cal = d.cal := by rw [seqGrant_eq]
@[simp] theorem seqGrant_mod (d : Dev) : (seqGrant d).mod = d.mod := by rw [seqGrant_eq]
@[simp] theorem seqGrant_lnk (d : Dev) : (seqGrant d).lnk = d.lnk := by rw [seqGrant_eq]
@[simp] theorem seqGrant_onDemand (d : Dev) : (seqGrant d).seq.onDemand = d.seq.onDemand := by rw [seqGrant_eq]
@[simp] theorem seqGrant_adcFault (d : Dev) : (seqGrant d).seq.adcFault = d.seq.adcFault := by rw [seqGrant_eq]
@[simp] theorem seqGrant_goodRefs (d : Dev) : (seqGrant d).seq.goodRefs = d.seq.goodRefs := by rw [seqGrant_eq]

@[simp] theorem seqGrant_scan (d : Dev) (k : ScanClass) : (seqGrant d).scan k = d.scan k := by
  rw [seqGrant_eq]
  cases k <;> rfl

/-- The converter a grant leaves, by what is pending (R8, R9). -/
theorem seqGrant_converter (d : Dev) :
    (seqGrant d).seq.converter =
      match d.seq.fast.position, d.seq.medium.position, d.seq.slow.position,
          d.seq.onDemand.find? (·.result.isNone) with
      | some ch, _, _, _ =>
        .settling ⟨ch, .scan .fast, d.chanBias ch, d.chanRange ch⟩ (d.clock + d.settleTime ch)
      | none, some ch, _, _ =>
        .settling ⟨ch, .scan .medium, d.chanBias ch, d.chanRange ch⟩ (d.clock + d.settleTime ch)
      | none, none, some ch, _ =>
        .settling ⟨ch, .scan .slow, d.chanBias ch, d.chanRange ch⟩ (d.clock + d.settleTime ch)
      | none, none, none, some q => .settling ⟨q.channel, .onDemand, d.chanBias q.channel, d.chanRange q.channel⟩
          (d.clock + d.settleTime q.channel)
      | none, none, none, none => .idle := by
  have scans (k : ScanClass) : scanNext d k = (d.scan k).position.map fun ch => (ch, .scan k) := rfl
  unfold seqGrant nextConversion
  rw [scans, scans, scans]
  simp only [Dev.scan, nextOnDemand]
  cases d.seq.fast.position with
  | some ch => rfl
  | none =>
    cases d.seq.medium.position with
    | some ch => rfl
    | none =>
      cases d.seq.slow.position with
      | some ch => rfl
      | none => cases d.seq.onDemand.find? (·.result.isNone) <;> rfl

/-- Settles O13: by the converter's state, and for the grant by what is pending. -/
theorem converterSettlesAndGrants : Obligations.ConverterSettlesAndGrants := by
  intro s
  refine ⟨fun c t h => .of_event (f := settleEnd) rfl (settleEnd_settling h),
    fun h => .of_event (f := settleEnd) rfl (settleEnd_other h),
    fun h => .of_event (f := recoveryEnd) rfl (recoveryEnd_other h), fun t h => ?_⟩
  intro now settle
  refine .of_event (f := recoveryEnd) rfl ?_
  rw [recoveryEnd_recovering h, seqGrant_eq, seqGrant_converter]
  rfl

/-! ## On-demand results (R14) -/

/-- The only entry of the list filled: its request is answered and the list is empty. -/
theorem deliverOnDemand_only {q : DemandEntry} (r : Nat × Bool) (hq : d.seq.onDemand = [q]) (hr : q.result = none) :
    deliverOnDemand r d = lnkAnswer q.tag
      (okReply [flagByte d.seq.adcFault, 1#8, byte q.channel, byte (r.1 / 256), byte r.1, flagByte r.2])
      { d with seq := { d.seq with onDemand := [] } } := by
  have hfill : fillEntry r d.seq.onDemand = ([{ q with result := some r }], some { q with result := some r }) := by
    simp [hq, fillEntry, hr]
  unfold deliverOnDemand
  rw [hfill]
  simp [sampleReply, be16]
  rfl

theorem lnkAnswer_only {r : Request} {tag : Byte} (p : List Byte) (h : d.lnk.requests = [r]) (ht : r.tag = tag) :
    lnkAnswer tag p d = { d with lnk := { d.lnk with
      requests := [{ r with deferred := false }]
      replies := d.lnk.replies ++ [⟨replyKind r.kind, tag, p, false⟩] } } := by
  subst ht
  simp [lnkAnswer, findRequest, h]

/-- Settles O14: the entry is filled, its request answered, and the converter granted again. -/
theorem onDemandResultIsAnswered : Obligations.OnDemandResultIsAnswered := by
  intro s c t sample peak q r hconv hsrc hch hlist hres hreq htag hkind
  have hdone : conversionEnd sample peak s.dev =
      seqGrant (deliverOnDemand (pinCode c.range sample, overVoltage c.range sample peak)
        (setConverter .idle (s.dev.advanceTo t))) := by
    rw [conversionEnd_converting _ _ hconv]
    simp only [seqComplete, hsrc, conversionResult, if_pos hch]
  have hreply : replyKind r.kind = 0x85#8 := by rw [hkind]; rfl
  rw [deliverOnDemand_only (d := setConverter .idle (s.dev.advanceTo t)) _ hlist hres,
    lnkAnswer_only (r := r) _ (by exact hreq) htag, hreply] at hdone
  refine ⟨_, .of_event (f := conversionEnd sample peak) rfl hdone, ?_⟩
  simp only [seqGrant_onDemand, seqGrant_lnk, seqGrant_sig, seqGrant_clock, seqGrant_cal, seqGrant_mod]
  exact ⟨trivial, rfl, rfl, rfl, rfl, rfl⟩

/-! ## Edges (R42, R47) -/

theorem Mode.takesEdges_iff (m : Mode) :
    m.takesEdges = true ↔ m = .sweep ∨ m = .run ∨ m = .service ∨ m = .saving := by
  cases m <;> simp [Mode.takesEdges]

theorem edgeAccepted_iff (c : PulseCfg) (p : PulseState) (stamp : BitVec 32) :
    edgeAccepted c p stamp = true ↔ ∀ last, p.lastEdge = some last → c.minPeriod ≤ (stamp - last).toNat := by
  unfold edgeAccepted
  cases p.lastEdge with
  | none => simp
  | some last =>
    simp only [decide_eq_true_eq, Option.some.injEq, forall_eq']
    rfl

theorem stoGrant_odoJob (h : d.pls.odoJob ≠ .none) : (stoGrant d).pls.odoJob ≠ .none := by
  have counted (r : Requester) : (countGrant r d).pls = d.pls := by unfold countGrant; split <;> rfl
  have granted (r : Requester) : (grantTo r (countGrant r d)).pls.odoJob ≠ .none := by
    cases r with
    | odometer => simp [grantTo, startJob]
    | faultWriter | loader | hostRead | imageStore =>
      simp only [grantTo]
      split <;> simpa [startJob, counted] using h
  unfold stoGrant
  split
  · exact h
  · split
    · exact granted _
    · exact h

theorem plsAskWrite_odoJob (hr : d.pls.ringTaken = true) (hs : d.sto.storage ≠ .absent) :
    (plsAskWrite d).pls.odoJob ≠ .none := by
  unfold plsAskWrite
  rw [if_neg (by simp [hr, hs])]
  cases hj : d.pls.odoJob with
  | none => exact stoGrant_odoJob (by simp)
  | queued => simp [hj]
  | inFlight => simp [hj]

/-- Settles O19: an edge is taken where the mode and the interval let it be; the road's advances the distance. -/
theorem pulseEdgeIsCaptured : Obligations.PulseEdgeIsCaptured := by
  intro s i stamp now p taken captured
  have htaken : plsEdge i stamp (s.dev.advanceCounter stamp) =
      if taken then acceptEdge i stamp (s.dev.advanceCounter stamp) else s.dev.advanceCounter stamp := by
    have htests : (s.dev.mod.mode.takesEdges && edgeAccepted (s.dev.pulseCfg i) p stamp) = true ↔ taken := by
      rw [Bool.and_eq_true, Mode.takesEdges_iff, edgeAccepted_iff]
    simp only [← htests]
    rfl
  have hruns {e : Dev} (he : plsEdge i stamp (s.dev.advanceCounter stamp) = e) : Runs (.pulseEdge i stamp) s e :=
    .of_event (f := fun d => plsEdge i stamp (d.advanceCounter stamp)) rfl he
  refine ⟨fun h => hruns (htaken.trans (if_neg h)), fun h hi => ?_, fun h hi => ?_⟩
  · subst hi
    exact hruns (htaken.trans (if_pos h))
  · subst hi
    intro ppk distance moved
    have haccept : acceptEdge .road stamp (s.dev.advanceCounter stamp) =
        if s.dev.pls.distance / 100 < distance / 100 then plsAskWrite { s.dev with clock := now, pls := moved }
        else { s.dev with clock := now, pls := moved } := by
      unfold acceptEdge advanceDistance
      simp only [decide_eq_true_eq]
      rfl
    refine ⟨_, hruns (htaken.trans ((if_pos h).trans haccept)), ?_, fun hle => ?_, fun hlt hring hsto => ?_⟩
    · split_ifs
      · exact told_plsAskWrite (Told.refl 0 _)
      · exact Told.refl 0 _
    · exact if_neg (Nat.not_lt.mpr hle)
    · rw [if_pos hlt]
      exact plsAskWrite_odoJob hring hsto

/-! ## The 10 ms update (R43-R46) -/

/-- What an update makes of standstill (R46). -/
def standstillAfter (i : PulseInput) (told : Option Bool) (old : Bool) : Bool :=
  match i, told with
  | .road, some b => b
  | .road, none | .engine, _ => old

/-- The part with standstill written. -/
def withStandstill (b : Bool) (d : Dev) : Dev := { d with pls := { d.pls with standstill := b } }

theorem SensesKept.standstill (h : SensesKept d e) (b : Bool) :
    SensesKept (withStandstill b d) (withStandstill b e) :=
  ⟨h.clock, h.seq, h.sig, h.cal, by simp only [withStandstill]; rw [h.pls]⟩

theorem senses_setStandstill (b : Bool) (d : Dev) : SensesKept (withStandstill b d) (setStandstill b d) := by
  unfold setStandstill
  split
  next h => subst h; exact .refl d
  next => exact (told_postSystem (Told.refl 0 (withStandstill b d))).senses

theorem told_qualityIf {n : Nat} {d₀ : Dev} (ch : Nat) (old : Quality) (h : Told n d₀ d) :
    Told n d₀ (qualityIf ch old d) := by
  unfold qualityIf
  split
  · exact told_lnkPost _ _ _ h
  · exact h

/-- The part with an input's capture state and record as an update leaves them. -/
def pulseUpdated (i : PulseInput) (p : PulseState) (d : Dev) : Dev :=
  (d.setPulse i { p with timer := d.timerIn (ms 10) }).setChan (pulseChannel i)
    (publishSpeed (d.pulseCfg i).k p.raw (d.chan (pulseChannel i)))

/-- What the update of an input leaves: its capture state, its record, standstill, and all else of the sensing side as
it was. -/
theorem plsUpdate_senses (i : PulseInput) (d : Dev) :
    let t := pulseStep i (d.pulseCfg i) d.counter (d.pulse i)
    SensesKept (withStandstill (standstillAfter i t.2 d.pls.standstill) (pulseUpdated i t.1 d)) (plsUpdate i d) := by
  intro t
  let published := qualityIf (pulseChannel i) (d.chan (pulseChannel i)).quality (pulseUpdated i t.1 d)
  have step : plsUpdate i d = chanUpdate (pulseChannel i) false (match i, t.2 with
      | .road, some b => setStandstill b published
      | .road, none | .engine, _ => published) := by
    cases i <;> rfl
  have told : SensesKept (pulseUpdated i t.1 d) published := (told_qualityIf _ _ (Told.refl 0 _)).senses
  have same : withStandstill d.pls.standstill (pulseUpdated i t.1 d) = pulseUpdated i t.1 d := by
    cases i <;> rfl
  rw [step]
  refine SensesKept.trans ?_ (senses_chanUpdate ..)
  cases i with
  | engine => exact same.symm ▸ told
  | road =>
    cases ht : t.2 with
    | none => exact same.symm ▸ told
    | some b => exact (told.standstill b).trans (senses_setStandstill b _)

theorem SensesKept.pulse (h : SensesKept d e) (i : PulseInput) : e.pulse i = d.pulse i := by
  unfold Dev.pulse
  rw [h.pls]

theorem SensesKept.standstill_eq (h : SensesKept d e) : e.pls.standstill = d.pls.standstill := by rw [h.pls]

theorem SensesKept.distance_eq (h : SensesKept d e) : e.pls.distance = d.pls.distance := by rw [h.pls]

theorem pulseChannel_lt (i : PulseInput) : pulseChannel i < 46 := by cases i <;> decide

theorem pulseUpdated_pulse (i j : PulseInput) (p : PulseState) (d : Dev) :
    (pulseUpdated i p d).pulse j = if i = j then { p with timer := d.timerIn (ms 10) } else d.pulse j := by
  rw [← setPulse_pulse]
  unfold pulseUpdated Dev.pulse
  rw [setChan_pls]

theorem pulseUpdated_chan (i : PulseInput) (p : PulseState) (d : Dev) (c : Nat) :
    (pulseUpdated i p d).chan c = if pulseChannel i = c then
      publishSpeed (d.pulseCfg i).k p.raw (d.chan (pulseChannel i)) else d.chan c := by
  rw [pulseUpdated, setChan_chan _ _ _ _ (pulseChannel_lt i)]
  congr 1
  cases i <;> rfl

theorem pulseUpdated_distance (i : PulseInput) (p : PulseState) (d : Dev) :
    (pulseUpdated i p d).pls.distance = d.pls.distance := by
  rw [pulseUpdated, setChan_pls]
  cases i <;> rfl

theorem pulseUpdated_seq (i : PulseInput) (p : PulseState) (d : Dev) : (pulseUpdated i p d).seq = d.seq := by
  simp [pulseUpdated]

theorem pulseUpdated_cal (i : PulseInput) (p : PulseState) (d : Dev) : (pulseUpdated i p d).cal = d.cal := by
  simp [pulseUpdated]

/-- An update's outcome, part by part: what each of the statements about PULSE_UPDATE reads off. -/
theorem plsUpdate_outcome (i : PulseInput) (d : Dev) :
    let t := pulseStep i (d.pulseCfg i) d.counter (d.pulse i)
    let e := plsUpdate i d
    (∀ j, e.pulse j = if i = j then { t.1 with timer := d.timerIn (ms 10) } else d.pulse j) ∧
    (∀ c, e.chan c = if pulseChannel i = c then publishSpeed (d.pulseCfg i).k t.1.raw (d.chan (pulseChannel i))
      else d.chan c) ∧
    e.pls.standstill = standstillAfter i t.2 d.pls.standstill ∧ e.pls.distance = d.pls.distance ∧
    e.seq = d.seq ∧ e.cal = d.cal := by
  intro t e
  have kept : SensesKept _ e := plsUpdate_senses i d
  exact ⟨fun j => (kept.pulse j).trans (pulseUpdated_pulse ..), fun c => (kept.chan c).trans (pulseUpdated_chan ..),
    kept.standstill_eq, kept.distance_eq.trans (pulseUpdated_distance ..), kept.seq.trans (pulseUpdated_seq ..),
    kept.cal.trans (pulseUpdated_cal ..)⟩

/-- An update with edges in the window and a reference from an earlier one (R43). -/
theorem pulseStep_window {i : PulseInput} {c : PulseCfg} {now : BitVec 32} {p : PulseState} {ref last : BitVec 32}
    (hn : p.count ≠ 0) (hr : p.tRef = some ref) (hl : p.tLast = some last) :
    pulseStep i c now p =
      let raw := speedOf i c.perUnit (roundDivNat (interval ref last) p.count)
      ({ p with raw := raw, tRef := some last, count := 0 }, if 0 < raw then some false else none) := by
  unfold pulseStep
  rw [if_neg hn, hr, hl]

/-- An update in silence: standstill is reached, or the speed is lowered (R44, R46). -/
theorem pulseStep_silence {i : PulseInput} {c : PulseCfg} {now : BitVec 32} {p : PulseState} {last : BitVec 32}
    (hn : p.count = 0) (hl : p.lastEdge = some last) :
    pulseStep i c now p = if c.standstill ≤ interval last now then
      ({ p with raw := 0, tRef := none, lastEdge := none }, some true)
      else ({ p with raw := min p.raw (speedOf i c.perUnit (interval last now)) }, none) := by
  unfold pulseStep
  rw [if_pos hn, hl]

/-- Settles O20: the update's outcome with edges in the window. -/
theorem pulseUpdateComputesSpeed : Obligations.PulseUpdateComputesSpeed := by
  intro s i t ref last ht hn hr hl p g period raw ch r acc
  have hruns : Runs (.pulseUpdate i) s (plsUpdate i (s.dev.advanceTo t)) :=
    .of_event (f := onExpiry (s.dev.pulse i).timer (plsUpdate i)) rfl (by rw [ht]; rfl)
  obtain ⟨hpulse, hchan, hstand, hdist, hseq, hcal⟩ := plsUpdate_outcome i (s.dev.advanceTo t)
  have hstep : pulseStep i ((s.dev.advanceTo t).pulseCfg i) (s.dev.advanceTo t).counter ((s.dev.advanceTo t).pulse i) =
      ({ p with raw := raw, tRef := some last, count := 0 }, if 0 < raw then some false else none) := by
    have : speedOf i g.perUnit (roundDivNat (interval ref last) p.count) = raw := by cases i <;> rfl
    rw [← this]
    exact pulseStep_window hn hr hl
  have hch : pulseChannel i = ch := by cases i <;> rfl
  rw [hstep] at hpulse hchan hstand
  refine ⟨_, hruns, ?_, fun j hj => ?_, fun c => ?_, fun hi hraw => ?_, hdist, hseq, hcal⟩
  · rw [hpulse, if_pos rfl]
    rfl
  · rw [hpulse, if_neg hj.symm]
    rfl
  · rw [hchan, hch]
    by_cases hc : c = ch
    · rw [if_pos hc.symm, if_pos hc]
      rfl
    · rw [if_neg (Ne.symm hc), if_neg hc]
      rfl
  · rw [hstand, if_pos hraw, hi]
    rfl

/-- Settles O21: the update's outcome in silence. -/
theorem pulseSilenceReachesStandstill : Obligations.PulseSilenceReachesStandstill := by
  intro s t last ht hn hl p g now silence
  have hruns : Runs (.pulseUpdate .road) s (plsUpdate .road (s.dev.advanceTo t)) :=
    .of_event (f := onExpiry (s.dev.pulse .road).timer (plsUpdate .road)) rfl (by rw [Dev.pulse, ht]; rfl)
  obtain ⟨hpulse, hchan, hstand, hdist, hseq, hcal⟩ := plsUpdate_outcome .road (s.dev.advanceTo t)
  have hstep : pulseStep .road ((s.dev.advanceTo t).pulseCfg .road) (s.dev.advanceTo t).counter
      ((s.dev.advanceTo t).pulse .road) = if g.standstill ≤ silence then
        ({ p with raw := 0, tRef := none, lastEdge := none }, some true)
      else ({ p with raw := min p.raw (speedOf .road g.perUnit silence) }, none) := pulseStep_silence hn hl
  rw [hstep] at hpulse hstand
  refine ⟨_, hruns, fun c hc => ?_, hpulse .engine, hdist, hseq, hcal, fun hs => ?_, fun hs => ?_⟩
  · exact (hchan c).trans (if_neg (Ne.symm hc))
  · rw [if_pos hs] at hpulse hstand
    exact ⟨hpulse .road, hstand⟩
  · rw [if_neg (Nat.not_le.mpr hs)] at hpulse hstand
    exact ⟨hpulse .road, hstand⟩

end Sys2Proof.Machine
end

section
/-! SUPPORT. The records of the gauges; with them the statements `Obligations.GaugeUpdatePursuesTargets` (O22),
`Obligations.GaugeSweepRisesHoldsFalls` (O23), `Obligations.CoilCurrentShutsGaugeDown` (O24) and
`Obligations.RestartExpiryRestartsOrLocks` (O25). -/

namespace Sys2Proof.Machine
variable {d e : Dev} {g k : Fin 6} {r : GaugeRec}

/-! ## The configuration of a gauge -/

theorem ramPoints_of_cal (h : e.cal = d.cal) (x y : Bool) (n a : Nat) :
    e.ramPoints x y a n = d.ramPoints x y a n := by
  induction n generalizing a with
  | zero => rfl
  | succ n ih =>
    unfold Dev.ramPoints
    rw [ih]
    simp only [Dev.ramInt16, Dev.ram16, Dev.ram8, h]

/-- The configuration of a gauge is read from calibration RAM. -/
theorem gaugeCfg_of_cal (h : e.cal = d.cal) (g : Fin 6) : e.gaugeCfg g = d.gaugeCfg g := by
  simp only [Dev.gaugeCfg, Dev.ramFlag, Dev.ram16, Dev.ram8, ramPoints_of_cal h, h]

/-! ## Writing a gauge's record -/

/-- A gauge's record as it is written: with its bridges off where it is not driven. -/
def GaugeRec.written (r : GaugeRec) : GaugeRec :=
  if r.state.driven then r else { r with pwm := none, sinEnded := false, cosEnded := false }

theorem GaugeRec.written_driven (h : r.state.driven = true) : r.written = r := if_pos h

@[simp] theorem GaugeRec.written_state (r : GaugeRec) : r.written.state = r.state := by
  unfold GaugeRec.written
  split <;> rfl

@[simp] theorem GaugeRec.written_held (r : GaugeRec) : r.written.held = r.held := by
  unfold GaugeRec.written
  split <;> rfl

theorem setGauge_gauge_written (d : Dev) (g k : Fin 6) (r : GaugeRec) :
    (d.setGauge g r).gauge k = if g = k then r.written else d.gauge k :=
  setGauge_gauge d g k r

theorem setGauge_driven (h : r.state.driven = true) :
    d.setGauge g r = { d with gau := { d.gau with gauges := d.gau.gauges.set g r } } := by
  simp [Dev.setGauge, h]

theorem setGauge_gauge_driven (hr : r.state.driven = true) (k : Fin 6) :
    (d.setGauge g r).gauge k = if k = g then r else d.gauge k := by
  rw [setGauge_gauge_written, GaugeRec.written_driven hr]
  exact if_congr eq_comm rfl rfl

/-- Telling a gauge's change leaves every gauge as it is. -/
theorem told_gaugeTell_one (g : Fin 6) (old : GaugeRec) (d : Dev) : Told 1 d (gaugeTell g old d) := by
  unfold gaugeTell
  extract_lets new a
  have ha : Told 1 d a := by
    show Told 1 d (if new.state != old.state then postGauge g d else d)
    split
    · exact told_lnkPost _ _ _ (Told.refl 1 d)
    · exact Told.refl 1 d
  split
  · exact told_wrnGauge _ ha
  · exact ha

theorem gaugeTell_gau (g : Fin 6) (old : GaugeRec) (d : Dev) : (gaugeTell g old d).gau = d.gau :=
  (told_gaugeTell_one g old d).gau (le_refl 1)

theorem gaugeTell_gauge (g k : Fin 6) (old : GaugeRec) (d : Dev) : (gaugeTell g old d).gauge k = d.gauge k := by
  unfold Dev.gauge
  rw [gaugeTell_gau]

/-- A change that keeps the state and the fault held is told nobody. -/
theorem gaugeTell_same {old : GaugeRec} (hs : (d.gauge g).state = old.state) (hh : (d.gauge g).held = old.held) :
    gaugeTell g old d = d := by
  simp [gaugeTell, hs, hh]

theorem gaugeChange_gauge (g k : Fin 6) (f : GaugeRec → GaugeRec) (d : Dev) :
    (gaugeChange g f d).gauge k = if g = k then (f (d.gauge g)).written else d.gauge k := by
  rw [gaugeChange, gaugeTell_gauge, setGauge_gauge_written]

theorem gaugeChange_timer (g : Fin 6) (f : GaugeRec → GaugeRec) (d : Dev) :
    (gaugeChange g f d).gau.timer = d.gau.timer := by
  rw [gaugeChange, gaugeTell_gau]
  rfl

theorem gaugeChange_same {f : GaugeRec → GaugeRec} (hs : (f (d.gauge g)).state = (d.gauge g).state)
    (hh : (f (d.gauge g)).held = (d.gauge g).held) : gaugeChange g f d = d.setGauge g (f (d.gauge g)) := by
  refine gaugeTell_same ?_ ?_
  · rw [setGauge_gauge_written, if_pos rfl, GaugeRec.written_state, hs]
  · rw [setGauge_gauge_written, if_pos rfl, GaugeRec.written_held, hh]

/-! ## The gauge update (R56, R59, R67) -/

theorem sweepMove_same (clock : Nat) (c : GaugeCfg) (r : GaugeRec) :
    (sweepMove clock c r).state = r.state ∧ (sweepMove clock c r).held = r.held := by
  unfold sweepMove
  split
  next => dsimp only; split_ifs <;> exact ⟨rfl, rfl⟩
  next => dsimp only; split_ifs <;> exact ⟨rfl, rfl⟩
  all_goals exact ⟨rfl, rfl⟩

/-- In pursuit, outside SAVING (R59). -/
theorem gaugeMove_pursuit (c : GaugeCfg) (hs : r.state = .tracking ∨ r.state = .invalid ∨ r.state = .override)
    (h : d.mod.mode ≠ .saving) : gaugeMove d c r = r.at (pursue c r) := by
  rcases hs with hs | hs | hs <;> simp [gaugeMove, hs, h]

theorem gaugeMove_sweep (c : GaugeCfg) (hs : r.state = .sweep) : gaugeMove d c r = sweepMove d.clock c r := by
  simp [gaugeMove, hs]

/-- Outside SAVING an update moves a driven gauge and changes neither its state nor its fault. -/
theorem gaugeMove_same (c : GaugeCfg) (hr : r.state.driven = true) (h : d.mod.mode ≠ .saving) :
    (gaugeMove d c r).state = r.state ∧ (gaugeMove d c r).held = r.held := by
  cases hs : r.state with
  | sweep => rw [gaugeMove_sweep c hs, ← hs]; exact sweepMove_same ..
  | tracking | invalid | override => rw [gaugeMove_pursuit c (by simp [hs]) h, ← hs]; exact ⟨rfl, rfl⟩
  | off | shutdown | lockedOff | supplyOff => simp [hs, GaugeState.driven] at hr

/-- The part with the gauge update timer restarted (R56). -/
def gaugeTimed (d : Dev) : Dev := { d with gau := { d.gau with timer := d.timerIn (ms 10) } }

/-- From `d` to `e` gauge records change and nothing else. -/
def GaugesOnly (d e : Dev) : Prop := e = { d with gau := e.gau } ∧ e.gau.timer = d.gau.timer

theorem GaugesOnly.refl (d : Dev) : GaugesOnly d d := ⟨rfl, rfl⟩

theorem GaugesOnly.setGauge (h : GaugesOnly d e) (g : Fin 6) (r : GaugeRec) : GaugesOnly d (e.setGauge g r) := by
  obtain ⟨he, ht⟩ := h
  refine ⟨?_, ht⟩
  rw [he]
  rfl

theorem GaugesOnly.gaugeMove (h : GaugesOnly d e) (c : GaugeCfg) (r : GaugeRec) :
    gaugeMove e c r = gaugeMove d c r := by
  obtain ⟨he, -⟩ := h
  rw [he]
  rfl

/-- One gauge's part of the update. -/
def gaugeTurn (g : Fin 6) (d : Dev) : Dev :=
  if (d.gauge g).state.driven then gaugeChange g (gaugeMove d (d.gaugeCfg g)) d else d

theorem gauUpdate_eq (d : Dev) : gauUpdate d = forEach 6 gaugeTurn (gaugeTimed d) := rfl

theorem gaugeTurn_eq (h : d.mod.mode ≠ .saving) : gaugeTurn g d = if (d.gauge g).state.driven then
    d.setGauge g (gaugeMove d (d.gaugeCfg g) (d.gauge g)) else d := by
  unfold gaugeTurn
  split
  next hr =>
    obtain ⟨hs, hh⟩ := gaugeMove_same (d.gaugeCfg g) hr h
    exact gaugeChange_same hs hh
  next => rfl

theorem gaugeTurn_only (h : GaugesOnly d e) (hm : d.mod.mode ≠ .saving) : GaugesOnly d (gaugeTurn g e) := by
  have : e.mod.mode ≠ .saving := by rw [h.1]; exact hm
  rw [gaugeTurn_eq this]
  split
  · exact h.setGauge ..
  · exact h

theorem gaugeTurn_gauge_ne (h : d.mod.mode ≠ .saving) (hk : g ≠ k) : (gaugeTurn g d).gauge k = d.gauge k := by
  rw [gaugeTurn_eq h]
  split
  · rw [setGauge_gauge_written, if_neg hk]
  · rfl

theorem gaugeTurn_gauge_self (h : d.mod.mode ≠ .saving) : (gaugeTurn g d).gauge g =
    if (d.gauge g).state.driven then gaugeMove d (d.gaugeCfg g) (d.gauge g) else d.gauge g := by
  rw [gaugeTurn_eq h]
  split
  next hr =>
    rw [setGauge_gauge_written, if_pos rfl, GaugeRec.written_driven]
    rw [(gaugeMove_same _ hr h).1, hr]
  next => rfl

/-- The gauge update outside SAVING: each driven gauge moves, the timer restarts, and nothing else changes. -/
theorem gauUpdate_moves (h : d.mod.mode ≠ .saving) :
    GaugesOnly (gaugeTimed d) (gauUpdate d) ∧ ∀ g, (gauUpdate d).gauge g =
      if (d.gauge g).state.driven then gaugeMove d (d.gaugeCfg g) (d.gauge g) else d.gauge g := by
  have mode {e : Dev} (he : GaugesOnly (gaugeTimed d) e) : e.mod.mode ≠ .saving := by rw [he.1]; exact h
  rw [gauUpdate_eq]
  refine ⟨forEach_keeps (P := GaugesOnly (gaugeTimed d)) (fun g e he => gaugeTurn_only he h) (.refl _), fun g => ?_⟩
  refine (forEach_at (before := fun e => GaugesOnly (gaugeTimed d) e ∧ e.gauge g = d.gauge g)
    (after := fun e => GaugesOnly (gaugeTimed d) e ∧ e.gauge g =
      if (d.gauge g).state.driven then gaugeMove d (d.gaugeCfg g) (d.gauge g) else d.gauge g) g
    (fun j hj e ⟨ho, he⟩ => ⟨gaugeTurn_only ho h, (gaugeTurn_gauge_ne (mode ho) hj).trans he⟩)
    (fun e ⟨ho, he⟩ => ⟨gaugeTurn_only ho h, ?_⟩)
    (fun j hj e ⟨ho, he⟩ => ⟨gaugeTurn_only ho h, (gaugeTurn_gauge_ne (mode ho) hj).trans he⟩)
    ⟨.refl _, rfl⟩).2
  rw [gaugeTurn_gauge_self (mode ho), he, gaugeCfg_of_cal (d := d) (by rw [ho.1]; rfl), ho.gaugeMove]
  rfl

/-- MOD's look at the sweep does nothing outside SWEEP, or while the bulb-check timer has not expired (R174). -/
theorem modSweepCheck_none (h : d.mod.mode ≠ .sweep ∨ d.mod.bulb ≠ .expired) : modSweepCheck d = d := by
  refine if_neg ?_
  rcases h with h | h <;> simp [h]

theorem approach_eq (p target step : Int) :
    approach p target step = if p ≤ target then min target (p + step) else max target (p - step) := by
  unfold approach
  split_ifs <;> omega

/-- Settles O22: outside SAVING the update moves each driven gauge, in RUN and SERVICE by pursuit. -/
theorem gaugeUpdatePursuesTargets : Obligations.GaugeUpdatePursuesTargets := by
  intro s t ht hm
  have notSweep : s.dev.mod.mode ≠ .sweep := by rcases hm with hm | hm <;> simp [hm]
  have notSaving : s.dev.mod.mode ≠ .saving := by rcases hm with hm | hm <;> simp [hm]
  obtain ⟨⟨honly, htimer⟩, hgauge⟩ := gauUpdate_moves (d := s.dev.advanceTo t) notSaving
  have hrun : onExpiry s.dev.gau.timer gaugeTick s.dev = gauUpdate (s.dev.advanceTo t) := by
    rw [ht, onExpiry_some, gaugeTick]
    exact modSweepCheck_none (.inl (by rw [honly]; exact notSweep))
  refine ⟨_, .of_event rfl hrun, honly, htimer, fun g => ?_⟩
  intro r c p
  refine ⟨fun hs => ?_, fun hs => ?_⟩
  · have driven : r.state.driven = true := by rcases hs with hs | hs | hs <;> simp [hs, GaugeState.driven]
    have hp : pursue c r = p := by
      unfold pursue
      rw [approach_eq]
    refine (hgauge g).trans ((if_pos driven).trans ?_)
    rw [← hp]
    exact gaugeMove_pursuit c hs notSaving
  · have still : ¬r.state.driven = true := by rcases hs with hs | hs | hs | hs <;> simp [hs, GaugeState.driven]
    exact (hgauge g).trans (if_neg still)

/-- Settles O23: the update of a gauge in SWEEP is `sweepMove`, and the hold timer's expiry writes its phase. -/
theorem gaugeSweepRisesHoldsFalls : Obligations.GaugeSweepRisesHoldsFalls := by
  intro s g t hs r c now step up down moved
  have driven : r.state.driven = true := by simp [r, hs, GaugeState.driven]
  refine ⟨fun b ht hm hb => ?_, fun ht => ?_⟩
  · have notSaving : s.dev.mod.mode ≠ .saving := by simp [hm]
    obtain ⟨⟨honly, -⟩, hgauge⟩ := gauUpdate_moves (d := s.dev.advanceTo t) notSaving
    have hrun : onExpiry s.dev.gau.timer gaugeTick s.dev = gauUpdate (s.dev.advanceTo t) := by
      rw [ht, onExpiry_some, gaugeTick]
      refine modSweepCheck_none (.inr ?_)
      rw [honly]
      exact hb ▸ nofun
    refine ⟨_, .of_event rfl hrun, (hgauge g).trans ((if_pos driven).trans ((gaugeMove_sweep c hs).trans ?_))⟩
    rfl
  · have hrun : onExpiry (s.dev.gauge g).holdTimer (gaugeHoldEnd g) s.dev = (s.dev.advanceTo t).setGauge g
        { r with phase := some .falling, holdTimer := none } := by
      rw [show (s.dev.gauge g).holdTimer = some t from ht]
      rfl
    refine ⟨_, .of_event rfl hrun, rfl, rfl, fun k => ?_⟩
    exact setGauge_gauge_driven (r := { r with phase := some .falling, holdTimer := none }) driven k

/-! ## A fault report and GAU -/

/-- The part with its GAU replaced. -/
def Dev.withGau (x : GauState) (d : Dev) : Dev := { d with gau := x }

theorem lnkPost_withGau (kind : NoticeKind) (subject : Nat) (content : List Byte) (x : GauState) (d : Dev) :
    lnkPost kind subject content (d.withGau x) = (lnkPost kind subject content d).withGau x := by
  unfold lnkPost
  simp only [apply_ite (Dev.withGau x)]
  rfl

theorem countGrant_withGau (q : Requester) (x : GauState) (d : Dev) :
    countGrant q (d.withGau x) = (countGrant q d).withGau x := by
  unfold countGrant
  rw [apply_ite (Dev.withGau x)]
  rfl

theorem grantTo_withGau (q : Requester) (x : GauState) (d : Dev) :
    grantTo q (d.withGau x) = (grantTo q d).withGau x := by
  cases q with
  | faultWriter =>
    unfold grantTo
    rw [show (d.withGau x).flt = d.flt from rfl]
    cases d.flt.queue <;> rfl
  | odometer => rfl
  | loader =>
    unfold grantTo
    rw [show (d.withGau x).sto = d.sto from rfl]
    cases d.sto.loader.queued <;> rfl
  | hostRead =>
    unfold grantTo
    rw [show (d.withGau x).sto = d.sto from rfl]
    cases d.sto.hostReads <;> rfl
  | imageStore =>
    unfold grantTo
    rw [show (d.withGau x).sto = d.sto from rfl]
    cases d.sto.storePage <;> rfl

theorem stoGrant_withGau (x : GauState) (d : Dev) : stoGrant (d.withGau x) = (stoGrant d).withGau x := by
  unfold stoGrant
  rw [apply_ite (Dev.withGau x), show arbitrate (d.withGau x) = arbitrate d from rfl]
  cases arbitrate d with
  | none => rfl
  | some q =>
    dsimp only
    rw [countGrant_withGau, grantTo_withGau]
    rfl

theorem fltDirty_withGau (i : Fin 40) (renewed : Bool) (x : GauState) (d : Dev) :
    fltDirty i renewed (d.withGau x) = (fltDirty i renewed d).withGau x := by
  have enqueue (d : Dev) : fltDirty.enqueue i (d.withGau x) = (fltDirty.enqueue i d).withGau x := by
    unfold fltDirty.enqueue
    rw [apply_ite (Dev.withGau x), ← stoGrant_withGau]
    rfl
  unfold fltDirty
  dsimp only
  rw [show ((d.withGau x).setSlot i { (d.withGau x).slot i with dirty := true }) =
    (d.setSlot i { d.slot i with dirty := true }).withGau x from rfl]
  generalize d.setSlot i { d.slot i with dirty := true } = e
  rw [show (e.withGau x).flt = e.flt from rfl]
  cases e.flt.write with
  | none => exact enqueue e
  | some w =>
    dsimp only
    rw [enqueue, apply_ite (Dev.withGau x)]
    rfl

theorem commitRecord_withGau (i : Fin 40) (r : FaultRec) (renewed : Bool) (x : GauState) (d : Dev) :
    commitRecord i r renewed (d.withGau x) = (commitRecord i r renewed d).withGau x := by
  unfold commitRecord postFault
  rw [show (d.withGau x).setSlot i { (d.withGau x).slot i with record := some r } =
    (d.setSlot i { d.slot i with record := some r }).withGau x from rfl, fltDirty_withGau, ← lnkPost_withGau]
  rfl

/-- An absent report neither reads nor writes GAU. -/
theorem fltAbsent_withGau (code : BitVec 16) (x : GauState) (d : Dev) :
    fltAbsent code (d.withGau x) = (fltAbsent code d).withGau x := by
  unfold fltAbsent
  rw [show findCode (d.withGau x) code = findCode d code from rfl]
  cases findCode d code with
  | none => rfl
  | some i =>
    dsimp only
    rw [show (d.withGau x).slot i = d.slot i from rfl]
    cases (d.slot i).record with
    | none => rfl
    | some r =>
      dsimp only
      rw [commitRecord_withGau, apply_ite (Dev.withGau x)]

/-! ## Coil currents and PWM periods (R61-R63, R65) -/

theorem endsPulse_sin_iff (milliamps counts : Nat) : endsPulse r .sin milliamps counts = true ↔
    ∃ sd cd, r.pwm = some (sd, cd) ∧
      (r.sinEnded = false ∧ 40 < counts ∧ counts < sd.natAbs ∧ 250 < milliamps) := by
  unfold endsPulse
  rcases r.pwm with _ | ⟨sd, cd⟩ <;> simp [and_assoc]

theorem endsPulse_cos_iff (milliamps counts : Nat) : endsPulse r .cos milliamps counts = true ↔
    ∃ sd cd, r.pwm = some (sd, cd) ∧
      (r.cosEnded = false ∧ 40 < counts ∧ counts < cd.natAbs ∧ 250 < milliamps) := by
  unfold endsPulse
  rcases r.pwm with _ | ⟨sd, cd⟩ <;> simp [and_assoc]

theorem coilCurrent_of_not_ends {coil : Coil} {milliamps counts : Nat}
    (h : ¬endsPulse (d.gauge g) coil milliamps counts = true) : coilCurrent g coil milliamps counts d = d := if_neg h

theorem coilCurrent_of_ends {coil : Coil} {milliamps counts : Nat}
    (h : endsPulse (d.gauge g) coil milliamps counts = true) :
    coilCurrent g coil milliamps counts d = endPulse g coil d := if_pos h

/-- A driven gauge's record written: its own record, no other, and nothing outside GAU. -/
theorem setGauge_written (hr : r.state.driven = true) :
    (d.setGauge g r).gauge g = r ∧ (∀ k, k ≠ g → (d.setGauge g r).gauge k = d.gauge k) ∧
      d.setGauge g r = { d with gau := (d.setGauge g r).gau } := by
  refine ⟨?_, fun k hk => ?_, rfl⟩
  · rw [setGauge_gauge_written, if_pos rfl, GaugeRec.written_driven hr]
  · rw [setGauge_gauge_written, if_neg hk.symm]

/-- The duties of the position loaded (R61). -/
def GaugeRec.loaded (r : GaugeRec) : GaugeRec :=
  { r with pwm := some (r.sinDuty, r.cosDuty), sinEnded := false, cosEnded := false }

theorem loadDuties_driven (h : (d.gauge g).state.driven = true) :
    loadDuties g d = d.setGauge g (d.gauge g).loaded := if_pos h

theorem loadDuties_still (h : ¬(d.gauge g).state.driven = true) : loadDuties g d = d := if_neg h

theorem setGauge_again {r' : GaugeRec} (h : r.state.driven = true) (h' : r'.state.driven = true) :
    (d.setGauge g r).setGauge g r' = d.setGauge g r' := by
  rw [setGauge_driven h, setGauge_driven h', setGauge_driven h']
  simp

theorem loadDuties_setGauge (h : r.state.driven = true) :
    loadDuties g (d.setGauge g r) = d.setGauge g r.loaded := by
  have self := (setGauge_written (d := d) (g := g) h).1
  rw [loadDuties_driven (by rw [self]; exact h), self, setGauge_again (r' := r.loaded) h h]

theorem gaugePeriodEnd_driven (h : (d.gauge g).state.driven = true) : gaugePeriodEnd g d = loadDuties g
    (if (d.gauge g).sinEnded || (d.gauge g).cosEnded then periodTerminated g d else periodClean g d) := by
  simp [gaugePeriodEnd, h]

theorem gaugePeriodEnd_terminated (h : (d.gauge g).state.driven = true)
    (ht : (d.gauge g).sinEnded = true ∨ (d.gauge g).cosEnded = true) :
    gaugePeriodEnd g d = loadDuties g (periodTerminated g d) := by
  rw [gaugePeriodEnd_driven h, if_pos (by simpa using ht)]

theorem gaugePeriodEnd_clean (h : (d.gauge g).state.driven = true) (hs : (d.gauge g).sinEnded = false)
    (hc : (d.gauge g).cosEnded = false) : gaugePeriodEnd g d = loadDuties g (periodClean g d) := by
  rw [gaugePeriodEnd_driven h, if_neg (by simp [hs, hc])]

/-- The record with its counts of terminated and of clean periods. -/
def GaugeRec.counted (terminated : Nat) (clean : Option Nat) (r : GaugeRec) : GaugeRec :=
  { r with terminated := terminated, clean := clean }

theorem periodTerminated_counts {c : Option Nat} (h : (d.gauge g).terminated + 1 < 16)
    (hc : (d.gauge g).clean = c) : periodTerminated g d =
      d.setGauge g ((d.gauge g).counted ((d.gauge g).terminated + 1) (c.map fun _ => 0)) := by
  rw [periodTerminated, if_neg (by omega), ← hc]
  rfl

theorem periodClean_free (h : (d.gauge g).held = false) (hc : (d.gauge g).clean = none) :
    periodClean g d = d.setGauge g ((d.gauge g).counted 0 none) := by
  simp [periodClean, h, GaugeRec.counted, ← hc]

theorem periodClean_counts {n : Nat} (h : (d.gauge g).held = true) (hc : (d.gauge g).clean = some n)
    (hn : n + 1 < 16) : periodClean g d = d.setGauge g ((d.gauge g).counted 0 (some (n + 1))) := by
  have : ¬16 ≤ n + 1 := by omega
  simp [periodClean, h, hc, this, GaugeRec.counted]

/-- The record of a gauge whose fault has ended (R65). -/
def GaugeRec.healed (r : GaugeRec) : GaugeRec := { r with terminated := 0, clean := none, held := false }

theorem periodClean_heals {n : Nat} (h : (d.gauge g).held = true) (hc : (d.gauge g).clean = some n)
    (hn : 16 ≤ n + 1) : periodClean g d =
      gaugeTell g (d.gauge g) (fltReport 0x10 g.val false (d.setGauge g (d.gauge g).healed)) := by
  simp only [periodClean, h, hc, if_pos hn]
  rfl

theorem fltReport_gauge (group index : Nat) (present : Bool) (k : Fin 6) (d : Dev) :
    (fltReport group index present d).gauge k = d.gauge k := by
  unfold Dev.gauge
  rw [(told_fltReport group index present (Told.refl 0 d)).gau (by decide)]

theorem fltReportIf_gauge (c : Bool) (group index : Nat) (present : Bool) (k : Fin 6) (d : Dev) :
    (fltReportIf c group index present d).gauge k = d.gauge k := by
  unfold Dev.gauge
  rw [(told_fltReportIf c group index present (Told.refl 0 d)).gau (by decide)]

theorem periodClean_heals_gauge {n : Nat} (h : (d.gauge g).held = true) (hc : (d.gauge g).clean = some n)
    (hn : 16 ≤ n + 1) (hd : (d.gauge g).state.driven = true) (k : Fin 6) :
    (periodClean g d).gauge k = if g = k then (d.gauge g).healed else d.gauge k := by
  rw [periodClean_heals h hc hn, gaugeTell_gauge, fltReport_gauge, setGauge_gauge_written,
    GaugeRec.written_driven (r := (d.gauge g).healed) hd]

theorem periodTerminated_shuts (h : 16 ≤ (d.gauge g).terminated + 1) :
    periodTerminated g d = gaugeShutdown g d := if_pos h

/-- The record of a gauge shut down at a moment (R63). -/
def GaugeRec.shut (clock : Nat) (r : GaugeRec) : GaugeRec :=
  { r with
    state := .shutdown, restartTimer := some (clock + 1000000), holdTimer := none, sweepDone := r.sweepMemory
    phase := none, terminated := 0, clean := none, held := true, pwm := none, sinEnded := false, cosEnded := false }

theorem gaugeShutdown_gauge (g k : Fin 6) (d : Dev) :
    (gaugeShutdown g d).gauge k = if g = k then (d.gauge g).shut d.clock else d.gauge k := by
  unfold gaugeShutdown
  dsimp only
  rw [gaugeTell_gauge, fltReportIf_gauge, setGauge_gauge_written]
  rfl

/-- A telling to WRN is heard by no warning where none watches a gauge. -/
theorem wrnGauge_unheard (h : ∀ w : Fin 64, (d.wrn.cfg[w]).kind ≠ .gauge) (n : Nat) : wrnGauge n d = d :=
  forEach_of_forall_eq fun w => if_neg (by simpa using fun hk _ => h w hk)

theorem gaugeTell_healed_unheard {old : GaugeRec} (hs : (d.gauge g).state = old.state)
    (h : ∀ w : Fin 64, (d.wrn.cfg[w]).kind ≠ .gauge) : gaugeTell g old d = d := by
  simp [gaugeTell, hs, wrnGauge_unheard h]

theorem loadDuties_healed {n : Nat} (h : (d.gauge g).held = true) (hc : (d.gauge g).clean = some n)
    (hn : 16 ≤ n + 1) (hd : (d.gauge g).state.driven = true) :
    loadDuties g (periodClean g d) = (periodClean g d).setGauge g (d.gauge g).healed.loaded := by
  have self : (periodClean g d).gauge g = (d.gauge g).healed := by
    rw [periodClean_heals_gauge h hc hn hd, if_pos rfl]
  rw [loadDuties_driven (by rw [self]; exact hd), self]

theorem periodClean_heals_unheard {n : Nat} (h : (d.gauge g).held = true) (hc : (d.gauge g).clean = some n)
    (hn : 16 ≤ n + 1) (hw : ∀ w : Fin 64, (d.wrn.cfg[w]).kind ≠ .gauge) :
    periodClean g d = fltAbsent (faultCode 0x10 g.val) (d.setGauge g (d.gauge g).healed) := by
  rw [periodClean_heals h hc hn, gaugeTell_healed_unheard]
  · rfl
  · rw [fltReport_gauge, setGauge_gauge_written, if_pos rfl, GaugeRec.written_state]
    rfl
  · rw [(told_fltReport 0x10 g.val false (Told.refl 0 (d.setGauge g (d.gauge g).healed))).wrn rfl]
    exact hw

theorem fltAbsent_setGauge (code : BitVec 16) (hr : r.state.driven = true) (d : Dev) :
    (fltAbsent code d).setGauge g r = fltAbsent code (d.setGauge g r) := by
  have hg : (fltAbsent code d).gau = d.gau := (told_fltAbsent code (Told.refl 0 d)).gau (by decide)
  rw [setGauge_driven hr, setGauge_driven hr, hg]
  exact (fltAbsent_withGau ..).symm

/-- Settles O24: the outcomes of `coilCurrent` and `gaugePeriodEnd`, case by case. -/
theorem coilCurrentShutsGaugeDown : Obligations.CoilCurrentShutsGaugeDown := by
  intro s g r loaded
  have one (m : Nat) (c : Option Nat) (hd : r.state.driven = true)
      (h : gaugePeriodEnd g s.dev = loadDuties g (s.dev.setGauge g (r.counted m c))) :
      ∃ e : Dev, Runs (.pwmPeriodEnd g) s e ∧ e.gauge g = (r.counted m c).loaded ∧
        (∀ k, k ≠ g → e.gauge k = s.dev.gauge k) ∧ e = { s.dev with gau := e.gau } :=
    ⟨_, .of_event rfl (h.trans (loadDuties_setGauge (r := r.counted m c) hd)),
      setGauge_written (r := (r.counted m c).loaded) hd⟩
  refine ⟨fun coil milliamps counts => ?_, fun hd => ?_, fun hd hh hc => ⟨fun hs ho => ?_, fun he hn => ?_,
    fun he hn => ?_⟩, fun n hd hh hc => ?_⟩
  · intro tooMuch ends
    have hends : endsPulse (s.dev.gauge g) coil milliamps counts = true ↔ ends := by
      cases coil with
      | sin => exact endsPulse_sin_iff ..
      | cos => exact endsPulse_cos_iff ..
    refine ⟨fun h => .of_event rfl (coilCurrent_of_not_ends fun h' => h (hends.1 h')), fun h hd => ?_⟩
    refine ⟨_, .of_event rfl (coilCurrent_of_ends (hends.2 h)), ?_⟩
    cases coil with
    | sin => exact ⟨rfl, rfl, fun k => setGauge_gauge_driven (r := { r with sinEnded := true }) hd k⟩
    | cos => exact ⟨rfl, rfl, fun k => setGauge_gauge_driven (r := { r with cosEnded := true }) hd k⟩
  · exact .of_event rfl (if_pos (by simpa using hd))
  · obtain ⟨e, runs, self, rest⟩ := one 0 none hd (by rw [gaugePeriodEnd_clean hd hs ho, periodClean_free hh hc])
    exact ⟨e, runs, self.trans (by rw [← hc]; rfl), rest⟩
  · obtain ⟨e, runs, self, rest⟩ := one (r.terminated + 1) none hd
      (by rw [gaugePeriodEnd_terminated hd he, periodTerminated_counts hn hc]; rfl)
    exact ⟨e, runs, self.trans (by rw [← hc]; rfl), rest⟩
  · have still : (gaugePeriodEnd g s.dev) = gaugeShutdown g s.dev := by
      rw [gaugePeriodEnd_terminated hd he, periodTerminated_shuts hn, loadDuties_still]
      rw [gaugeShutdown_gauge, if_pos rfl]
      exact Bool.false_ne_true
    have self : (gaugeShutdown g s.dev).gauge g = r.shut s.dev.clock := by rw [gaugeShutdown_gauge, if_pos rfl]
    refine ⟨_, .of_event rfl still, told_gaugeShutdown g (.refl 2 _), ?_, ?_, ?_, ?_, ?_, fun k hk => ?_⟩
    all_goals first | (rw [self]; rfl) | rw [gaugeShutdown_gauge, if_neg hk.symm]
  · refine ⟨fun hs ho hn => ?_, fun hs ho hn => ?_, fun hs ho hn hw => ?_, fun he hn => ?_⟩
    · exact one 0 (some (n + 1)) hd (by rw [gaugePeriodEnd_clean hd hs ho, periodClean_counts hh hc hn])
    · have hrun := (gaugePeriodEnd_clean hd hs ho).trans (loadDuties_healed hh hc hn hd)
      have gauges := periodClean_heals_gauge hh hc hn hd
      refine ⟨_, .of_event rfl hrun, hrun ▸ told_gaugePeriodEnd g (.refl 2 _), ?_, fun k hk => ?_⟩
      · exact (setGauge_written (r := (s.dev.gauge g).healed.loaded) hd).1
      · exact ((setGauge_written (r := (s.dev.gauge g).healed.loaded) hd).2.1 k hk).trans
          ((gauges k).trans (if_neg hk.symm))
    · refine .of_event rfl (((gaugePeriodEnd_clean hd hs ho).trans (loadDuties_healed hh hc hn hd)).trans ?_)
      rw [periodClean_heals_unheard hh hc hn hw]
      refine (fltAbsent_setGauge (r := r.healed.loaded) _ hd _).trans (congrArg (fltAbsent _) ?_)
      exact (setGauge_again (r := r.healed) (r' := r.healed.loaded) hd hd).trans
        (setGauge_driven (r := r.healed.loaded) hd)
    · exact one (r.terminated + 1) (some 0) hd
        (by rw [gaugePeriodEnd_terminated hd he, periodTerminated_counts hn hc]; rfl)

/-! ## The restart (R64) -/

/-- The record of a gauge that starts again from its rest angle, following a source at a value (R58, R64). -/
def GaugeRec.resumedTracking (c : GaugeCfg) (v : Int) (r : GaugeRec) : GaugeRec :=
  { r.at c.rest with
    terminated := 0, clean := if r.held then some 0 else none, restartTimer := none, holdTimer := none
    sweepDone := none, state := .tracking, target := gaugeAngle c v }

theorem resumeRecord_tracks {c : GaugeCfg} (hm : d.mod.mode = .run ∨ d.mod.mode = .service)
    (ho : r.overrideAngle = none) (hg : (d.chan c.source).isGood = true) :
    resumeRecord d c r = r.resumedTracking c (d.chan c.source).value := by
  rcases hm with hm | hm <;> simp [resumeRecord, hm, ho, deriveTarget, hg, GaugeRec.at, GaugeRec.resumedTracking]

theorem gaugeRestart_restarts (ha : (d.gaugeCfg g).autoRestart = true) (hr : (d.gauge g).restarts < 3) :
    gaugeRestart g d = gaugeChange g
      (fun r => resumeRecord d (d.gaugeCfg g) { r with restarts := r.restarts + 1 }) d := if_pos (by simp [ha, hr])

theorem gaugeRestart_locks (h : ¬((d.gaugeCfg g).autoRestart = true ∧ (d.gauge g).restarts < 3)) :
    gaugeRestart g d = gaugeChange g (fun r => { r with state := .lockedOff, restartTimer := none }) d :=
  if_neg (by simpa using h)

/-- Outside SWEEP the restart timer's expiry is the gauge's restart, heard by the other blocks. -/
theorem restartEnd_eq (h : d.mod.mode ≠ .sweep) : restartEnd g d = gaugeRestart g d := by
  refine modSweepCheck_none (.inl ?_)
  rw [(told_gaugeRestart g (Told.refl 2 d)).mod]
  exact h

/-- Settles O25: the restart as a change of the gauge's record. -/
theorem restartExpiryRestartsOrLocks : Obligations.RestartExpiryRestartsOrLocks := by
  intro s g t ht _ hm r c
  have notSweep : (s.dev.advanceTo t).mod.mode ≠ .sweep := by
    rcases hm with hm | hm <;> exact hm ▸ nofun
  have hrun : onExpiry (s.dev.gauge g).restartTimer (restartEnd g) s.dev = gaugeRestart g (s.dev.advanceTo t) := by
    rw [ht, onExpiry_some, restartEnd_eq notSweep]
  have told := told_gaugeRestart g (.refl 2 (s.dev.advanceTo t))
  have cfg : (s.dev.advanceTo t).gaugeCfg g = c := gaugeCfg_of_cal (e := s.dev.advanceTo t) (d := s.dev) rfl g
  refine ⟨fun ⟨ha, hr⟩ ho hg => ?_, fun h => ?_⟩
  · have gauges (k : Fin 6) : (gaugeRestart g (s.dev.advanceTo t)).gauge k =
        if g = k then { r with restarts := r.restarts + 1 }.resumedTracking c (s.dev.chan c.source).value
        else s.dev.gauge k := by
      rw [gaugeRestart_restarts (d := s.dev.advanceTo t) (by rw [cfg]; exact ha) hr, gaugeChange_gauge, cfg]
      refine if_congr Iff.rfl ?_ rfl
      rw [resumeRecord_tracks (d := s.dev.advanceTo t) hm (by exact ho) (by exact hg), GaugeRec.written_driven] <;> rfl
    have self := (gauges g).trans (if_pos rfl)
    exact ⟨_, .of_event rfl hrun, told, by rw [self]; rfl, by rw [self]; rfl, by rw [self]; rfl, by rw [self]; rfl,
      by rw [self]; rfl, by rw [self]; rfl, fun k hk => (gauges k).trans (if_neg hk.symm)⟩
  · have gauges (k : Fin 6) : (gaugeRestart g (s.dev.advanceTo t)).gauge k =
        if g = k then { r with state := .lockedOff, restartTimer := none }.written else s.dev.gauge k := by
      rw [gaugeRestart_locks (d := s.dev.advanceTo t) (by rw [cfg]; exact h), gaugeChange_gauge]
      rfl
    have self := (gauges g).trans (if_pos rfl)
    exact ⟨_, .of_event rfl hrun, told, by rw [self]; rfl, by rw [self]; rfl, by rw [self]; rfl,
      fun k hk => (gauges k).trans (if_neg hk.symm)⟩

end Sys2Proof.Machine
end

section
/-! SUPPORT. What the operations of WRN write: the chime, the lamps and the warnings; with them the statements
`Obligations.WarningDelayExpiry` (O26), `Obligations.FlashPhaseSwitchesLamps` (O27),
`Obligations.DiagnosisExpiryJudgesLamp` (O28), `Obligations.LampOvercurrentCutsOutput` (O29),
`Obligations.RetryExpiryRetriesOrLocks` (O30), `Obligations.LampSenseIsTaken` (O31),
`Obligations.ChimeStepPlaysPattern` (O32) and `Obligations.SilenceEndGrantsAfresh` (O33). -/

namespace Sys2Proof.Machine
variable {d e d₁ : Dev} {l k : Fin 24} {w v : Fin 64}

/-! ## The chime -/

/-- From `d` to `e` only the chime's requests, grants and player change. -/
def ChimeOnly (d e : Dev) : Prop :=
  e = { d with wrn := { d.wrn with
    requests := e.wrn.requests, player := e.wrn.player, lastHigh := e.wrn.lastHigh, lastLow := e.wrn.lastLow } }

theorem ChimeOnly.refl (d : Dev) : ChimeOnly d d := rfl

theorem ChimeOnly.trans (h : ChimeOnly d d₁) (h' : ChimeOnly d₁ e) : ChimeOnly d e := by
  unfold ChimeOnly at *
  rw [h', h]

theorem chimeOnly_arbitrate (d : Dev) : ChimeOnly d (chimeArbitrate d) := by
  unfold chimeArbitrate grantRequest
  dsimp only
  split
  · rfl
  · split
    · split <;> rfl
    · split
      · split <;> rfl
      · rfl

theorem chimeOnly_grant (d : Dev) : ChimeOnly d (chimeGrant d) := by
  unfold chimeGrant
  split
  · exact chimeOnly_arbitrate d
  · rfl

theorem chimeOnly_arrival (d : Dev) : ChimeOnly d (chimeArrival d) := by
  unfold chimeArrival
  split
  · exact chimeOnly_grant d
  · split <;> rfl
  · rfl

theorem chimeOnly_leave (w : Fin 64) (d : Dev) : ChimeOnly d (chimeLeave w d) := by
  unfold chimeLeave
  dsimp only
  split
  · split <;> rfl
  all_goals rfl

theorem chimeOnly_join (w : Fin 64) (p : Chime) (high : Bool) (d : Dev) : ChimeOnly d (chimeJoin w p high d) :=
  .trans (d₁ := { d with wrn := { d.wrn with requests := d.wrn.requests ++ [⟨w, p, high⟩] } }) rfl
    (chimeOnly_arrival _)

theorem chimeOnly_refresh (w : Fin 64) (entered : Bool) (d : Dev) : ChimeOnly d (chimeRefresh w entered d) := by
  unfold chimeRefresh
  dsimp only
  split
  · split
    · exact chimeOnly_leave w d
    · split <;> rfl
  · split
    · exact chimeOnly_join ..
    · rfl

/-! ## Lamps -/

/-- The record an update of a lamp writes. -/
def lampWritten (d : Dev) (l : Fin 24) (f : LampRec → LampRec) : LampRec := (lampUpdate l f d).lamp l

theorem lampUpdate_lamp (l k : Fin 24) (f : LampRec → LampRec) (d : Dev) :
    (lampUpdate l f d).lamp k = if l = k then lampWritten d l f else d.lamp k := by
  unfold lampWritten
  rw [lampUpdate, setLamp_lamp, setLamp_lamp, if_pos rfl]

theorem switchOutput_output (clock : Nat) (on : Bool) (r : LampRec) : (switchOutput clock on r).output = on := by
  unfold switchOutput
  split_ifs with h h'
  · exact h.symm
  · exact h'.symm
  · simpa using h'

/-- What the update of a lamp leaves to its change: all but the output, its sensing and its timer. -/
theorem lampWritten_eq (d : Dev) (l : Fin 24) (f : LampRec → LampRec) : lampWritten d l f =
    { f (d.lamp l) with
      output := lampOn d (f (d.lamp l)), onSince := (lampWritten d l f).onSince
      currentOk := (lampWritten d l f).currentOk, pinHigh := (lampWritten d l f).pinHigh
      diagTimer := (lampWritten d l f).diagTimer } := by
  have h : lampWritten d l f = { switchOutput d.clock (lampOn d (f (d.lamp l))) (f (d.lamp l)) with
      diagTimer := (lampWritten d l f).diagTimer } := by
    unfold lampWritten
    rw [lampUpdate, setLamp_lamp, if_pos rfl]
  generalize (lampWritten d l f).diagTimer = t at h
  rw [h]
  unfold switchOutput
  split_ifs with hs hs'
  · rw [hs]
  · rw [hs']
  · rw [Bool.not_eq_true] at hs'
    rw [hs']

/-! ## What every operation of WRN but a change of a lamp's driver keeps of the lamps -/

/-- From `d` to `e` the settings, the flash phase and the link's state stay, of every lamp all stays but its demand,
its output and what it senses, and an output that is cut stays off. -/
structure LampsKept (d e : Dev) : Prop where
  cfg : e.wrn.cfg = d.wrn.cfg
  flash : e.wrn.flash = d.wrn.flash
  linkLost : e.wrn.linkLost = d.wrn.linkLost
  test : e.wrn.test = d.wrn.test
  lamp (l : Fin 24) : e.lamp l = { d.lamp l with
    demand := (e.lamp l).demand, output := (e.lamp l).output, onSince := (e.lamp l).onSince
    currentOk := (e.lamp l).currentOk, pinHigh := (e.lamp l).pinHigh, diagTimer := (e.lamp l).diagTimer }
  cut (l : Fin 24) : (d.lamp l).driver.lets = false → (d.lamp l).output = false → (e.lamp l).output = false

theorem LampsKept.refl (d : Dev) : LampsKept d d := ⟨rfl, rfl, rfl, rfl, fun _ => rfl, fun _ _ h => h⟩

theorem LampsKept.driver (h : LampsKept d e) (l : Fin 24) : (e.lamp l).driver = (d.lamp l).driver := by rw [h.lamp l]
theorem LampsKept.hostBit (h : LampsKept d e) (l : Fin 24) : (e.lamp l).hostBit = (d.lamp l).hostBit := by
  rw [h.lamp l]
theorem LampsKept.force (h : LampsKept d e) (l : Fin 24) : (e.lamp l).force = (d.lamp l).force := by rw [h.lamp l]
theorem LampsKept.retries (h : LampsKept d e) (l : Fin 24) : (e.lamp l).retries = (d.lamp l).retries := by
  rw [h.lamp l]
theorem LampsKept.retryTimer (h : LampsKept d e) (l : Fin 24) : (e.lamp l).retryTimer = (d.lamp l).retryTimer := by
  rw [h.lamp l]
theorem LampsKept.heldOpen (h : LampsKept d e) (l : Fin 24) : (e.lamp l).heldOpen = (d.lamp l).heldOpen := by
  rw [h.lamp l]
theorem LampsKept.heldShort (h : LampsKept d e) (l : Fin 24) : (e.lamp l).heldShort = (d.lamp l).heldShort := by
  rw [h.lamp l]
theorem LampsKept.heldOver (h : LampsKept d e) (l : Fin 24) : (e.lamp l).heldOver = (d.lamp l).heldOver := by
  rw [h.lamp l]

theorem LampsKept.trans (h : LampsKept d d₁) (h' : LampsKept d₁ e) : LampsKept d e where
  cfg := h'.cfg.trans h.cfg
  flash := h'.flash.trans h.flash
  linkLost := h'.linkLost.trans h.linkLost
  test := h'.test.trans h.test
  lamp l := by rw [h'.lamp l, h.lamp l]
  cut l hd ho := h'.cut l ((h.driver l).symm ▸ hd) (h.cut l hd ho)

theorem LampsKept.of_lamps (hc : e.wrn.cfg = d.wrn.cfg) (hf : e.wrn.flash = d.wrn.flash)
    (hk : e.wrn.linkLost = d.wrn.linkLost) (ht : e.wrn.test = d.wrn.test) (h : e.wrn.lamps = d.wrn.lamps) :
    LampsKept d e := by
  have hl (l : Fin 24) : e.lamp l = d.lamp l := by unfold Dev.lamp; rw [h]
  exact ⟨hc, hf, hk, ht, fun l => by rw [hl], fun l _ ho => by rw [hl]; exact ho⟩

theorem LampsKept.of_wrn (h : e.wrn = d.wrn) : LampsKept d e := by
  refine .of_lamps ?_ ?_ ?_ ?_ ?_ <;> rw [h]

theorem Told.lampsKept (h : Told 0 d e) : LampsKept d e := .of_wrn (h.wrn rfl)

theorem ChimeOnly.lampsKept (h : ChimeOnly d e) : LampsKept d e := by
  rw [h]
  exact .of_lamps rfl rfl rfl rfl rfl

theorem LampsKept.forEach {n : Nat} {f : Fin n → Dev → Dev} (hf : ∀ i e, LampsKept e (f i e)) (d : Dev) :
    LampsKept d (forEach n f d) :=
  forEach_keeps (P := LampsKept d) (fun i e he => he.trans (hf i e)) (.refl d)

theorem lampsKept_setWarning (w : Fin 64) (r : WarningRec) (d : Dev) : LampsKept d (d.setWarning w r) :=
  .of_lamps rfl rfl rfl rfl rfl

theorem lampOn_cut {r : LampRec} (h : r.driver.lets = false) : lampOn d r = false := by simp [lampOn, h]

/-- An update of a lamp that changes no more than its demand. -/
theorem lampsKept_lampUpdate (l : Fin 24) {f : LampRec → LampRec}
    (hf : ∀ r, f r = { r with demand := (f r).demand }) (d : Dev) : LampsKept d (lampUpdate l f d) := by
  refine ⟨rfl, rfl, rfl, rfl, fun k => ?_, fun k hd ho => ?_⟩
  · rw [lampUpdate_lamp]
    split
    next hk => subst hk; rw [lampWritten_eq, hf]
    next => rfl
  · rw [lampUpdate_lamp]
    split
    next hk =>
      subst hk
      rw [lampWritten_eq]
      exact lampOn_cut (by rw [hf]; exact hd)
    next => exact ho

theorem lampsKept_demandRefresh (l : Fin 24) (d : Dev) : LampsKept d (lampDemandRefresh l d) :=
  lampsKept_lampUpdate l (fun _ => rfl) d

theorem lampsKept_lampsRefresh (d : Dev) : LampsKept d (lampsRefresh d) :=
  .forEach (fun l e => lampsKept_lampUpdate l (fun _ => rfl) e) d

theorem lampsKept_warningReport (w : Fin 64) (d : Dev) : LampsKept d (warningReport w d) := by
  unfold warningReport
  dsimp only
  split
  · exact (lampsKept_setWarning ..).trans (told_fltReport _ _ _ (.refl 0 _)).lampsKept
  · split
    · exact (lampsKept_setWarning ..).trans (told_fltReport _ _ _ (.refl 0 _)).lampsKept
    · exact .refl d

theorem lampsKept_postWarning (w : Fin 64) (d : Dev) : LampsKept d (postWarning w d) :=
  (told_lnkPost _ _ _ (.refl 0 d)).lampsKept

/-- The refresh of the lamp a warning is shown by. -/
def warningLamp (w : Fin 64) (d : Dev) : Dev :=
  match d.wrn.cfg[w].lamp with
  | some l => withIndex 24 l lampDemandRefresh d
  | none => d

theorem warningEnter_eq (w : Fin 64) (st : WarningState) (rem : Option Remembered) (timer : Timer) (d : Dev) :
    warningEnter w st rem timer d = chimeRefresh w (st == .activeNew) (warningLamp w (postWarning w (warningReport w
      (d.setWarning w { d.warning w with state := st, remembered := rem, timer := timer })))) := rfl

theorem lampsKept_warningLamp (w : Fin 64) (d : Dev) : LampsKept d (warningLamp w d) := by
  unfold warningLamp withIndex
  split
  · split
    · exact lampsKept_demandRefresh ..
    · exact .refl d
  · exact .refl d

theorem lampsKept_warningEnter (w : Fin 64) (st : WarningState) (rem : Option Remembered) (timer : Timer) (d : Dev) :
    LampsKept d (warningEnter w st rem timer d) := by
  rw [warningEnter_eq]
  exact ((((lampsKept_setWarning ..).trans (lampsKept_warningReport ..)).trans (lampsKept_postWarning ..)).trans
    (lampsKept_warningLamp ..)).trans (chimeOnly_refresh ..).lampsKept

theorem lampsKept_warningExit (w : Fin 64) (rem : Remembered) (d : Dev) : LampsKept d (warningExit w rem d) := by
  unfold warningExit
  split <;> exact lampsKept_warningEnter ..

theorem lampsKept_conditionTrue (w : Fin 64) (d : Dev) : LampsKept d (conditionTrue w d) := by
  unfold conditionTrue
  dsimp only
  split
  · split <;> exact lampsKept_warningEnter ..
  · split
    · exact lampsKept_warningEnter ..
    · exact .refl d
  · exact lampsKept_warningEnter ..
  all_goals exact .refl d

theorem lampsKept_warningEnding (w : Fin 64) (rem : Remembered) (d : Dev) :
    LampsKept d (warningEnding w rem d) := by
  unfold warningEnding
  split
  · exact lampsKept_warningExit ..
  · exact lampsKept_warningEnter ..

theorem lampsKept_conditionFalse (w : Fin 64) (d : Dev) : LampsKept d (conditionFalse w d) := by
  unfold conditionFalse
  split
  · exact lampsKept_warningEnter ..
  · exact lampsKept_warningEnding ..
  · exact lampsKept_warningEnding ..
  all_goals exact .refl d

theorem lampsKept_evaluate (w : Fin 64) (d : Dev) : LampsKept d (evaluate w d) := by
  unfold evaluate
  dsimp only
  split
  · exact .refl d
  · split
    · exact .refl d
    · split
      · exact (lampsKept_setWarning ..).trans (lampsKept_conditionTrue ..)
      · exact (lampsKept_setWarning ..).trans (lampsKept_conditionFalse ..)

theorem lampsKept_evaluateWhere (p : WarningCfg → Bool) (d : Dev) : LampsKept d (evaluateWhere p d) :=
  .forEach (fun w e => by split; exacts [lampsKept_evaluate w e, .refl e]) d

theorem lampsKept_lampsDriverChanged (changed : Nat → Bool) (d : Dev) :
    LampsKept d (lampsDriverChanged changed d) :=
  (lampsKept_evaluateWhere _ d).trans (.forEach (fun w e => by
    split
    exacts [(chimeOnly_refresh w false e).lampsKept, .refl e]) _)

/-! ## The warnings an operation of WRN writes -/

theorem warning_of_wrn (h : e.wrn.warnings = d.wrn.warnings) (v : Fin 64) : e.warning v = d.warning v := by
  unfold Dev.warning
  rw [h]

theorem ChimeOnly.warnings (h : ChimeOnly d e) : e.wrn.warnings = d.wrn.warnings := by rw [h]

theorem Told.warnings (h : Told 0 d e) : e.wrn.warnings = d.wrn.warnings := by rw [h.wrn rfl]

theorem warningLamp_warnings (w : Fin 64) (d : Dev) : (warningLamp w d).wrn.warnings = d.wrn.warnings := by
  unfold warningLamp withIndex
  split
  · split <;> rfl
  · rfl

/-- A report of a warning changes nothing of the warnings but whether its own fault is held (R87). -/
theorem warningReport_warning (w v : Fin 64) (d : Dev) : (warningReport w d).warning v =
    if w = v then { d.warning w with held := ((warningReport w d).warning w).held } else d.warning v := by
  have written (present : Bool) (r : WarningRec) (v : Fin 64) :
      (fltReport 0x70 w.val present (d.setWarning w r)).warning v = if w = v then r else d.warning v := by
    rw [warning_of_wrn (told_fltReport _ _ _ (.refl 0 _)).warnings, setWarning_warning]
  unfold warningReport
  dsimp only
  split
  · rw [written, written, if_pos rfl]
  · split
    · rw [written, written, if_pos rfl]
    · split
      next h => rw [h]
      next => rfl

/-- A change of a warning's state writes its state, what it remembers and its timer, and of the other warnings
nothing (R87). -/
theorem warningEnter_warning (w v : Fin 64) (st : WarningState) (rem : Option Remembered) (timer : Timer) (d : Dev) :
    (warningEnter w st rem timer d).warning v =
      if w = v then { d.warning w with
        state := st, remembered := rem, timer := timer
        held := ((warningEnter w st rem timer d).warning w).held }
      else d.warning v := by
  have all (v : Fin 64) : (warningEnter w st rem timer d).warning v = (warningReport w
      (d.setWarning w { d.warning w with state := st, remembered := rem, timer := timer })).warning v := by
    rw [warningEnter_eq, warning_of_wrn (chimeOnly_refresh ..).warnings, warning_of_wrn (warningLamp_warnings ..),
      postWarning, warning_of_wrn (told_lnkPost _ _ _ (.refl 0 _)).warnings]
  rw [all v, all w, warningReport_warning, setWarning_warning, setWarning_warning, if_pos rfl]
  split <;> rfl

theorem warningExpire_pendingOn (h : (d.warning w).state = .pendingOn) :
    warningExpire w d = warningEnter w .activeNew none none d := by
  simp only [warningExpire, h]

theorem warningExpire_pendingOff {rem : Remembered} (h : (d.warning w).state = .pendingOff)
    (hr : (d.warning w).remembered = some rem) : warningExpire w d = warningExit w rem d := by
  simp only [warningExpire, h, hr]

/-- Settles O26: each exit of the delay is one `warningEnter`. -/
theorem warningDelayExpiry : Obligations.WarningDelayExpiry := by
  intro s w t ht r next hnext
  have outcome (hrun : warningExpire w (s.dev.advanceTo t) = warningEnter w next none none (s.dev.advanceTo t)) :
      ∃ e : Dev, Runs (.warningDelayExpiry w) s e ∧ Told 1 { s.dev with clock := max s.dev.clock t } e ∧
        (e.warning w).state = next ∧ (e.warning w).timer = none ∧ (e.warning w).remembered = none ∧
        (e.warning w).condition = r.condition ∧ (∀ v, v ≠ w → e.warning v = s.dev.warning v) := by
    have self := (warningEnter_warning w w next none none (s.dev.advanceTo t)).trans (if_pos rfl)
    refine ⟨_, .of_event rfl (show onExpiry (s.dev.warning w).timer (warningExpire w) s.dev = _ by
      rw [ht, onExpiry_some, hrun]),
      told_warningEnter w next none none (.refl 1 (s.dev.advanceTo t)), ?_, ?_, ?_, ?_, fun v hv => ?_⟩
    · rw [self]
    · rw [self]
    · rw [self]
    · rw [self]; rfl
    · exact (warningEnter_warning ..).trans (if_neg hv.symm)
  refine outcome ?_
  rcases hnext with ⟨hs, rfl⟩ | ⟨hs, hr, hl, rfl⟩ | ⟨hs, hr, hl, rfl⟩ | ⟨hs, hr, rfl⟩
  · exact warningExpire_pendingOn hs
  · exact (warningExpire_pendingOff (d := s.dev.advanceTo t) hs hr).trans
      (if_pos (by rw [Bool.and_eq_true]; exact ⟨hl, rfl⟩))
  · exact (warningExpire_pendingOff (d := s.dev.advanceTo t) hs hr).trans
      (if_neg (by rw [Bool.and_eq_true]; exact fun h => Bool.false_ne_true (hl.symm.trans h.1)))
  · exact (warningExpire_pendingOff (d := s.dev.advanceTo t) hs hr).trans (if_neg (by simp))

/-! ## The flash phase (R90) -/

/-- From `d` to `e` lamps change and nothing else. -/
def LampsOnly (d e : Dev) : Prop := e = { d with wrn := { d.wrn with lamps := e.wrn.lamps } }

theorem LampsOnly.refl (d : Dev) : LampsOnly d d := rfl

theorem LampsOnly.frame (h : LampsOnly d e) : e = { d with wrn := e.wrn } := by
  unfold LampsOnly at h
  rw [h]

theorem LampsOnly.trans (h : LampsOnly d d₁) (h' : LampsOnly d₁ e) : LampsOnly d e := by
  unfold LampsOnly at *
  rw [h', h]

theorem LampsOnly.forEach {n : Nat} {f : Fin n → Dev → Dev} (hf : ∀ i e, LampsOnly e (f i e)) (d : Dev) :
    LampsOnly d (forEach n f d) :=
  forEach_keeps (P := LampsOnly d) (fun i e he => he.trans (hf i e)) (.refl d)

theorem lampsOnly_lampUpdate (l : Fin 24) (f : LampRec → LampRec) (d : Dev) : LampsOnly d (lampUpdate l f d) := rfl

theorem lampsOnly_setLamp (l : Fin 24) (r : LampRec) (d : Dev) : LampsOnly d (d.setLamp l r) := rfl

/-- An output by R90 reads of the part only what no change of the lamps writes. -/
theorem LampsOnly.lampOn (h : LampsOnly d e) (r : LampRec) : lampOn e r = lampOn d r := by
  rw [h]
  rfl

/-- The same change of every lamp, taken lamp by lamp: each lamp's record depends on its own and the part alone. -/
theorem forEach_lamp {f : Fin 24 → Dev → Dev} (only : ∀ i e, LampsOnly e (f i e))
    (others : ∀ i e (k : Fin 24), i ≠ k → (f i e).lamp k = e.lamp k) (d : Dev) (l : Fin 24) :
    ∃ e, LampsOnly d e ∧ e.lamp l = d.lamp l ∧ (forEach 24 f d).lamp l = (f l e).lamp l := by
  have first : ∀ j ≠ l, ∀ e, LampsOnly d e ∧ e.lamp l = d.lamp l → LampsOnly d (f j e) ∧ (f j e).lamp l = d.lamp l :=
    fun j hj e ⟨ho, he⟩ => ⟨ho.trans (only j e), (others j e l hj).trans he⟩
  refine forEach_at (before := fun e => LampsOnly d e ∧ e.lamp l = d.lamp l)
    (after := fun e' => ∃ e, LampsOnly d e ∧ e.lamp l = d.lamp l ∧ e'.lamp l = (f l e).lamp l) l
    first (fun e ⟨ho, he⟩ => ⟨e, ho, he, rfl⟩)
    (fun j hj e' ⟨e, ho, he, h⟩ => ⟨e, ho, he, (others j e' l hj).trans h⟩) ⟨.refl d, rfl⟩

theorem lampUpdate_lamp_ne (f : LampRec → LampRec) (d : Dev) (h : l ≠ k) : (lampUpdate l f d).lamp k = d.lamp k :=
  (lampUpdate_lamp ..).trans (if_neg h)

theorem lampUpdate_lamp_self (l : Fin 24) (f : LampRec → LampRec) (d : Dev) :
    (lampUpdate l f d).lamp l = lampWritten d l f := (lampUpdate_lamp ..).trans (if_pos rfl)

theorem lampsOnly_lampsRefresh (d : Dev) : LampsOnly d (lampsRefresh d) :=
  .forEach (fun l e => lampsOnly_lampUpdate l id e) d

/-- The outputs brought up to date follow R90. -/
theorem lampsRefresh_output (d : Dev) (l : Fin 24) : ((lampsRefresh d).lamp l).output = lampOn d (d.lamp l) := by
  obtain ⟨e, ho, he, h⟩ := forEach_lamp (f := fun l => lampUpdate l id)
    (fun l e => lampsOnly_lampUpdate l id e)
    (fun i e k hk => lampUpdate_lamp_ne id e hk) d l
  rw [lampsRefresh, h, lampUpdate_lamp_self, lampWritten_eq, ho.lampOn, id, he]

theorem lampOn_run_iff {r : LampRec} (hw : d.wrn.flash.isSome = true) (hm : d.mod.mode = .run) :
    lampOn d r = true ↔ d.mod.supply = .on ∧ r.driver.lets = true ∧
      (r.demand = .steady ∨ (r.demand = .flashing ∧ flashOn d = true)) := by
  have rule : lampModeRule d r = true ↔ r.demand = .steady ∨ (r.demand = .flashing ∧ flashOn d = true) := by
    unfold lampModeRule demandOn
    rw [hm]
    cases r.demand <;> simp
  unfold lampOn wrnRunning
  rw [Bool.and_eq_true, rule, hw]
  simp [and_assoc]

/-- Settles O27: the phase changes half, and then every output follows R90. -/
theorem flashPhaseSwitchesLamps : Obligations.FlashPhaseSwitchesLamps := by
  intro s f hf hm
  let d := { s.dev.advanceTo f.deadline with wrn := { s.dev.wrn with
    flash := some ⟨!f.on, max s.dev.clock f.deadline + 250000⟩ } }
  have hrun : flashEnd s.dev = lampsRefresh d := by simp only [flashEnd, hf]; rfl
  have only : LampsOnly d (lampsRefresh d) := lampsOnly_lampsRefresh d
  refine ⟨_, .of_event rfl hrun, only.frame, ?_, ?_, fun l => ?_⟩
  · rw [only]
  · rw [only]
  · rw [lampsRefresh_output, lampOn_run_iff (d := d) rfl hm]
    simp only [d, flashOn, Bool.not_eq_true']
    rfl

/-! ## Lamp drivers (R91-R93) -/

/-- From `d` to `e` the driver of a lamp has become that of a record, the other drivers staying. -/
structure LampChanged (l : Fin 24) (r : LampRec) (d e : Dev) : Prop where
  driver : (e.lamp l).driver = r.driver
  heldOpen : (e.lamp l).heldOpen = r.heldOpen
  heldShort : (e.lamp l).heldShort = r.heldShort
  heldOver : (e.lamp l).heldOver = r.heldOver
  retries : (e.lamp l).retries = r.retries
  retryTimer : (e.lamp l).retryTimer = r.retryTimer
  cut : r.driver.lets = false → (e.lamp l).output = false
  others : ∀ k, k ≠ l → (e.lamp k).driver = (d.lamp k).driver

theorem LampsKept.lampChanged {f : LampRec → LampRec} (h : LampsKept (lampUpdate l f d) e) :
    LampChanged l (f (d.lamp l)) d e := by
  have self := (lampUpdate_lamp_self l f d).trans (lampWritten_eq d l f)
  refine ⟨?_, ?_, ?_, ?_, ?_, ?_, fun hc => h.cut l ?_ ?_, fun k hk => ?_⟩
  · rw [h.driver, self]
  · rw [h.heldOpen, self]
  · rw [h.heldShort, self]
  · rw [h.heldOver, self]
  · rw [h.retries, self]
  · rw [h.retryTimer, self]
  · rw [self]; exact hc
  · rw [self]; exact lampOn_cut hc
  · rw [h.driver, lampUpdate_lamp_ne f d hk.symm]

theorem lampsKept_driverChanged (l : Fin 24) (d : Dev) : LampsKept d (lampDriverChanged l d) :=
  lampsKept_lampsDriverChanged ..

theorem lampsKept_fltReport (group index : Nat) (present : Bool) (d : Dev) :
    LampsKept d (fltReport group index present d) := (told_fltReport group index present (.refl 0 d)).lampsKept

theorem lampsKept_fltReportIf (c : Bool) (group index : Nat) (present : Bool) (d : Dev) :
    LampsKept d (fltReportIf c group index present d) :=
  (told_fltReportIf c group index present (.refl 0 d)).lampsKept

theorem lampDiagnose_openLoad (h : lampJudged d (d.lamp l) = some .openLoad) :
    LampChanged l { d.lamp l with driver := .openLoad, heldOpen := true, diagTimer := none } d (lampDiagnose l d) := by
  unfold lampDiagnose
  rw [h]
  exact LampsKept.lampChanged (f := fun r => { r with driver := .openLoad, heldOpen := true, diagTimer := none })
    ((lampsKept_fltReportIf ..).trans (lampsKept_driverChanged ..))

theorem lampDiagnose_shortToGround (h : lampJudged d (d.lamp l) = some .shortToGround) :
    LampChanged l { d.lamp l with driver := .shortToGround, heldShort := true, diagTimer := none } d
      (lampDiagnose l d) := by
  unfold lampDiagnose
  rw [h]
  exact LampsKept.lampChanged (f := fun r => { r with driver := .shortToGround, heldShort := true, diagTimer := none })
    ((lampsKept_fltReportIf ..).trans (lampsKept_driverChanged ..))

theorem lampDiagnose_current (h : lampJudged d (d.lamp l) = some .current) :
    LampChanged l { d.lamp l with driver := .ok, heldOpen := false, diagTimer := none } d (lampDiagnose l d) := by
  unfold lampDiagnose
  rw [h]
  exact LampsKept.lampChanged (f := fun r => { r with driver := .ok, heldOpen := false, diagTimer := none })
    ((lampsKept_fltReport ..).trans (lampsKept_driverChanged ..))

theorem lampDiagnose_readback (h : lampJudged d (d.lamp l) = some .readback) :
    LampChanged l { d.lamp l with driver := .ok, heldShort := false, diagTimer := none } d (lampDiagnose l d) := by
  unfold lampDiagnose
  rw [h]
  exact LampsKept.lampChanged (f := fun r => { r with driver := .ok, heldShort := false, diagTimer := none })
    ((lampsKept_fltReport ..).trans (lampsKept_driverChanged ..))

/-- While WRN runs with the supply ON, what is judged of a lamp is read from its record. -/
theorem lampJudged_running {r : LampRec} (hw : d.wrn.flash.isSome = true) (hs : d.mod.supply = .on) :
    lampJudged d r = match r.driver with
      | .ok =>
        if r.output then if !r.currentOk then some .openLoad else if r.heldOver then some .clean else none
        else if !r.pinHigh then some .shortToGround else none
      | .openLoad => if r.output && r.currentOk then some .current else none
      | .shortToGround => if !r.output && r.pinHigh then some .readback else none
      | .overcurrentWait | .lockedOff => none :=
  if_neg (by simp [wrnRunning, hw, hs])

/-- Settles O28: which condition is judged decides what the expiry makes of the lamp. -/
theorem diagnosisExpiryJudgesLamp : Obligations.DiagnosisExpiryJudgesLamp := by
  intro s l t ht hw hs r others
  let d := s.dev.advanceTo t
  have hrun : onExpiry (s.dev.lamp l).diagTimer (lampDiagnose l) s.dev = lampDiagnose l d := by
    rw [ht, onExpiry_some]
  have runs : Runs (.diagnosisTimerExpiry l) s (lampDiagnose l d) := .of_event rfl hrun
  have told : Told 1 { s.dev with clock := max s.dev.clock t } (lampDiagnose l d) :=
    told_lampDiagnose l (.refl 1 d)
  have judged := lampJudged_running (d := d) (r := r) hw hs
  refine ⟨fun ⟨hd, ho, hc⟩ => ?_, fun ⟨hd, ho, hc⟩ => ?_, fun ⟨hd, ho, hc⟩ => ?_, fun ⟨hd, ho, hc⟩ => ?_⟩
  · have h := lampDiagnose_openLoad (d := d) (l := l) (judged.trans (by simp [hd, ho, hc]))
    exact ⟨_, runs, told, h.others, h.driver, h.heldOpen, h.heldShort⟩
  · have h := lampDiagnose_shortToGround (d := d) (l := l) (judged.trans (by simp [hd, ho, hc]))
    exact ⟨_, runs, told, h.others, h.driver, h.heldShort, h.heldOpen⟩
  · have h := lampDiagnose_current (d := d) (l := l) (judged.trans (by simp [hd, ho, hc]))
    exact ⟨_, runs, told, h.others, h.driver, h.heldOpen⟩
  · have h := lampDiagnose_readback (d := d) (l := l) (judged.trans (by simp [hd, ho, hc]))
    exact ⟨_, runs, told, h.others, h.driver, h.heldShort⟩

/-- The record of a lamp cut by an over-current at a moment (R93). -/
def LampRec.overcurrent (clock : Nat) (r : LampRec) : LampRec :=
  { r with
    driver := .overcurrentWait, heldOpen := false, heldShort := false, heldOver := true
    retryTimer := some (clock + 500000) }

theorem lampCut_changed (l : Fin 24) (d : Dev) :
    LampChanged l ((d.lamp l).overcurrent d.clock) d (lampCut l d) :=
  LampsKept.lampChanged (f := LampRec.overcurrent d.clock) ((((lampsKept_fltReportIf ..).trans
    (lampsKept_fltReportIf ..)).trans (lampsKept_fltReportIf ..)).trans (lampsKept_driverChanged ..))

theorem switchOutput_same {clock : Nat} {on : Bool} {r : LampRec} (h : on = r.output) :
    switchOutput clock on r = r := if_pos h

/-- The fault of a lamp found clean is no longer held; its output and its sensing stay as R90 has them (R93). -/
theorem lampUpdate_clean (hw : d.wrn.flash.isSome = true) (hs : d.mod.supply = .on) (hr : (d.lamp l).driver = .ok)
    (ho : (d.lamp l).output = true) (hc : (d.lamp l).currentOk = true) (hl : lampOn d (d.lamp l) = true) :
    lampUpdate l (fun r => { r with heldOver := false, diagTimer := none }) d =
      d.setLamp l { d.lamp l with heldOver := false, diagTimer := none } := by
  let new : LampRec := { d.lamp l with heldOver := false, diagTimer := none }
  have still : switchOutput d.clock (lampOn d new) new = new := switchOutput_same (hl.trans ho.symm)
  have judged : lampJudged d new = none := (lampJudged_running hw hs).trans (by simp [new, hr, ho, hc])
  unfold lampUpdate
  dsimp only
  rw [still, judged]
  rfl

theorem lampDiagnose_clean (hw : d.wrn.flash.isSome = true) (hs : d.mod.supply = .on) (hr : (d.lamp l).driver = .ok)
    (ho : (d.lamp l).output = true) (hc : (d.lamp l).currentOk = true) (hh : (d.lamp l).heldOver = true)
    (hl : lampOn d (d.lamp l) = true) : lampDiagnose l d =
      fltReport 0x22 l.val false (d.setLamp l { d.lamp l with heldOver := false, diagTimer := none }) := by
  have judged : lampJudged d (d.lamp l) = some .clean := (lampJudged_running hw hs).trans (by simp [hr, ho, hc, hh])
  unfold lampDiagnose
  rw [judged, ← lampUpdate_clean hw hs hr ho hc hl]

theorem lampCurrent_off {milliamps sinceOn : Nat} (h : (d.lamp l).output = false) :
    lampCurrent l milliamps sinceOn d = d := by
  unfold lampCurrent
  rw [h]

theorem lampCurrent_on {milliamps sinceOn t : Nat} (h : (d.lamp l).output = true) (ht : (d.lamp l).onSince = some t) :
    lampCurrent l milliamps sinceOn d =
      if ms 5 ≤ (d.advanceTo (t + sinceOn)).clock - t && lampLimit < milliamps && wrnRunning (d.advanceTo (t + sinceOn))
      then lampCut l (d.advanceTo (t + sinceOn)) else d.advanceTo (t + sinceOn) := by
  unfold lampCurrent
  rw [h, ht]

/-- Settles O29: the blanking, the cut, and the clean 100 ms. -/
theorem lampOvercurrentCutsOutput : Obligations.LampOvercurrentCutsOutput := by
  refine ⟨fun s l milliamps sinceOn h => .of_event rfl (lampCurrent_off h), ?_, ?_⟩
  · intro s l milliamps sinceOn t ht ho now
    let d := s.dev.advanceTo (t + sinceOn)
    have hrun := lampCurrent_on (milliamps := milliamps) (sinceOn := sinceOn) ho ht
    refine ⟨fun h => .of_event rfl (hrun.trans (if_neg ?_)), fun h5 hm hw => ?_⟩
    · simp only [Bool.and_eq_true, decide_eq_true_eq]
      exact fun ⟨h', _⟩ => h h'
    · have cut := lampCut_changed l d
      refine ⟨_, .of_event rfl (hrun.trans (if_pos ?_)), told_lampCut l (.refl 1 d), cut.driver, cut.cut rfl,
        cut.retryTimer, cut.heldOver, cut.heldOpen, cut.heldShort, cut.others⟩
      simp only [Bool.and_eq_true, decide_eq_true_eq]
      exact ⟨⟨h5, hm⟩, hw⟩
  · intro s l t ht hw hs r hr ho hc hh hl
    have hrun := lampDiagnose_clean (d := s.dev.advanceTo t) (l := l) hw hs hr ho hc hh hl
    exact .of_event rfl (show onExpiry (s.dev.lamp l).diagTimer (lampDiagnose l) s.dev = _ by
      rw [ht, onExpiry_some]; exact hrun)

theorem lampRetry_retries (h : (d.lamp l).retries < 3) : LampChanged l { d.lamp l with
    driver := .ok, retries := (d.lamp l).retries + 1, retryTimer := none } d (lampRetry l d) := by
  rw [lampRetry, if_pos h]
  exact LampsKept.lampChanged (f := fun r => { r with
    driver := .ok, retries := (d.lamp l).retries + 1, retryTimer := none }) (lampsKept_driverChanged ..)

theorem lampRetry_locks (h : ¬(d.lamp l).retries < 3) :
    LampChanged l { d.lamp l with driver := .lockedOff, retryTimer := none } d (lampRetry l d) := by
  rw [lampRetry, if_neg h]
  exact LampsKept.lampChanged (f := fun r => { r with driver := .lockedOff, retryTimer := none })
    (lampsKept_driverChanged ..)

/-- Settles O30: a retry, or a lock, is one change of the lamp's driver. -/
theorem retryExpiryRetriesOrLocks : Obligations.RetryExpiryRetriesOrLocks := by
  intro s l t ht
  let d := s.dev.advanceTo t
  have runs : Runs (.retryTimerExpiry l) s (lampRetry l d) :=
    .of_event rfl (show onExpiry (s.dev.lamp l).retryTimer (lampRetry l) s.dev = _ by rw [ht, onExpiry_some])
  have told : Told 1 { s.dev with clock := max s.dev.clock t } (lampRetry l d) := told_lampRetry l (.refl 1 d)
  by_cases hr : (s.dev.lamp l).retries < 3
  · have h := lampRetry_retries (d := d) hr
    exact ⟨_, runs, told, h.retryTimer, h.others, fun _ => ⟨h.driver, h.retries⟩, fun h' => absurd hr (by omega)⟩
  · have h := lampRetry_locks (d := d) hr
    exact ⟨_, runs, told, h.retryTimer, h.others, fun h' => absurd h' hr, fun _ => ⟨h.driver, h.cut rfl, h.retries⟩⟩

/-! ## What a lamp senses (R91) -/

/-- The record of a lamp with what it senses taken: a current while its output is on, a readback while it is off. -/
def LampRec.sensed (sense : LampSense) (r : LampRec) : LampRec :=
  { r with
    currentOk := match sense with
      | .current milliamps => if r.output then decide (5 ≤ milliamps) else r.currentOk
      | .readback _ => r.currentOk
    pinHigh := match sense with
      | .current _ => r.pinHigh
      | .readback high => if r.output then r.pinHigh else high }

theorem lampSensed_eq (sense : LampSense) (d : Dev) : lampSensed l sense d = lampUpdate l (LampRec.sensed sense) d := by
  refine congrArg (lampUpdate l · d) (funext fun r => ?_)
  cases sense <;> cases h : r.output <;> simp [LampRec.sensed, h] <;> simp [← h]

/-- An update of a lamp whose output is as R90 has it: the record, and its diagnosis timer stopped where nothing is
judged. -/
theorem lampWritten_still {f : LampRec → LampRec} (h : lampOn d (f (d.lamp l)) = (f (d.lamp l)).output) :
    lampWritten d l f = { f (d.lamp l) with diagTimer := (lampWritten d l f).diagTimer } ∧
      (lampJudged d (f (d.lamp l)) = none → (lampWritten d l f).diagTimer = none) := by
  have written : ∃ t, lampWritten d l f = { f (d.lamp l) with diagTimer := t } ∧
      (lampJudged d (f (d.lamp l)) = none → t = none) := by
    unfold lampWritten
    rw [lampUpdate, setLamp_lamp, if_pos rfl]
    dsimp only
    rw [switchOutput_same h]
    exact ⟨_, rfl, fun hj => by rw [hj]; rfl⟩
  obtain ⟨t, ht, hj⟩ := written
  rw [ht]
  exact ⟨rfl, hj⟩

theorem lampOn_sensed (d : Dev) (sense : LampSense) (r : LampRec) : lampOn d (r.sensed sense) = lampOn d r := rfl

theorem lampJudged_ok_on {r : LampRec} (hd : r.driver = .ok) (ho : r.output = true) (hh : r.heldOver = false)
    (hc : r.currentOk = true) : lampJudged d r = none := by
  simp [lampJudged, hd, ho, hh, hc]

theorem lampJudged_ok_off {r : LampRec} (hd : r.driver = .ok) (ho : r.output = false) (hp : r.pinHigh = true) :
    lampJudged d r = none := by
  simp [lampJudged, hd, ho, hp]

/-- Settles O31: a sense is one update of the lamp, which keeps its output. -/
theorem lampSenseIsTaken : Obligations.LampSenseIsTaken := by
  intro s l sense r
  have self : (lampSensed l sense s.dev).lamp l = lampWritten s.dev l (LampRec.sensed sense) := by
    rw [lampSensed_eq, lampUpdate_lamp_self]
  refine ⟨_, .of_event rfl rfl, rfl, rfl, ?_, fun k hk => ?_, fun h => ?_⟩
  · rw [self, lampWritten_eq]
    rfl
  · rw [lampSensed_eq, lampUpdate_lamp_ne _ _ hk.symm]
  · obtain ⟨written, timer⟩ := lampWritten_still (f := LampRec.sensed sense) ((lampOn_sensed ..).trans h)
    rw [self]
    refine ⟨written, fun hd ho hh hc => timer (lampJudged_ok_on hd ho hh ?_),
      fun hd ho hp => timer (lampJudged_ok_off hd ho ?_)⟩
    · rw [← hc, written]
    · rw [← hp, written]

/-! ## The player's events (R99-R101) -/

theorem highWaits_iff : highWaits d = true ↔ d.wrn.test.isSome = true ∨ ∃ q ∈ d.wrn.requests, q.high = true := by
  simp [highWaits, chimeGroup, List.filter_eq_nil_iff]

/-- Settles O32: the branches of `playStep` and `playEnd`. -/
theorem chimeStepPlaysPattern : Obligations.ChimeStepPlaysPattern := by
  intro s p hp now silence n preempted
  let d := s.dev.advanceTo p.deadline
  have run {e : Dev} (h : playStep p d = e) : Runs .chimePlayerStep s e := by
    refine .of_event (f := playerEnd) rfl ?_
    simp only [playerEnd, hp]
    exact h
  have hpre : (p.beeping && !p.high && highWaits d) = true ↔ preempted := by
    rw [Bool.and_eq_true, Bool.and_eq_true, highWaits_iff, Bool.not_eq_true']
    exact ⟨fun ⟨⟨hb, hh⟩, hw⟩ => ⟨hh, hb, hw⟩, fun ⟨hh, hb, hw⟩ => ⟨⟨hb, hh⟩, hw⟩⟩
  have ends (h : ¬preempted) (hn : n ≤ p.segment + 1) : playStep p d = playEnd p d := by
    rw [playStep, if_neg (mt hpre.1 h), if_neg (by exact Nat.not_lt.2 hn)]
  refine ⟨fun h => run (if_pos (hpre.2 h)), fun h hn => run ?_, fun h hn hw => run ((ends h hn).trans ?_), ?_, ?_⟩
  · exact (if_neg (mt hpre.1 h)).trans (if_pos hn)
  · simp only [playEnd, hw]
    rfl
  · rintro w h hn hw hpat ⟨q, hq, heq⟩
    refine run ((ends h hn).trans ?_)
    have listed : chimeRequest d w = some q := hq
    simp only [playEnd, hw, listed]
    rw [if_pos (by simpa [heq] using hpat)]
    rfl
  · intro w h hn hw hpat
    refine run ((ends h hn).trans ?_)
    simp only [playEnd, hw]
    cases chimeRequest d w with
    | none => rfl
    | some q => exact if_neg (by simp [hpat])

/-! ## The grant (R99) -/

/-- A lowest request of a list: one of it, of no higher warning number than any of it. -/
def Lowest (rs : List ChimeRequest) (q : ChimeRequest) : Prop := q ∈ rs ∧ ∀ v ∈ rs, q.warning ≤ v.warning

theorem lowest_cons {rs : List ChimeRequest} {q r : ChimeRequest} (h : Lowest rs q) :
    Lowest (r :: rs) (if r.warning < q.warning then r else q) := by
  obtain ⟨hmem, hle⟩ := h
  split
  next hr =>
    refine ⟨List.mem_cons_self, fun v hv => ?_⟩
    rcases List.mem_cons.1 hv with rfl | hv
    · exact le_refl _
    · exact hr.le.trans (hle v hv)
  next hr =>
    refine ⟨List.mem_cons_of_mem _ hmem, fun v hv => ?_⟩
    rcases List.mem_cons.1 hv with rfl | hv
    · exact not_lt.1 hr
    · exact hle v hv

theorem lowest_perm {rs rs' : List ChimeRequest} {q : ChimeRequest} (h : Lowest rs q) (hp : rs.Perm rs') :
    Lowest rs' q := ⟨hp.subset h.1, fun v hv => h.2 v (hp.symm.subset hv)⟩

theorem lowestRequest_fold {seen rs : List ChimeRequest} {q : ChimeRequest} (h : Lowest seen q) :
    ∃ q', rs.foldl (fun best r => match best with
      | some b => if r.warning < b.warning then some r else best
      | none => some r) (some q) = some q' ∧ Lowest (seen ++ rs) q' := by
  induction rs generalizing seen q with
  | nil => exact ⟨q, rfl, by simpa using h⟩
  | cons r rs ih =>
    obtain ⟨q', hq', hl⟩ := ih (lowest_cons (r := r) h)
    refine ⟨q', ?_, lowest_perm hl List.perm_middle.symm⟩
    rw [← hq', List.foldl_cons]
    dsimp only
    split <;> rfl

theorem lowestRequest_cons (r : ChimeRequest) (rs : List ChimeRequest) :
    ∃ q, lowestRequest (r :: rs) = some q ∧ Lowest (r :: rs) q := by
  have single : Lowest [r] r := ⟨List.mem_cons_self, fun v hv => (List.mem_singleton.1 hv).symm ▸ le_refl _⟩
  exact lowestRequest_fold (rs := rs) single

theorem lowestRequest_some {rs : List ChimeRequest} (h : rs ≠ []) : ∃ q, lowestRequest rs = some q ∧ Lowest rs q := by
  cases rs with
  | nil => exact absurd rfl h
  | cons r rs => exact lowestRequest_cons r rs

theorem chimeNext_nil (last : Option (Fin 64)) : chimeNext [] last = none := by
  cases last <;> rfl

/-- A request comes first of a list, round-robin from the last grant (R99). -/
def ComesFirst (rs : List ChimeRequest) (last : Option (Fin 64)) (q : ChimeRequest) : Prop :=
  ∀ v ∈ rs, match last with
    | none => q.warning ≤ v.warning
    | some l => (l < q.warning ∧ (l < v.warning → q.warning ≤ v.warning)) ∨
        (q.warning ≤ l ∧ v.warning ≤ l ∧ q.warning ≤ v.warning)

theorem chimeNext_some {rs : List ChimeRequest} (h : rs ≠ []) (last : Option (Fin 64)) :
    ∃ q, chimeNext rs last = some q ∧ q ∈ rs ∧ ComesFirst rs last q := by
  cases last with
  | none =>
    obtain ⟨q, hq, hmem, hle⟩ := lowestRequest_some h
    exact ⟨q, hq, hmem, hle⟩
  | some l =>
    unfold chimeNext
    dsimp only
    by_cases above : rs.filter (fun r => decide (l < r.warning)) = []
    · obtain ⟨q, hq, hmem, hle⟩ := lowestRequest_some h
      have below : ∀ v ∈ rs, v.warning ≤ l := by simpa [List.filter_eq_nil_iff] using above
      refine ⟨q, ?_, hmem, fun v hv => .inr ⟨below q hmem, below v hv, hle v hv⟩⟩
      rw [above]
      exact hq
    · obtain ⟨q, hq, hmem, hle⟩ := lowestRequest_some above
      obtain ⟨hmem, hlt⟩ := List.mem_filter.1 hmem
      refine ⟨q, ?_, hmem, fun v hv => .inl ⟨of_decide_eq_true hlt, fun hv' => hle v ?_⟩⟩
      · rw [hq]
      · exact List.mem_filter.2 ⟨hv, decide_eq_true hv'⟩

theorem mem_chimeGroup {q : ChimeRequest} {high : Bool} :
    q ∈ chimeGroup d high ↔ q ∈ d.wrn.requests ∧ q.high = high := by
  simp [chimeGroup]

/-- A group that holds a request grants one that comes first. -/
theorem chimeNext_group {high : Bool} (h : ∃ q ∈ d.wrn.requests, q.high = high) (last : Option (Fin 64)) :
    ∃ q ∈ d.wrn.requests, q.high = high ∧ chimeNext (chimeGroup d high) last = some q ∧
      ComesFirst (chimeGroup d high) last q := by
  obtain ⟨q, hq, hh⟩ := h
  obtain ⟨q', hn, hmem, hf⟩ := chimeNext_some (List.ne_nil_of_mem (mem_chimeGroup.2 ⟨hq, hh⟩)) last
  exact ⟨q', (mem_chimeGroup.1 hmem).1, (mem_chimeGroup.1 hmem).2, hn, hf⟩

theorem chimeGroup_none {high : Bool} (h : ∀ q ∈ d.wrn.requests, q.high ≠ high) : chimeGroup d high = [] :=
  List.eq_nil_iff_forall_not_mem.2 fun q hq => h q (mem_chimeGroup.1 hq).1 (mem_chimeGroup.1 hq).2

theorem chimeArbitrate_test {q : ChimeTest} (h : d.wrn.test = some q) :
    chimeArbitrate d = startPlay none q.pattern true q.highTone d.wrn.lastLow d := by
  simp only [chimeArbitrate, h]

theorem chimeArbitrate_high {q : ChimeRequest} (h : d.wrn.test = none)
    (hq : chimeNext (chimeGroup d true) d.wrn.lastHigh = some q) : chimeArbitrate d = grantRequest q d := by
  simp only [chimeArbitrate, h, hq]

theorem chimeArbitrate_low {q : ChimeRequest} (h : d.wrn.test = none) (hh : chimeGroup d true = [])
    (hq : chimeNext (chimeGroup d false) d.wrn.lastLow = some q) : chimeArbitrate d = grantRequest q d := by
  simp only [chimeArbitrate, h, hh, chimeNext_nil, hq]

theorem chimeArbitrate_none (h : d.wrn.test = none) (hr : d.wrn.requests = []) : chimeArbitrate d = d := by
  simp only [chimeArbitrate, h, chimeGroup, hr, List.filter_nil, chimeNext_nil]

/-- The silence's end with the chime enabled is a grant to an idle player. -/
theorem silenceEnd_eq (hm : d.mod.mode = .run ∨ d.mod.mode = .service) (hs : d.mod.supply = .on) :
    silenceEnd d = chimeArbitrate (setPlayer .idle d) := by
  have enabled : chimeEnabled (setPlayer .idle d) = true := by
    rcases hm with hm | hm <;> simp [chimeEnabled, setPlayer, hm, hs, Mode.drives]
  rw [silenceEnd, chimeGrant, enabled]
  rfl

/-- Settles O33: the arbiter's three branches, with the list's round-robin. -/
theorem silenceEndGrantsAfresh : Obligations.SilenceEndGrantsAfresh := by
  intro s t hp hm hs now first play
  let d := setPlayer .idle (s.dev.advanceTo t)
  have run {e : Dev} (h : chimeArbitrate d = e) : Runs .chimeSilenceEnd s e := by
    refine .of_event (f := silenceOver) rfl ?_
    simp only [silenceOver, hp]
    exact (silenceEnd_eq (d := s.dev.advanceTo t) hm hs).trans h
  have comes {q : ChimeRequest} {last : Option (Fin 64)} (h : ComesFirst (chimeGroup d q.high) last q) :
      first q last := by
    intro v hv hh
    have := h v (mem_chimeGroup.2 ⟨hv, hh⟩)
    cases last <;> exact this
  refine ⟨fun q hq => run (chimeArbitrate_test hq), fun ht hr => run (chimeArbitrate_none ht hr),
    fun ht hh => ?_, fun ht hl hr => ?_⟩
  · obtain ⟨q, hmem, hhigh, hn, hf⟩ := chimeNext_group (d := d) hh d.wrn.lastHigh
    refine ⟨q, hmem, hhigh, comes (hhigh ▸ hf), run ((chimeArbitrate_high (d := d) ht hn).trans ?_)⟩
    rw [grantRequest, if_pos hhigh, hhigh]
    rfl
  · obtain ⟨q, hmem⟩ := List.exists_mem_of_ne_nil _ hr
    have none_high : chimeGroup d true = [] := chimeGroup_none fun q hq => by rw [hl q hq]; exact Bool.false_ne_true
    obtain ⟨q, hmem, hlow, hn, hf⟩ := chimeNext_group (d := d) ⟨q, hmem, hl q hmem⟩ d.wrn.lastLow
    refine ⟨q, hmem, hlow, comes (hlow ▸ hf), run ((chimeArbitrate_low (d := d) ht none_high hn).trans ?_)⟩
    rw [grantRequest, if_neg (by rw [hlow]; exact Bool.false_ne_true), hlow]
    rfl

end Sys2Proof.Machine
end

section
/-! SUPPORT. The requests that write to WRN and GAU, and the loss of the link; with them the statements
`Obligations.SetLampsDemandsLamps` (O53), `Obligations.OutputTestsActInService` (O54),
`Obligations.AckWarningsAcknowledges` (O52) and `Obligations.LinkTimerExpiryLosesLink` (O45). -/

namespace Sys2Proof.Machine
variable {d e : Dev} {l : Fin 24} {w : Fin 64}

/-! ## The demand of a lamp (R89) -/

theorem anyMapped_iff {p : WarningCfg → WarningRec → Bool} : anyMapped d l p = true ↔
    ∃ w : Fin 64, (d.wrn.cfg[w].enabled = true ∧ d.wrn.cfg[w].lamp = some l.val) ∧
      p d.wrn.cfg[w] (d.warning w) = true := by
  simp [anyMapped, Dev.warning]

theorem unacknowledged_iff {st : WarningState} :
    st.unacknowledged = true ↔ st = .activeNew ∨ st = .clearedUnacked := by
  cases st <;> simp [WarningState.unacknowledged]

theorem not_shown_iff {st : WarningState} : st.shown = false ↔ st = .inactive ∨ st = .pendingOn := by
  cases st <;> simp [WarningState.shown]

theorem lampDemand_flashing_iff : lampDemand d l = .flashing ↔
    ∃ w : Fin 64, (d.wrn.cfg[w].enabled = true ∧ d.wrn.cfg[w].lamp = some l.val) ∧ d.wrn.cfg[w].flash = true ∧
      ((d.warning w).state = .activeNew ∨ (d.warning w).state = .clearedUnacked) := by
  have flashes : lampDemand d l = .flashing ↔
      anyMapped d l (fun c r => c.flash && r.state.unacknowledged) = true := by
    unfold lampDemand
    split_ifs with h h' <;> simp [h]
  rw [flashes, anyMapped_iff]
  simp only [Bool.and_eq_true, unacknowledged_iff]

theorem lampDemand_off_iff : lampDemand d l = .off ↔ (d.lamp l).hostBit = false ∧
    ∀ w : Fin 64, d.wrn.cfg[w].enabled = true ∧ d.wrn.cfg[w].lamp = some l.val →
      (d.warning w).state = .inactive ∨ (d.warning w).state = .pendingOn := by
  have unshown : anyMapped d l (fun _ r => r.state.shown) = false ↔
      ∀ w : Fin 64, d.wrn.cfg[w].enabled = true ∧ d.wrn.cfg[w].lamp = some l.val →
        (d.warning w).state = .inactive ∨ (d.warning w).state = .pendingOn := by
    rw [← Bool.not_eq_true, anyMapped_iff]
    simp only [not_exists, not_and, Bool.not_eq_true, not_shown_iff]
  rw [← unshown]
  unfold lampDemand
  split_ifs with h h'
  · obtain ⟨w, hw, hp⟩ := anyMapped_iff.1 h
    refine iff_of_false nofun fun ⟨_, hs⟩ => ?_
    have := unshown.1 hs w hw
    rw [Bool.and_eq_true, unacknowledged_iff] at hp
    rcases this with h | h <;> simp [h] at hp
  · exact iff_of_false nofun fun ⟨h₁, h₂⟩ => by simp [h₁, h₂] at h'
  · simpa using h'

theorem LampsOnly.cfg (h : LampsOnly d e) : e.wrn.cfg = d.wrn.cfg := by rw [h]

theorem LampsOnly.warning (h : LampsOnly d e) (w : Fin 64) : e.warning w = d.warning w :=
  warning_of_wrn (by rw [h]) w

theorem LampsOnly.requests (h : LampsOnly d e) : e.lnk.requests = d.lnk.requests := by rw [h]

/-- An answer after a change of the lamps. -/
theorem LampsOnly.replied {f : Frame} {p : List Byte} (h : LampsOnly (taken f d) e) :
    replied f p e = { replied f p (taken f d) with wrn := { d.wrn with lamps := e.wrn.lamps } } := by
  unfold LampsOnly at h
  rw [h]
  rfl

/-! ## SET_LAMPS (R89) -/

/-- One lamp's part of SET_LAMPS. -/
def lampBitSet (bits : Nat) (l : Fin 24) (d : Dev) : Dev :=
  lampDemandRefresh l (d.setLamp l { d.lamp l with hostBit := bits.testBit l })

theorem lampsOnly_lampBitSet (bits : Nat) (l : Fin 24) (d : Dev) : LampsOnly d (lampBitSet bits l d) := rfl

theorem lampBitSet_lamp (bits : Nat) (l : Fin 24) (d : Dev) :
    ((lampBitSet bits l d).lamp l).hostBit = bits.testBit l ∧
      ((lampBitSet bits l d).lamp l).demand = lampDemand (d.setLamp l { d.lamp l with hostBit := bits.testBit l }) l ∧
      ((lampBitSet bits l d).lamp l).driver = (d.lamp l).driver ∧
      ((lampBitSet bits l d).lamp l).force = (d.lamp l).force := by
  have self : (d.setLamp l { d.lamp l with hostBit := bits.testBit l }).lamp l =
      { d.lamp l with hostBit := bits.testBit l } := (setLamp_lamp ..).trans (if_pos rfl)
  have written := (lampUpdate_lamp_self l _ _).trans (lampWritten_eq (d.setLamp l
    { d.lamp l with hostBit := bits.testBit l }) l fun r =>
      { r with demand := lampDemand (d.setLamp l { d.lamp l with hostBit := bits.testBit l }) l })
  rw [self] at written
  unfold lampBitSet lampDemandRefresh
  rw [written]
  exact ⟨rfl, rfl, rfl, rfl⟩

theorem lampBitSet_lamp_ne (bits : Nat) {l k : Fin 24} (d : Dev) (h : l ≠ k) :
    (lampBitSet bits l d).lamp k = d.lamp k := by
  rw [lampBitSet, lampDemandRefresh, lampUpdate_lamp_ne _ _ h, setLamp_lamp, if_neg h]

theorem lampBits_three (a b c : Byte) : lampBits [a, b, c] = a.toNat * 65536 + b.toNat * 256 + c.toNat :=
  (Nat.add_assoc ..).symm

theorem ownSetLamps_eq (tag : Byte) (p : List Byte) (d : Dev) :
    ownSetLamps tag p d = lnkAnswer tag [0#8] (forEach 24 (lampBitSet (lampBits p)) d) := rfl

/-- Every lamp takes its bit, and its demand follows (R89). -/
theorem forEach_lampBitSet (bits : Nat) (d : Dev) : ∃ e, forEach 24 (lampBitSet bits) d = e ∧ LampsOnly d e ∧
    ∀ l : Fin 24, (e.lamp l).hostBit = bits.testBit l ∧
      ((e.lamp l).demand = .flashing ↔
        ∃ w : Fin 64, (d.wrn.cfg[w].enabled = true ∧ d.wrn.cfg[w].lamp = some l.val) ∧ d.wrn.cfg[w].flash = true ∧
          ((d.warning w).state = .activeNew ∨ (d.warning w).state = .clearedUnacked)) ∧
      ((e.lamp l).demand = .off ↔ bits.testBit l = false ∧
        ∀ w : Fin 64, d.wrn.cfg[w].enabled = true ∧ d.wrn.cfg[w].lamp = some l.val →
          (d.warning w).state = .inactive ∨ (d.warning w).state = .pendingOn) ∧
      (e.lamp l).driver = (d.lamp l).driver ∧ (e.lamp l).force = (d.lamp l).force := by
  refine ⟨_, rfl, .forEach (lampsOnly_lampBitSet bits) d, fun l => ?_⟩
  obtain ⟨e, he, hl, hlast⟩ := forEach_lamp (lampsOnly_lampBitSet bits) (fun i e k => lampBitSet_lamp_ne bits e) d l
  obtain ⟨hbit, hdemand, hdriver, hforce⟩ := lampBitSet_lamp bits l e
  have only : LampsOnly d (e.setLamp l { d.lamp l with hostBit := bits.testBit l }) :=
    he.trans (lampsOnly_setLamp ..)
  rw [hlast, hdemand, hbit, hdriver, hforce, hl, lampDemand_flashing_iff, lampDemand_off_iff, setLamp_lamp,
    if_pos rfl, only.cfg]
  simp only [only.warning, and_self]

/-- Settles O53: a host bit is written to each lamp in turn, and its demand follows. -/
theorem setLampsDemandsLamps : Obligations.SetLampsDemandsLamps := by
  intro s tag a b c f bits mapped h
  obtain ⟨e, he, only, hlamp⟩ := forEach_lampBitSet bits (taken f s.dev)
  have hown : ownSetLamps tag [a, b, c] (taken f s.dev) = lnkAnswer tag [0#8] e := by
    rw [ownSetLamps_eq, lampBits_three, he]
  exact ⟨_, .of_effect (f := f) rfl h hown only.requests, only.replied, hlamp⟩

/-! ## OUTPUT_TEST (R71, R72, R96, R104) -/

/-- An answer of one status byte and nothing else. -/
theorem Runs.of_refusal {c : Instr} {s : State} {f : Frame} {owner : Dev → Dev} {st : Status}
    (hc : exec c s = .next (s.event (onFrame f owner))) (h : served s.dev f = true)
    (ho : owner (taken f s.dev) = refuse f.tag st (taken f s.dev)) :
    Runs c s (replied f [st.code] (taken f s.dev)) := .of_answer hc h ho rfl

theorem gaugeCfg_full_nonneg (d : Dev) (g : Fin 6) : ((d.gaugeCfg g).full.toNat : Int) = (d.gaugeCfg g).full := rfl

theorem clamp_full (d : Dev) (g : Fin 6) (n : Nat) :
    clamp 0 (d.gaugeCfg g).full n = (min (d.gaugeCfg g).full.toNat n : Nat) := by
  rw [← gaugeCfg_full_nonneg, clamp]
  omega

theorem beInt16_natCast (n : Nat) : beInt16 (n : Int) = be16 n := by
  have low : twos16 (n : Int) = n % 65536 := by
    unfold twos16
    omega
  have byte_mod {a b : Nat} (h : a % 256 = b % 256) : byte a = byte b := BitVec.eq_of_toNat_eq h
  rw [beInt16, low, be16, be16, byte_mod (a := n % 65536 / 256) (b := n / 256) (by omega),
    byte_mod (a := n % 65536) (b := n) (by omega)]

/-- A gauge that follows its source or an override. -/
def GaugeState.follows (st : GaugeState) : Prop := st = .tracking ∨ st = .invalid ∨ st = .override

theorem testGauge_refused {tag : Byte} {g : Fin 6} {release : Bool} {angle : Nat} (h : ¬(d.gauge g).state.follows) :
    testGauge tag g release angle d = refuse tag .refusedCondition d := by
  unfold testGauge
  cases hs : (d.gauge g).state <;> simp [hs, GaugeState.follows] at h <;> rfl

theorem testGauge_release {tag : Byte} {g : Fin 6} {angle : Nat} (h : (d.gauge g).state.follows) :
    testGauge tag g true angle d =
      answer tag [0#8] (if (d.gauge g).state == .override then endOverride g d else d) := by
  unfold testGauge
  rcases h with h | h | h <;> rw [h] <;> rfl

theorem testGauge_angle {tag : Byte} {g : Fin 6} {angle : Nat} (h : (d.gauge g).state.follows) :
    testGauge tag g false angle d = answer tag (0#8 :: beInt16 (clamp 0 (d.gaugeCfg g).full angle))
      (gaugeOverride g (clamp 0 (d.gaugeCfg g).full angle) d) := by
  unfold testGauge
  rcases h with h | h | h <;> rw [h] <;> rfl

/-- The record of a gauge whose override has ended (R72). -/
def endedOverride (d : Dev) (c : GaugeCfg) (r : GaugeRec) : GaugeRec :=
  deriveTarget d c { r with overrideAngle := none, target := r.position }

theorem endOverride_gauge {g : Fin 6} (h : (d.gauge g).state = .override) (k : Fin 6) : (endOverride g d).gauge k =
    if g = k then (endedOverride d (d.gaugeCfg g) (d.gauge g)).written else d.gauge k := by
  unfold endOverride
  rw [gaugeChange_gauge]
  simp only [h, beq_self_eq_true, if_true]
  rfl

theorem deriveTarget_state (d : Dev) (c : GaugeCfg) (r : GaugeRec) :
    (deriveTarget d c r).state = .tracking ∨ (deriveTarget d c r).state = .invalid := by
  unfold deriveTarget
  split
  exacts [.inl rfl, .inr rfl]

theorem deriveTarget_keeps (d : Dev) (c : GaugeCfg) (r : GaugeRec) :
    (deriveTarget d c r).overrideAngle = r.overrideAngle ∧ (deriveTarget d c r).position = r.position := by
  unfold deriveTarget
  split <;> exact ⟨rfl, rfl⟩

theorem endOverride_self {g : Fin 6} (h : (d.gauge g).state = .override) :
    ((endOverride g d).gauge g).overrideAngle = none ∧
      ((endOverride g d).gauge g).position = (d.gauge g).position ∧
      (((endOverride g d).gauge g).state = .tracking ∨ ((endOverride g d).gauge g).state = .invalid) := by
  have state := deriveTarget_state d (d.gaugeCfg g)
    { d.gauge g with overrideAngle := none, target := (d.gauge g).position }
  obtain ⟨angle, position⟩ := deriveTarget_keeps d (d.gaugeCfg g)
    { d.gauge g with overrideAngle := none, target := (d.gauge g).position }
  rw [endOverride_gauge h, if_pos rfl, GaugeRec.written_driven]
  · exact ⟨angle, position, state⟩
  · rcases state with state | state <;> exact congrArg GaugeState.driven state

theorem gaugeOverride_gauge (g k : Fin 6) (a : Int) (d : Dev) : (gaugeOverride g a d).gauge k =
    if g = k then { d.gauge g with overrideAngle := some a, target := a, state := .override } else d.gauge k := by
  rw [gaugeOverride, gaugeChange_gauge]
  rfl

section
variable {tag x y z v : Byte}

theorem ownTestGauge_eq {g : Fin 6} (hx : x.toNat = g.val) (he : (d.gaugeCfg g).enabled = true) (hy : y.toNat ≤ 1) :
    ownTestGauge tag [x, y, z, v] d = testGauge tag g (y.toNat == 1) (z.toNat * 256 + v.toNat) d := by
  have hlt : x.toNat < 6 := hx ▸ g.isLt
  obtain rfl : g = ⟨x.toNat, hlt⟩ := Fin.ext hx.symm
  refine (dif_pos (by exact hlt)).trans (if_pos ?_)
  rw [Bool.and_eq_true, decide_eq_true_eq]
  exact ⟨he, hy⟩

theorem ownTestGauge_number (h : 6 ≤ x.toNat) : ownTestGauge tag [x, y, z, v] d = refuse tag .badArgument d :=
  dif_neg (by exact Nat.not_lt.2 h)

theorem ownTestGauge_other (h : (∃ g : Fin 6, x.toNat = g.val ∧ (d.gaugeCfg g).enabled = false) ∨ 1 < y.toNat) :
    ownTestGauge tag [x, y, z, v] d = refuse tag .badArgument d := by
  by_cases hx : x.toNat < 6
  · refine (dif_pos (by exact hx)).trans (if_neg ?_)
    rw [Bool.and_eq_true, decide_eq_true_eq]
    rintro ⟨he, hy⟩
    rcases h with ⟨g, hg, hoff⟩ | h
    · obtain rfl : g = ⟨x.toNat, hx⟩ := Fin.ext hg.symm
      exact Bool.false_ne_true (hoff.symm.trans he)
    · exact absurd hy (Nat.not_le.2 h)
  · exact ownTestGauge_number (Nat.not_lt.1 hx)

/-- A change told to the other blocks, then the answer. -/
theorem Runs.of_told {c : Instr} {s : State} {f : Frame} {owner : Dev → Dev} {p : List Byte} {n : Nat}
    (hc : exec c s = .next (s.event (onFrame f owner))) (h : served s.dev f = true)
    (ho : owner (taken f s.dev) = lnkAnswer f.tag p e) (ht : Told n (taken f s.dev) e) :
    Runs c s (replied f p e) := .of_effect hc h ho (by rw [ht.lnk])

/-- What an answer after a change told to the other blocks leaves as it was. -/
theorem Told.replied {f : Frame} {p : List Byte} {n : Nat} (h : Told n (taken f d) e) :
    (replied f p e).lnk.requests = (taken f d).lnk.requests ∧
      (replied f p e).lnk.replies = d.lnk.replies ++ [⟨f.kind + 0x80#8, f.tag, p, false⟩] ∧
      (replied f p e).clock = d.clock ∧ (replied f p e).seq = d.seq ∧ (replied f p e).sig = d.sig ∧
      (replied f p e).dor = d.dor ∧ (replied f p e).cal = d.cal ∧ (replied f p e).mod = d.mod := by
  have lnk : e.lnk.requests = (taken f d).lnk.requests ∧ e.lnk.replies = d.lnk.replies := by
    rw [h.lnk]
    exact ⟨rfl, rfl⟩
  refine ⟨lnk.1, ?_, h.clock, h.seq, h.sig, h.dor, h.cal, h.mod⟩
  rw [← lnk.2]
  rfl

/-- The gauge, lamp and chime items refuse and act on the request as it was taken. -/
theorem ownTestLamp_eq (hx : x.toNat = l.val) : ownTestLamp tag [x, y, z, v] d =
    match lampAction y.toNat with
    | none => refuse tag .badArgument d
    | some force =>
      if force.isSome && !(d.lamp l).driver.lets then refuse tag .refusedCondition d
      else answer tag [0#8] (lampUpdate l (fun r => { r with force := force }) d) := by
  have hlt : x.toNat < 24 := hx ▸ l.isLt
  obtain rfl : l = ⟨x.toNat, hlt⟩ := Fin.ext hx.symm
  exact dif_pos (by exact hlt)

/-- The force a lamp action asks for (section 11.4). -/
def actionForce (y : Byte) : Option Bool := if y = 2#8 then none else some (y == 1#8)

theorem lampAction_le_two (h : y.toNat ≤ 2) : lampAction y.toNat = some (actionForce y) := by
  have : y = 0#8 ∨ y = 1#8 ∨ y = 2#8 := by
    have : y.toNat = 0 ∨ y.toNat = 1 ∨ y.toNat = 2 := by omega
    exact this.imp BitVec.eq_of_toNat_eq (·.imp BitVec.eq_of_toNat_eq BitVec.eq_of_toNat_eq)
  rcases this with rfl | rfl | rfl <;> rfl

theorem actionForce_le_one (h : y.toNat ≤ 1) : actionForce y = some (y == 1#8) :=
  if_neg fun h2 => absurd h (by rw [h2]; decide)

theorem ownTestLamp_cut (hx : x.toNat = l.val) (hy : y.toNat ≤ 1) (hl : (d.lamp l).driver.lets = false) :
    ownTestLamp tag [x, y, z, v] d = refuse tag .refusedCondition d := by
  rw [ownTestLamp_eq hx, lampAction_le_two (hy.trans (by decide))]
  exact if_pos (by rw [actionForce_le_one hy, hl]; rfl)

theorem ownTestLamp_forces (hx : x.toNat = l.val)
    (hy : y.toNat = 2 ∨ (y.toNat ≤ 1 ∧ (d.lamp l).driver.lets = true)) : ownTestLamp tag [x, y, z, v] d =
      answer tag [0#8] (lampUpdate l (fun r => { r with force := actionForce y }) d) := by
  have le_two : y.toNat ≤ 2 := by omega
  rw [ownTestLamp_eq hx, lampAction_le_two le_two]
  refine if_neg ?_
  rcases hy with hy | ⟨-, hl⟩
  · rw [show y = 2#8 from BitVec.eq_of_toNat_eq hy]
    exact Bool.false_ne_true
  · simp [hl]

theorem lampAction_none {n : Nat} (h : 2 < n) : lampAction n = none := by
  unfold lampAction
  split <;> simp_all

theorem ownTestLamp_refused (h : 24 ≤ x.toNat ∨ 2 < y.toNat) :
    ownTestLamp tag [x, y, z, v] d = refuse tag .badArgument d := by
  by_cases hx : x.toNat < 24
  · rw [ownTestLamp_eq (l := ⟨x.toNat, hx⟩) rfl, lampAction_none (h.resolve_left (Nat.not_le.2 hx))]
  · exact dif_neg (by exact hx)

/-- In SERVICE a forced lamp whose driver lets it is as its force has it, while WRN runs with the supply ON (R96). -/
theorem lampOn_forced {r : LampRec} {b : Bool} (hm : d.mod.mode = .service) (hl : r.driver.lets = true)
    (hf : r.force = some b) :
    lampOn d r = true ↔ b = true ∧ d.wrn.flash.isSome = true ∧ d.mod.supply = .on := by
  simp [lampOn, lampModeRule, wrnRunning, hm, hl, hf, and_comm]

theorem chimePlaceTest_idle {t : ChimeTest} (hp : d.wrn.player = .idle) (hm : d.mod.mode = .service)
    (hs : d.mod.supply = .on) : chimePlaceTest t d = { d with wrn := { d.wrn with
      test := some t
      player := .playing ⟨none, t.pattern, true, t.highTone, 0,
        d.clock + (t.pattern.segments.getD 0 (false, 0)).2, d.wrn.lastLow⟩ } } := by
  simp only [chimePlaceTest, chimeArrival, hp, chimeGrant, chimeEnabled, hm, hs]
  rfl

theorem chimePlaceTest_gap {t : ChimeTest} {p : Play} (hp : d.wrn.player = .playing p) (hl : p.high = false)
    (hb : p.beeping = false) : chimePlaceTest t d = { d with wrn := { d.wrn with
      test := some t, lastLow := p.lowBefore, player := .silence (d.clock + 200000) } } := by
  simp only [chimePlaceTest, chimeArrival, hp]
  exact if_pos (by simp [hl, hb, highWaits])

theorem chimePlaceTest_waits {t : ChimeTest} (h : (∃ at_, d.wrn.player = .silence at_) ∨
    ∃ p, d.wrn.player = .playing p ∧ (p.high = true ∨ p.beeping = true)) :
    chimePlaceTest t d = { d with wrn := { d.wrn with test := some t } } := by
  rcases h with ⟨at_, hp⟩ | ⟨p, hp, h⟩ <;> simp only [chimePlaceTest, chimeArrival, hp]
  exact if_neg (by rcases h with h | h <;> simp [h])

theorem testPattern_code {pattern : Chime} (h : pattern ≠ .none) (hx : x = byte pattern.code) :
    testPattern x.toNat = some pattern := by
  subst hx
  cases pattern <;> first | exact absurd rfl h | rfl

theorem testTone_bit (h : y.toNat ≤ 1) : testTone y.toNat = some (y == 1#8) := by
  have : y = 0#8 ∨ y = 1#8 := by
    rcases Nat.le_one_iff_eq_zero_or_eq_one.1 h with h | h
    · exact .inl (BitVec.eq_of_toNat_eq h)
    · exact .inr (BitVec.eq_of_toNat_eq h)
  rcases this with rfl | rfl <;> rfl

theorem ownTestChime_refused (h : x = 0#8 ∨ 3 < x.toNat ∨ 1 < y.toNat) :
    ownTestChime tag [x, y, z, v] d = refuse tag .badArgument d := by
  have none_of : testPattern x.toNat = none ∨ testTone y.toNat = none := by
    rcases h with rfl | h | h
    · exact .inl rfl
    · left; unfold testPattern; split <;> first | omega | rfl
    · right; unfold testTone; split <;> first | omega | rfl
  unfold ownTestChime
  rcases none_of with h | h
  · rw [show testPattern (field8 [x, y, z, v] 0) = none from h]
  · rw [show testTone (field8 [x, y, z, v] 1) = none from h]
    cases testPattern (field8 [x, y, z, v] 0) <;> rfl

theorem ownTestChime_eq {pattern : Chime} (h : pattern ≠ .none) (hx : x = byte pattern.code) (hy : y.toNat ≤ 1) :
    ownTestChime tag [x, y, z, v] d =
      if d.wrn.test.isSome || d.mod.supply != .on then refuse tag .refusedCondition d
      else answer tag [0#8] (chimePlaceTest ⟨pattern, y == 1#8⟩ d) := by
  unfold ownTestChime
  rw [show testPattern (field8 [x, y, z, v] 0) = _ from testPattern_code h hx,
    show testTone (field8 [x, y, z, v] 1) = _ from testTone_bit hy]
  rfl

theorem byte_le_one (h : y.toNat ≤ 1) : y = 0#8 ∨ y = 1#8 := by
  rcases Nat.le_one_iff_eq_zero_or_eq_one.1 h with h | h
  · exact .inl (BitVec.eq_of_toNat_eq h)
  · exact .inr (BitVec.eq_of_toNat_eq h)

end

/-- OUTPUT_TEST is served in SERVICE only (R187). -/
theorem outputTest_mode {tag : Byte} {p : List Byte} (h : served d ⟨0x12#8, tag, p⟩ = true) :
    d.mod.mode = .service := by
  have ha : admits d.mod.mode 0x12#8 = true := by
    simp only [served, Bool.and_eq_true] at h
    exact h.1.2
  cases hm : d.mod.mode <;> rw [hm] at ha <;> first | rfl | exact absurd ha (by decide)

/-- A lamp item that forces or releases: one lamp's record, and its output by the force (R96). -/
theorem lampItem_runs {s : State} {tag x y z v : Byte} (h : served s.dev ⟨0x12#8, tag, [1#8, x, y, z, v]⟩ = true)
    (hx : x.toNat = l.val) (hy : y.toNat = 2 ∨ (y.toNat ≤ 1 ∧ (s.dev.lamp l).driver.lets = true)) :
    ∃ e, Runs (.outputTestLamp tag [x, y, z, v]) s (replied ⟨0x12#8, tag, [1#8, x, y, z, v]⟩ [0#8] e) ∧
      LampsOnly (taken ⟨0x12#8, tag, [1#8, x, y, z, v]⟩ s.dev) e ∧ (∀ k, k ≠ l → e.lamp k = s.dev.lamp k) ∧
      (e.lamp l).force = actionForce y ∧ (y ≠ 2#8 → ((e.lamp l).output = true ↔
        y = 1#8 ∧ s.dev.wrn.flash.isSome = true ∧ s.dev.mod.supply = .on)) := by
  let d := taken ⟨0x12#8, tag, [1#8, x, y, z, v]⟩ s.dev
  have only := lampsOnly_lampUpdate l (fun r => { r with force := actionForce y }) d
  have self := (lampUpdate_lamp_self l _ d).trans (lampWritten_eq d l fun r => { r with force := actionForce y })
  refine ⟨_, .of_effect rfl h (ownTestLamp_forces hx hy) only.requests, only,
    fun k hk => lampUpdate_lamp_ne _ d hk.symm, congrArg LampRec.force self, fun hy2 => ?_⟩
  have bit : y.toNat ≤ 1 ∧ (s.dev.lamp l).driver.lets = true :=
    hy.resolve_left fun h2 => hy2 (BitVec.eq_of_toNat_eq h2)
  rw [show ((lampUpdate l _ d).lamp l).output = _ from congrArg LampRec.output self]
  refine (lampOn_forced (d := d) (r := { s.dev.lamp l with force := actionForce y }) (b := y == 1#8)
    (outputTest_mode (d := s.dev) h) bit.2 (actionForce_le_one bit.1)).trans ?_
  rw [beq_iff_eq]
  rfl

/-- A chime item that is placed. -/
theorem chimeItem_runs {s : State} {tag x y z v : Byte} {pattern : Chime} {u : WrnState}
    (h : served s.dev ⟨0x12#8, tag, [2#8, x, y, z, v]⟩ = true) (hp : pattern ≠ .none) (hx : x = byte pattern.code)
    (hy : y.toNat ≤ 1) (ht : s.dev.wrn.test = none) (hs : s.dev.mod.supply = .on)
    (hu : chimePlaceTest ⟨pattern, y == 1#8⟩ (taken ⟨0x12#8, tag, [2#8, x, y, z, v]⟩ s.dev) =
      { taken ⟨0x12#8, tag, [2#8, x, y, z, v]⟩ s.dev with wrn := u }) :
    Runs (.outputTestChime tag [x, y, z, v]) s { replied ⟨0x12#8, tag, [2#8, x, y, z, v]⟩ [0#8]
      (taken ⟨0x12#8, tag, [2#8, x, y, z, v]⟩ s.dev) with wrn := u } := by
  have act := (ownTestChime_eq (tag := tag) (z := z) (v := v)
    (d := taken ⟨0x12#8, tag, [2#8, x, y, z, v]⟩ s.dev) hp hx hy).trans (if_neg (by simp [ht, hs]))
  rw [hu] at act
  exact .of_effect rfl h act rfl

/-- Settles O54: each item by the state it finds. -/
theorem outputTestsActInService : Obligations.OutputTestsActInService := by
  intro s tag x y z v f refused
  refine ⟨?_, ?_, ?_⟩
  · intro h cmd
    let d := taken (f 0#8) s.dev
    have cfg (g : Fin 6) : d.gaugeCfg g = s.dev.gaugeCfg g :=
      gaugeCfg_of_cal (e := d) (d := s.dev) rfl g
    refine ⟨fun g hx he hy => ?_, fun hb => .of_refusal (st := .badArgument) rfl h ?_, fun g hx he => ?_⟩
    · intro r a follows
      have hown := ownTestGauge_eq (tag := tag) (z := z) (v := v) (d := d) hx ((cfg g).symm ▸ he) hy
      refine ⟨fun hf => .of_refusal (st := .refusedCondition) rfl h (hown.trans (testGauge_refused hf)), fun hf => ?_⟩
      rcases byte_le_one hy with rfl | rfl
      · have ha : clamp 0 (d.gaugeCfg g).full ((z.toNat * 256 + v.toNat : Nat) : Int) = a := by rw [cfg, clamp_full]
        have act := hown.trans (testGauge_angle hf)
        rw [ha, beInt16_natCast] at act
        have told := told_gaugeOverride g a (.refl 2 d)
        obtain ⟨requests, replies, rest⟩ := told.replied (f := f 0#8) (p := 0#8 :: be16 a)
        refine ⟨_, .of_told rfl h act told, fun k hk => ?_, requests, fun _ => ⟨?_, replies⟩, nofun, nofun, rest⟩
        · exact (gaugeOverride_gauge g k a d).trans (if_neg hk.symm)
        · exact (gaugeOverride_gauge g g a d).trans (if_pos rfl)
      · have act := hown.trans (testGauge_release hf)
        by_cases ho : r.state = .override
        · rw [if_pos (by exact beq_of_eq ho)] at act
          have told := told_endOverride g (.refl 2 d)
          obtain ⟨angle, position, state⟩ := endOverride_self (d := d) (g := g) ho
          obtain ⟨requests, replies, rest⟩ := told.replied (f := f 0#8) (p := [0#8])
          refine ⟨_, .of_told rfl h act told, fun k hk => ?_, requests, nofun, fun _ hn => absurd ho hn,
            fun _ _ => ⟨angle, position, state, replies⟩, rest⟩
          exact (endOverride_gauge (d := d) ho k).trans (if_neg hk.symm)
        · rw [if_neg (by exact fun hb => ho (eq_of_beq hb))] at act
          exact ⟨_, .of_answer (q := [0#8]) rfl h act rfl, fun _ _ => rfl, rfl, nofun, fun _ _ => rfl,
            fun _ ho' => absurd ho' ho, rfl, rfl, rfl, rfl, rfl, rfl⟩
    · rcases hb with hb | hb
      · exact ownTestGauge_number hb
      · exact ownTestGauge_other (.inr hb)
    · exact .of_refusal (st := .badArgument) rfl h (ownTestGauge_other (.inl ⟨g, hx, (cfg g).symm ▸ he⟩))
  · intro h cmd
    let d := taken (f 1#8) s.dev
    refine ⟨fun l hx hy hl => ?_, fun l hx hy => ?_, fun hb => ?_⟩
    · exact .of_refusal (st := .refusedCondition) rfl h (ownTestLamp_cut hx hy hl)
    · obtain ⟨e, runs, only, others, force, output⟩ := lampItem_runs h hx hy
      exact ⟨_, runs, only.replied, others, force, output⟩
    · exact .of_refusal (st := .badArgument) rfl h (ownTestLamp_refused hb)
  · intro h cmd
    let d := taken (f 2#8) s.dev
    have mode := outputTest_mode h
    refine ⟨fun pattern hp hx hy => ?_, fun hb => .of_refusal (st := .badArgument) rfl h (ownTestChime_refused hb)⟩
    have hown := ownTestChime_eq (tag := tag) (z := z) (v := v) (d := d) hp hx hy
    refine ⟨fun hn => .of_refusal (st := .refusedCondition) rfl h (hown.trans (if_pos ?_)), fun ht hs hi => ?_,
      fun ht hs => ⟨fun p hpl hh hb => ?_, fun hw => ?_⟩⟩
    · simpa [d] using hn
    · exact chimeItem_runs h hp hx hy ht hs (chimePlaceTest_idle hi mode hs)
    · exact chimeItem_runs h hp hx hy ht hs (chimePlaceTest_gap hpl hh hb)
    · exact chimeItem_runs h hp hx hy ht hs (chimePlaceTest_waits hw)

/-! ## ACK_WARNINGS (R86, R88) -/

/-- What an acknowledge makes of a warning's record (R86). -/
def Acked (r r' : WarningRec) : Prop :=
  r'.condition = r.condition ∧ match r.state with
    | .activeNew => r'.state = .activeAcked
    | .clearedUnacked => r'.state = .inactive
    | .pendingOff => r' = { r with remembered := some .activeAcked }
    | .inactive | .pendingOn | .activeAcked => r' = r

theorem ackWarning_self (w : Fin 64) (d : Dev) : Acked (d.warning w) ((ackWarning w d).warning w) := by
  have entered (st : WarningState) : ((warningEnter w st none none d).warning w).condition = (d.warning w).condition ∧
      ((warningEnter w st none none d).warning w).state = st := by
    rw [warningEnter_warning, if_pos rfl]
    exact ⟨rfl, rfl⟩
  cases hs : (d.warning w).state with
  | activeNew => simp only [Acked, ackWarning, hs]; exact entered _
  | clearedUnacked => simp only [Acked, ackWarning, hs]; exact entered _
  | pendingOff => simp only [Acked, ackWarning, hs, setWarning_warning, if_true, and_self]
  | inactive | pendingOn | activeAcked => simp only [Acked, ackWarning, hs, and_self]

theorem ackWarning_ne {v : Fin 64} (h : w ≠ v) (d : Dev) : (ackWarning w d).warning v = d.warning v := by
  unfold ackWarning
  dsimp only
  split
  · rw [warningEnter_warning, if_neg h]
  · rw [warningEnter_warning, if_neg h]
  · rw [setWarning_warning, if_neg h]
  all_goals rfl

theorem ackAll_cons (w : Fin 64) (ws : List (Fin 64)) (d : Dev) : ackAll (w :: ws) d = ackAll ws (ackWarning w d) := rfl

theorem ackAll_unselected {ws : List (Fin 64)} (h : w ∉ ws) (d : Dev) : (ackAll ws d).warning w = d.warning w := by
  induction ws generalizing d with
  | nil => rfl
  | cons v ws ih =>
    rw [List.mem_cons, not_or] at h
    rw [ackAll_cons, ih h.2, ackWarning_ne (Ne.symm h.1)]

theorem ackAll_selected {ws : List (Fin 64)} (h : w ∈ ws) (hn : ws.Nodup) (d : Dev) :
    Acked (d.warning w) ((ackAll ws d).warning w) := by
  induction ws generalizing d with
  | nil => cases h
  | cons v ws ih =>
    obtain ⟨hv, hn⟩ := List.nodup_cons.1 hn
    rw [ackAll_cons]
    rcases List.mem_cons.1 h with rfl | h
    · rw [ackAll_unselected hv]
      exact ackWarning_self w d
    · have := ih h hn (ackWarning v d)
      rwa [ackWarning_ne (by rintro rfl; exact hv h)] at this

theorem selectWarnings_nodup (d : Dev) (p : Fin 64 → WarningCfg → WarningRec → Bool) : (selectWarnings d p).Nodup :=
  (List.nodup_finRange 64).filter _

theorem mem_selectWarnings {p : Fin 64 → WarningCfg → WarningRec → Bool} : w ∈ selectWarnings d p ↔
    (d.wrn.cfg[w].enabled && p w d.wrn.cfg[w] (d.warning w)) = true := by
  simp [selectWarnings]

/-- Whether a scope and its argument select a warning (R88). -/
def scopeSelects (scope arg : Byte) (w : Fin 64) (c : WarningCfg) : Bool :=
  if scope = 0#8 then w.val == arg.toNat else if scope = 1#8 then c.cls.code == arg.toNat else true

/-- A scope and its argument in range (R88). -/
def ScopeRanged (scope arg : Byte) : Prop :=
  (scope = 0#8 ∧ arg.toNat ≤ 63) ∨ (scope = 1#8 ∧ arg.toNat ≤ 2) ∨ scope = 2#8

theorem ackScope_ranged {scope arg : Byte} (h : ScopeRanged scope arg) :
    ackScope d scope.toNat arg.toNat = some (selectWarnings d fun w c _ => scopeSelects scope arg w c) := by
  rcases h with ⟨rfl, h⟩ | ⟨rfl, h⟩ | rfl
  · exact if_pos h
  · exact if_pos h
  · rfl

theorem ackScope_out {scope arg : Byte} (h : ¬ScopeRanged scope arg) : ackScope d scope.toNat arg.toNat = none := by
  unfold ackScope
  split
  next hs => exact if_neg fun ha => h (.inl ⟨BitVec.eq_of_toNat_eq hs, ha⟩)
  next hs => exact if_neg fun ha => h (.inr (.inl ⟨BitVec.eq_of_toNat_eq hs, ha⟩))
  next hs => exact absurd (.inr (.inr (BitVec.eq_of_toNat_eq hs))) h
  next => rfl

section
variable {tag scope arg : Byte}

theorem ownAckWarnings_out (h : ¬ScopeRanged scope arg) :
    ownAckWarnings tag [scope, arg] d = refuse tag .badArgument d := by
  unfold ownAckWarnings
  rw [show ackScope d (field8 [scope, arg] 0) (field8 [scope, arg] 1) = none from ackScope_out h]

theorem ownAckWarnings_ranged (h : ScopeRanged scope arg) : ownAckWarnings tag [scope, arg] d =
    lnkAnswer tag [0#8, byte ((selectWarnings d fun w c _ => scopeSelects scope arg w c).filter
      fun w => ackChanges (d.warning w)).length]
      (ackAll (selectWarnings d fun w c _ => scopeSelects scope arg w c) d) := by
  unfold ownAckWarnings
  rw [show ackScope d (field8 [scope, arg] 0) (field8 [scope, arg] 1) = _ from ackScope_ranged h]
  rfl

end

/-- Settles O52: the warnings the scope selects are acknowledged one by one. -/
theorem ackWarningsAcknowledges : Obligations.AckWarningsAcknowledges := by
  intro s tag scope arg f ranged chosen changes h
  refine ⟨fun hr => .of_refusal (st := .badArgument) rfl h (ownAckWarnings_out hr), fun hr => ?_⟩
  let d := taken f s.dev
  let ws := selectWarnings d fun w c _ => scopeSelects scope arg w c
  have told := told_ackAll ws (.refl 1 d)
  obtain ⟨requests, replies, clock, seq, sig, dor, cal, mod⟩ := told.replied (f := f) (p := _)
  refine ⟨_, .of_told rfl h (ownAckWarnings_ranged hr) told, fun w => ?_, requests, replies.trans ?_, clock, seq, sig,
    told.gau (le_refl 1), dor, cal, mod⟩
  · have selected : w ∈ ws ↔ chosen w = true := mem_selectWarnings
    by_cases hw : chosen w = true
    · obtain ⟨condition, acked⟩ := ackAll_selected (selected.2 hw) (selectWarnings_nodup ..) d
      exact ⟨condition, fun _ => acked, fun hc => absurd hw (hc ▸ Bool.false_ne_true)⟩
    · have same := ackAll_unselected (mt selected.1 hw) d
      exact ⟨congrArg WarningRec.condition same, fun hc => absurd hc hw, fun _ => same⟩
  · have counted : ws.filter (fun w => ackChanges (d.warning w)) =
        (List.finRange 64).filter fun w => chosen w && changes w := by
      simp only [ws, selectWarnings, List.filter_filter]
      exact List.filter_congr fun w _ => Bool.and_comm ..
    rw [counted]
    rfl

/-! ## Evaluations -/

theorem warningExit_ne {v : Fin 64} (h : w ≠ v) (rem : Remembered) (d : Dev) :
    (warningExit w rem d).warning v = d.warning v := by
  unfold warningExit
  split <;> rw [warningEnter_warning, if_neg h]

theorem warningEnding_ne {v : Fin 64} (h : w ≠ v) (rem : Remembered) (d : Dev) :
    (warningEnding w rem d).warning v = d.warning v := by
  unfold warningEnding
  split
  · exact warningExit_ne h rem d
  · rw [warningEnter_warning, if_neg h]

theorem conditionTrue_ne {v : Fin 64} (h : w ≠ v) (d : Dev) : (conditionTrue w d).warning v = d.warning v := by
  unfold conditionTrue
  dsimp only
  split
  · split <;> rw [warningEnter_warning, if_neg h]
  · split
    · rw [warningEnter_warning, if_neg h]
    · rfl
  · rw [warningEnter_warning, if_neg h]
  all_goals rfl

theorem conditionFalse_ne {v : Fin 64} (h : w ≠ v) (d : Dev) : (conditionFalse w d).warning v = d.warning v := by
  unfold conditionFalse
  split
  · rw [warningEnter_warning, if_neg h]
  · exact warningEnding_ne h _ d
  · exact warningEnding_ne h _ d
  all_goals rfl

/-- An evaluation of one warning writes no other. -/
theorem evaluate_ne {v : Fin 64} (h : w ≠ v) (d : Dev) : (evaluate w d).warning v = d.warning v := by
  unfold evaluate
  dsimp only
  split
  · rfl
  · split
    · rfl
    · split
      · rw [conditionTrue_ne h, setWarning_warning, if_neg h]
      · rw [conditionFalse_ne h, setWarning_warning, if_neg h]

theorem warningEnter_condition (st : WarningState) (rem : Option Remembered) (timer : Timer) (d : Dev) :
    ((warningEnter w st rem timer d).warning w).condition = (d.warning w).condition := by
  rw [warningEnter_warning, if_pos rfl]

theorem warningExit_condition (rem : Remembered) (d : Dev) :
    ((warningExit w rem d).warning w).condition = (d.warning w).condition := by
  unfold warningExit
  split <;> exact warningEnter_condition ..

theorem conditionFalse_condition (w : Fin 64) (d : Dev) :
    ((conditionFalse w d).warning w).condition = (d.warning w).condition := by
  have ending (rem : Remembered) : ((warningEnding w rem d).warning w).condition = (d.warning w).condition := by
    unfold warningEnding
    split
    · exact warningExit_condition ..
    · exact warningEnter_condition ..
  unfold conditionFalse
  split
  · exact warningEnter_condition ..
  · exact ending _
  · exact ending _
  all_goals rfl

/-- An evaluation of an enabled warning whose condition does not hold. -/
theorem evaluate_false (hw : d.wrn.flash.isSome = true) (he : d.wrn.cfg[w].enabled = true)
    (hc : evalCondition d d.wrn.cfg[w] (d.warning w).condition = false) :
    ((evaluate w d).warning w).condition = false := by
  unfold evaluate
  rw [if_neg (by rw [wrnRunning, hw, he]; exact Bool.false_ne_true)]
  dsimp only
  rw [hc]
  split
  next h => exact h.symm
  next => rw [if_neg Bool.false_ne_true, conditionFalse_condition, setWarning_warning, if_pos rfl]

theorem evaluateWhere_none {p : WarningCfg → Bool} (h : ∀ w : Fin 64, p d.wrn.cfg[w] = false) :
    evaluateWhere p d = d :=
  forEach_of_forall_eq fun w => if_neg (by rw [h w]; exact Bool.false_ne_true)

/-! ## Link loss (R192, R193, R105) -/

theorem evalCondition_linkBack {c : WarningCfg} (hk : c.kind = .system) (hc : c.condition = .linkLost)
    (hl : d.wrn.linkLost = false) (stored : Bool) : evalCondition d c stored = false := by
  simp [evalCondition, hk, hc, systemCond, hl]

/-- With the link back, while WRN runs, the LINK_LOST warnings evaluate false (R193). -/
theorem wrnSystem_linkBack (hl : d.wrn.linkLost = false) (hf : d.wrn.flash.isSome = true)
    (he : d.wrn.cfg[w].enabled = true) (hk : d.wrn.cfg[w].kind = .system) (hc : d.wrn.cfg[w].condition = .linkLost) :
    ((wrnSystem .linkLost d).warning w).condition = false := by
  have turn (v : Fin 64) (e : Dev) : LampsKept e (if e.wrn.cfg[v].kind == .system && e.wrn.cfg[v].condition == .linkLost
      then evaluate v e else e) := by
    split
    exacts [lampsKept_evaluate v e, .refl e]
  refine (forEach_at (before := LampsKept d)
    (after := fun e => LampsKept d e ∧ (e.warning w).condition = false) w
    (fun v _ e h => h.trans (turn v e)) (fun e h => ⟨h.trans (turn w e), ?_⟩)
    (fun v hv e ⟨h, hw⟩ => ⟨h.trans (turn v e), ?_⟩) (.refl d)).2
  · rw [if_pos (by rw [h.cfg, hk, hc]; rfl)]
    refine evaluate_false (by rw [h.flash, hf]) (by rw [h.cfg, he]) (evalCondition_linkBack ?_ ?_ ?_ _)
    · rw [h.cfg, hk]
    · rw [h.cfg, hc]
    · rw [h.linkLost, hl]
  · split
    · rw [evaluate_ne hv, hw]
    · exact hw

theorem wrnSystem_unwatched {item : Condition} (h : ∀ w : Fin 64, d.wrn.cfg[w].condition ≠ item) :
    wrnSystem item d = d :=
  evaluateWhere_none fun w => by rw [beq_false_of_ne (h w), Bool.and_false]

/-- The link's loss as WRN hears it (R105): the host bits are cleared, then the LINK_LOST warnings are evaluated. -/
theorem wrnLinkLost_eq (d : Dev) : wrnLinkLost d =
    wrnSystem .linkLost (forEach 24 (lampBitSet 0) { d with wrn := { d.wrn with linkLost := true } }) := by
  have turn : (fun (l : Fin 24) (d : Dev) => lampDemandRefresh l (d.setLamp l { d.lamp l with hostBit := false })) =
      lampBitSet 0 := by
    funext l e
    rw [lampBitSet, Nat.zero_testBit]
  rw [wrnLinkLost, turn]

theorem lampsKept_wrnSystem (item : Condition) (d : Dev) : LampsKept d (wrnSystem item d) :=
  lampsKept_evaluateWhere _ d

theorem wrnLinkLost_lamps (d : Dev) :
    (wrnLinkLost d).wrn.linkLost = true ∧ ∀ l, ((wrnLinkLost d).lamp l).hostBit = false := by
  obtain ⟨e, he, only, hlamp⟩ := forEach_lampBitSet 0 { d with wrn := { d.wrn with linkLost := true } }
  have kept : LampsKept e (wrnSystem .linkLost e) := lampsKept_evaluateWhere _ e
  rw [wrnLinkLost_eq, he, kept.linkLost, only]
  refine ⟨rfl, fun l => ?_⟩
  rw [← only, kept.hostBit, (hlamp l).1, Nat.zero_testBit]

/-- A notice of a group that the mask leaves out is discarded. -/
theorem lnkPost_unmasked {kind : NoticeKind} {subject : Nat} {content : List Byte} (h : d.lnk.mask = 0#8) :
    lnkPost kind subject content d = d :=
  if_pos (by rw [subscribed, h, BitVec.getLsbD_zero]; rfl)

/-- The part with its link's record replaced. -/
def Dev.withLnk (x : LnkState) (d : Dev) : Dev := { d with lnk := x }

/-- The effects told to the other blocks leave the link's own fields to what the link makes of them. -/
theorem Told.withLnk {n : Nat} {x y : LnkState} (h : Told n d e)
    (hy : y = { x with notices := y.notices, overflow := y.overflow }) (hr : y.notices.length ≤ 32) :
    Told n (d.withLnk x) (e.withLnk y) :=
  { h with lnk := hy, room := fun _ => hr }

/-- The part when its link has been lost and WRN has heard of it (R192). -/
def linkLostTold (d : Dev) : Dev :=
  wrnLinkLost (fltReport 0x60 0 true { d with lnk := { d.lnk with lost := true, held := true, timer := none } })

theorem linkLostTold_lamps (d : Dev) :
    (linkLostTold d).wrn.linkLost = true ∧ ∀ l, ((linkLostTold d).lamp l).hostBit = false := by
  unfold linkLostTold
  exact wrnLinkLost_lamps _

theorem told_linkLostTold (d : Dev) :
    Told 1 (d.withLnk { d.lnk with lost := true, held := true, timer := none }) (linkLostTold d) := by
  unfold linkLostTold
  exact told_wrnLinkLost (told_fltReport 0x60 0 true (.refl 1 _))

/-- At the loss the mask and the notices are cleared, and the change of the system state meets no subscription. -/
theorem linkLoss_eq (d : Dev) : linkLoss d = (linkLostTold d).withLnk { d.lnk with
    lost := true, held := true, timer := none, mask := 0#8, notices := [], overflow := false } := by
  have lnk := (told_linkLostTold d).lnk
  simp only [linkLoss]
  rw [← linkLostTold]
  generalize linkLostTold d = e at lnk
  rw [postSystem, lnkPost_unmasked rfl, lnk]
  rfl

/-- The link's record when a valid frame has ended the loss (R193). -/
def linkFound (d : Dev) : LnkState :=
  { d.lnk with
    assembly := none, gapTimer := none, lost := false
    timer := if d.mod.mode.active = true ∨ d.lnk.timer.isSome = true then some (d.clock + d.linkTimeout) else none }

/-- The part when the end of the loss has been reported. -/
def linkReported (d : Dev) : Dev := fltAbsent 0x6000#16 (d.withLnk (linkFound d))

/-- The part when the end of the loss has been reported and its fault is no longer held. -/
def linkFree (d : Dev) : Dev := (linkReported d).withLnk { (linkReported d).lnk with held := false }

/-- The timer as the end of the loss starts it. -/
def lossTimed (d : Dev) : Dev :=
  if d.mod.mode.active then lnkStartTimer { d with lnk := { d.lnk with lost := false } }
  else { d with lnk := { d.lnk with lost := false } }

theorem endLoss_eq (h : lossTimed e = d.withLnk (linkFound d)) : endLoss e = wrnLinkBack (postSystem (linkFree d)) := by
  simp only [endLoss]
  rw [linkFree, linkReported, ← h]
  rfl

theorem lossTimed_seen (d : Dev) :
    lossTimed (if d.lnk.timer.isSome then lnkStartTimer (rxHunt d) else rxHunt d) = d.withLnk (linkFound d) := by
  have timed (x : LnkState) : lnkStartTimer (d.withLnk x) =
      d.withLnk { x with timer := some (d.clock + d.linkTimeout) } := rfl
  rw [show rxHunt d = d.withLnk { d.lnk with assembly := none, gapTimer := none } from rfl]
  unfold lossTimed linkFound
  rcases ht : d.lnk.timer with _ | t <;> rcases ha : d.mod.mode.active with _ | _ <;> simp [timed]
  all_goals simp [Dev.withLnk, lnkStartTimer, Dev.timerIn, ha, ht] <;> rfl

theorem frameSeen_lost (h : d.lnk.lost = true) :
    frameSeen (rxHunt d) = wrnLinkBack (postSystem (linkFree d)) := by
  have lost : (if d.lnk.timer.isSome then lnkStartTimer (rxHunt d) else rxHunt d).lnk.lost = true := by
    split <;> exact h
  exact (if_pos lost).trans (endLoss_eq (lossTimed_seen d))

theorem told_linkFree (d : Dev) : Told 0 (d.withLnk { linkFound d with held := false }) (postSystem (linkFree d)) := by
  have report : Told 0 (d.withLnk (linkFound d)) (linkReported d) := told_fltAbsent _ (.refl 0 _)
  refine told_postSystem { report with lnk := ?_ }
  unfold linkFree
  rw [report.lnk]
  rfl

theorem wrnLinkBack_lamps (d : Dev) :
    (wrnLinkBack d).wrn.linkLost = false ∧ ∀ l, ((wrnLinkBack d).lamp l).hostBit = (d.lamp l).hostBit := by
  have kept : LampsKept { d with wrn := { d.wrn with linkLost := false } } (wrnLinkBack d) :=
    lampsKept_wrnSystem ..
  exact ⟨kept.linkLost, kept.hostBit⟩

/-- Settles O45: the loss and its end, each a change of the link told to WRN. -/
theorem linkTimerExpiryLosesLink : Obligations.LinkTimerExpiryLosesLink := by
  refine ⟨?_, ?_⟩
  · intro s t ht lost
    have hrun : onExpiry s.dev.lnk.timer linkLoss s.dev = (linkLostTold (s.dev.advanceTo t)).withLnk lost := by
      rw [ht, onExpiry_some, linkLoss_eq]
      rfl
    have told := told_linkLostTold (s.dev.advanceTo t)
    obtain ⟨hlost, hbits⟩ := linkLostTold_lamps (s.dev.advanceTo t)
    generalize linkLostTold (s.dev.advanceTo t) = e at hrun told hlost hbits
    exact ⟨_, .of_event rfl hrun, told.withLnk (x := lost) (y := lost) rfl (Nat.zero_le _), rfl, hlost, hbits⟩
  · intro s kind payload hm hl found d free
    have hrun : onFrame ⟨kind, 0#8, payload⟩ id s.dev = txStart (wrnLinkBack (postSystem free)) := by
      rw [onFrame_receiving _ _ hm, frameActed_keepAlive _ rfl, frameSeen_lost hl]
      rfl
    have told : Told 0 (s.dev.withLnk { found with held := false }) (postSystem free) := told_linkFree s.dev
    have wrn : (postSystem free).wrn = s.dev.wrn := told.wrn rfl
    obtain ⟨hlost, hbits⟩ := wrnLinkBack_lamps (postSystem free)
    generalize hp : postSystem free = p at *
    have lamp (l : Fin 24) : p.lamp l = s.dev.lamp l := by unfold Dev.lamp; rw [wrn]
    refine ⟨⟨_, .of_frame rfl hrun, told_wrnLinkBack (told.widen 1 (by decide)), hlost, fun l => ?_,
      fun hf w he hk hc => ?_⟩, fun hw => .of_frame rfl (hrun.trans ?_)⟩
    · rw [hbits, lamp]
    · exact wrnSystem_linkBack (d := { p with wrn := { p.wrn with linkLost := false } }) rfl (by rw [← hf, ← wrn])
        (by rw [← he, ← wrn]) (by rw [← hk, ← wrn]) (by rw [← hc, ← wrn])
    · change txStart (wrnLinkBack p) =
        txStart { postSystem free with wrn := { s.dev.wrn with linkLost := false } }
      rw [hp, ← wrn, wrnLinkBack, wrnSystem_unwatched]
      intro w
      rw [wrn]
      exact hw w

end Sys2Proof.Machine
end

section
/-! SUPPORT. The events at one door; with them the statements `Obligations.DoorTimersExpire` (O34) and
`Obligations.DoorCommandsMoveRelease` (O35). -/

namespace Sys2Proof.Machine
variable {d e e' : Dev} {i j k : Fin 4} {r new : DoorRec} {cause : DoorCause}

/-! ## What a change of DOR tells the other blocks -/

/-- From `d` to `e` DOR changes and the other blocks are told. -/
def DoorsTold (d e : Dev) : Prop := Told 1 { d with dor := e.dor } e

theorem DoorsTold.refl (d : Dev) : DoorsTold d d := Told.refl 1 d

theorem DoorsTold.told (h : DoorsTold d e) (k : Told 1 e e') : DoorsTold d e' := by
  unfold DoorsTold at *
  rw [k.dor]
  exact h.trans k

theorem DoorsTold.setDor (h : DoorsTold d e) (x : DorState) : DoorsTold d { e with dor := x } :=
  { h with dor := rfl }

theorem DoorsTold.setDoor (h : DoorsTold d e) (i : Fin 4) (r : DoorRec) : DoorsTold d (e.setDoor i r) := h.setDor _

theorem DoorsTold.setInterlock (h : DoorsTold d e) (k : Interlock) : DoorsTold d (e.setInterlock k) := h.setDor _

/-! ## One door's change completed (R110) -/

theorem told_doorTold (i : Fin 4) (new : DoorRec) (cause : DoorCause) (d : Dev) :
    Told 1 (d.setDoor i new) (doorComplete i new cause d) := by
  unfold doorComplete
  extract_lets old a b
  have report : Told 1 a b := told_fltReportIf _ _ _ _ (.refl 1 a)
  split
  · exact told_wrnDoor _ (told_lnkPost _ _ _ report)
  · exact report

theorem doorComplete_dor (i : Fin 4) (new : DoorRec) (cause : DoorCause) (d : Dev) :
    (doorComplete i new cause d).dor = (d.setDoor i new).dor := (told_doorTold i new cause d).dor

theorem doorsTold_doorComplete (i : Fin 4) (new : DoorRec) (cause : DoorCause) (d : Dev) :
    DoorsTold d (doorComplete i new cause d) := ((DoorsTold.refl d).setDoor i new).told (told_doorTold ..)

/-- A door's record as it is written: its RELEASE line on while RELEASED in SWEEP, RUN or SERVICE (R119). -/
def doorWritten (d : Dev) (r : DoorRec) : DoorRec :=
  { r with line := r.release == .released && d.mod.mode.active }

theorem doorComplete_door (i k : Fin 4) (new : DoorRec) (cause : DoorCause) (d : Dev) :
    (doorComplete i new cause d).door k = if i = k then doorWritten d new else d.door k := by
  unfold Dev.door
  rw [doorComplete_dor]
  exact setDoor_door d i k new

/-! ## The interlock (R122-R125) -/

theorem told_interlockRefresh (entered : Bool) (d : Dev) :
    Told 1 (d.setInterlock (interlockNow d entered)) (interlockRefresh entered d) := by
  unfold interlockRefresh
  extract_lets old new a b
  have report : Told 1 a b := told_fltReportIf _ _ _ _ (.refl 1 a)
  split
  · exact told_wrnInterlock (told_lnkPost _ _ _ report)
  · exact report

theorem interlockRefresh_dor (entered : Bool) (d : Dev) :
    (interlockRefresh entered d).dor = { d.dor with interlock := interlockNow d entered } :=
  (told_interlockRefresh entered d).dor

theorem doorCondition_iff : doorCondition d = true ↔ ∀ k, configured d k = true →
    ((d.door k).position.shut = true ∨ ((d.door k).position = .unknown ∧ bypassActive d = true)) ∧
      (d.door k).release = .held := by
  simp [doorCondition, doorShutAndHeld, or_iff_not_imp_left]

theorem drivePermit_iff {c : Bool} : drivePermit d c = true ↔ c = true ∧
    (d.mod.mode = .run ∨ d.mod.mode = .service) ∧
    inactiveOpt d d.dor.cfg.kneel = true ∧ inactiveOpt d d.dor.cfg.ramp = true := by
  have drives : d.mod.mode.drives = true ↔ d.mod.mode = .run ∨ d.mod.mode = .service := by
    cases d.mod.mode <;> simp [Mode.drives]
  simp only [drivePermit, Bool.and_eq_true, drives, and_assoc]

/-! ## An event at one door -/

theorem forEach_only {f : Fin 4 → Dev → Dev} (j : Fin 4) (h : ∀ i ≠ j, ∀ e, f i e = e) (d : Dev) :
    forEach 4 f d = f j d :=
  forEach_at (before := (· = d)) (after := (· = f j d)) j (fun i hi e he => (h i hi e).trans he)
    (fun e he => by rw [he]) (fun i hi e he => (h i hi e).trans he) rfl

theorem doorsMoved_self (d : Dev) : doorsMoved d d = false := by simp [doorsMoved]

theorem doorsMoved_of_release (h : (d.door i).release ≠ (e.door i).release) : doorsMoved d e = true := by
  simp only [doorsMoved, List.any_eq_true]
  exact ⟨i, List.mem_finRange i, by simp [h]⟩

/-- One door's part of an event at door `j`. -/
def doorTurn (j : Fin 4) (f : DoorCfg → DoorRec → DoorRec × DoorCause) (i : Fin 4) (e : Dev) : Dev :=
  if configured e i then
    let t := if i = j then f (e.doorSettings i) (e.door i) else (e.door i, .position)
    if t.1 = e.door i then e else doorComplete i t.1 t.2 e
  else e

theorem doorTurn_ne {f : DoorCfg → DoorRec → DoorRec × DoorCause} (h : i ≠ j) (e : Dev) : doorTurn j f i e = e := by
  unfold doorTurn
  simp [h]

theorem doorEventAt_eq (j : Fin 4) (f : DoorCfg → DoorRec → DoorRec × DoorCause) (d : Dev) : doorEventAt j f d =
    if doorsMoved d (doorTurn j f j d) then interlockRefresh false (doorTurn j f j d) else doorTurn j f j d := by
  rw [← forEach_only (f := doorTurn j f) j fun i hi e => doorTurn_ne hi e]
  rfl

/-- An event that leaves its door's record as it was does nothing. -/
theorem doorEventAt_unchanged {f : DoorCfg → DoorRec → DoorRec × DoorCause}
    (h : (f (d.doorSettings j) (d.door j)).1 = d.door j) : doorEventAt j f d = d := by
  have turn : doorTurn j f j d = d := by
    unfold doorTurn
    simp [h]
  rw [doorEventAt_eq, turn, doorsMoved_self]
  rfl

/-- An event that moves its door's release state: the change completed, then the interlock recomputed. -/
theorem doorEventAt_moved {f : DoorCfg → DoorRec → DoorRec × DoorCause} (hc : configured d j = true)
    (hf : f (d.doorSettings j) (d.door j) = (new, cause)) (h : new.release ≠ (d.door j).release) :
    doorEventAt j f d = interlockRefresh false (doorComplete j new cause d) := by
  have changed : new ≠ d.door j := fun he => h (by rw [he])
  have turn : doorTurn j f j d = doorComplete j new cause d := by
    unfold doorTurn
    rw [if_pos hc, if_pos rfl, hf]
    exact if_neg changed
  rw [doorEventAt_eq, turn, if_pos (doorsMoved_of_release (i := j) ?_)]
  rw [doorComplete_door, if_pos rfl]
  exact h.symm

/-! ## What is read of the channels -/

theorem chan_of_sig (h : e.sig = d.sig) (c : Nat) : e.chan c = d.chan c := by
  unfold Dev.chan
  rw [h]

theorem activeOpt_of_sig (h : e.sig = d.sig) (c : Option Nat) : activeOpt e c = activeOpt d c := by
  cases c with
  | none => rfl
  | some ch => exact congrArg ChanRec.isActive (chan_of_sig h ch)

theorem inactiveOpt_of_sig (h : e.sig = d.sig) (c : Option Nat) : inactiveOpt e c = inactiveOpt d c := by
  cases c with
  | none => rfl
  | some ch => exact congrArg ChanRec.isInactive (chan_of_sig h ch)

/-! ## The outcome of an event that moves a door -/

/-- From `d` to `e` door `j` takes a record, the interlock follows, and the other blocks are told. -/
structure DoorMoved (j : Fin 4) (new : DoorRec) (d e : Dev) : Prop where
  told : DoorsTold d e
  dor : e.dor = { d.dor with doors := e.dor.doors, interlock := e.dor.interlock }
  self : e.door j = doorWritten d new
  others : ∀ k, k ≠ j → e.door k = d.door k
  interlock : ∃ b, DoorsTold d b ∧ b.dor.doors = e.dor.doors ∧ b.dor.cfg = d.dor.cfg ∧
    e.dor.interlock = interlockNow b false

theorem doorEventAt_doorMoved {f : DoorCfg → DoorRec → DoorRec × DoorCause} (hc : configured d j = true)
    (hf : f (d.doorSettings j) (d.door j) = (new, cause)) (h : new.release ≠ (d.door j).release) :
    DoorMoved j new d (doorEventAt j f d) := by
  rw [doorEventAt_moved hc hf h]
  have complete := doorsTold_doorComplete j new cause d
  have written := doorComplete_door j (new := new) (cause := cause) (d := d)
  have dor : (doorComplete j new cause d).dor = { d.dor with doors := (doorComplete j new cause d).dor.doors } := by
    rw [doorComplete_dor]
    rfl
  generalize doorComplete j new cause d = b at complete written dor
  have told := told_interlockRefresh false b
  have refreshed := interlockRefresh_dor false b
  generalize interlockRefresh false b = e at told refreshed
  have door (k : Fin 4) : e.door k = b.door k := by
    unfold Dev.door
    rw [refreshed]
  refine ⟨(complete.setInterlock _).told told, ?_, (door j).trans ((written j).trans (if_pos rfl)),
    fun k hk => (door k).trans ((written k).trans (if_neg hk.symm)), b, complete, ?_, ?_, ?_⟩
  · rw [refreshed, dor]
  · rw [refreshed]
  · rw [dor]
  · rw [refreshed]

/-- The door condition after the event (R122). -/
theorem DoorMoved.condition (h : DoorMoved j new d e) : e.dor.interlock.doorCondition = true ↔
    ∀ k, configured d k = true →
      ((e.door k).position.shut = true ∨ ((e.door k).position = .unknown ∧ bypassActive d = true)) ∧
        (e.door k).release = .held := by
  obtain ⟨b, told, doors, cfg, now⟩ := h.interlock
  have door (k : Fin 4) : b.door k = e.door k := by unfold Dev.door; rw [doors]
  have bypass : bypassActive b = bypassActive d := by
    unfold bypassActive
    rw [cfg, activeOpt_of_sig told.sig]
    rfl
  have conf (k : Fin 4) : configured b k = configured d k := by unfold configured; rw [cfg]
  rw [now]
  refine doorCondition_iff.trans ?_
  simp only [door, bypass, conf]

/-- The permit after the event (R123). -/
theorem DoorMoved.permit (h : DoorMoved j new d e) : e.dor.interlock.drivePermit = true ↔
    e.dor.interlock.doorCondition = true ∧ (d.mod.mode = .run ∨ d.mod.mode = .service) ∧
      inactiveOpt d d.dor.cfg.kneel = true ∧ inactiveOpt d d.dor.cfg.ramp = true := by
  obtain ⟨b, told, doors, cfg, now⟩ := h.interlock
  have sig : b.sig = d.sig := told.sig
  have mod : b.mod = d.mod := told.mod
  rw [now]
  refine drivePermit_iff.trans ?_
  rw [cfg, inactiveOpt_of_sig sig, inactiveOpt_of_sig sig, mod]
  rfl

theorem dorHoldExpire_moved (hc : configured d j = true) (hr : (d.door j).release = .pending) :
    DoorMoved j (enterHeld (d.door j)) d (dorHoldExpire j d) :=
  doorEventAt_doorMoved (f := fun _ r => (enterHeld r, .releaseExpired)) hc rfl (by rw [hr]; nofun)

/-- A door whose close timer has run out (R117). -/
def closeTimedOut (r : DoorRec) : DoorRec := { r with release := .stuck, closeTimer := none, held := true }

theorem dorCloseTimeout_moved (hc : configured d j = true) (hr : (d.door j).release = .closing) :
    DoorMoved j (closeTimedOut (d.door j)) d (dorCloseTimeout j d) :=
  doorEventAt_doorMoved (f := fun _ r => (closeTimedOut r, .closeTimeout)) hc rfl (by rw [hr]; nofun)

theorem told_dorBrakeExpire (d : Dev) :
    Told 1 (d.setInterlock { d.dor.interlock with brakeTimer := none, brakePermit := true }) (dorBrakeExpire d) :=
  told_wrnInterlock (told_lnkPost _ _ _ (.refl 1 _))

/-- Settles O34: a timer's expiry moves its door's release state, and the interlock follows. -/
theorem doorTimersExpire : Obligations.DoorTimersExpire := by
  intro s i t r now ends
  let d := s.dev.advanceTo t
  have moved {c : Instr} {e : Dev} {new : DoorRec} (runs : Runs c s e) (h : DoorMoved i new d e)
      (hr : new.release ≠ .released) : ends c { new with line := false } := by
    have self : e.door i = { new with line := false } := by
      rw [h.self, doorWritten, beq_false_of_ne hr]
      rfl
    exact ⟨e, runs, h.told, h.dor, self, h.others, h.condition, h.permit⟩
  refine ⟨fun ht hr hc => ?_, fun ht hr hc => ?_, fun ht => ?_⟩
  · have runs : Runs (.doorHoldTimerExpiry i) s (dorHoldExpire i d) := .of_event rfl
      (show onExpiry (s.dev.door i).holdTimer (dorHoldExpire i) s.dev = _ by
        rw [show (s.dev.door i).holdTimer = some t from ht, onExpiry_some])
    exact moved runs (dorHoldExpire_moved (d := d) hc hr) nofun
  · have runs : Runs (.closeTimeout i) s (dorCloseTimeout i d) := .of_event rfl
      (show onExpiry (s.dev.door i).closeTimer (dorCloseTimeout i) s.dev = _ by
        rw [show (s.dev.door i).closeTimer = some t from ht, onExpiry_some])
    exact moved runs (dorCloseTimeout_moved (d := d) hc hr) nofun
  · exact ⟨_, .of_event rfl (show onExpiry s.dev.dor.interlock.brakeTimer dorBrakeExpire s.dev = _ by
      rw [ht, onExpiry_some]), told_dorBrakeExpire d⟩

/-! ## DOOR_COMMAND (R113-R118) -/

/-- DOOR_COMMAND is served in SWEEP, RUN and SERVICE only (R187). -/
theorem doorCommand_active {tag : Byte} {p : List Byte} (h : served d ⟨0x09#8, tag, p⟩ = true) :
    d.mod.mode.active = true := by
  obtain ⟨-, -, -, -, -, -, -, ha, -⟩ := served_iff.mp h
  have ha : admits d.mod.mode 0x09#8 = true := ha
  cases hm : d.mod.mode <;> rw [hm] at ha <;> first | rfl | exact absurd ha (by decide)

/-- What a request at a door leaves: the record as it was, or one written with its line, the others as they were. -/
theorem doorRequest_outcome {g : DoorCfg → DoorRec → DoorRec} (hc : configured d j = true)
    (hg : (g (d.doorSettings j) (d.door j)).release = (d.door j).release →
      g (d.doorSettings j) (d.door j) = d.door j) :
    DoorsTold d (doorEventAt j (fun c r => (g c r, cause)) d) ∧
      (doorEventAt j (fun c r => (g c r, cause)) d).door j =
        (if g (d.doorSettings j) (d.door j) = d.door j then d.door j
        else doorWritten d (g (d.doorSettings j) (d.door j))) ∧
      ∀ k, k ≠ j → (doorEventAt j (fun c r => (g c r, cause)) d).door k = d.door k := by
  by_cases same : g (d.doorSettings j) (d.door j) = d.door j
  · rw [doorEventAt_unchanged (by exact same), if_pos same]
    exact ⟨.refl d, rfl, fun _ _ => rfl⟩
  · have h := doorEventAt_doorMoved (f := fun c r => (g c r, cause)) hc rfl (mt hg same)
    rw [if_neg same]
    exact ⟨h.told, h.self, h.others⟩

/-- A door's record after a RELEASE, its line with it (R113-R117). -/
def releasedRecord (d : Dev) (c : DoorCfg) (r : DoorRec) : DoorRec :=
  match r.release with
  | .held =>
    if speedOk d c then { enterReleased r with line := true }
    else if 0 < c.holdTime then
      { r with release := .pending, holdTimer := some (d.clock + c.holdTime), line := false }
    else r
  | .closing | .stuck => if speedOk d c then { enterReleased r with line := true } else r
  | .pending | .released => r

/-- A door's record after a CLOSE, its line with it (R113-R117). -/
def closedRecord (d : Dev) (c : DoorCfg) (r : DoorRec) : DoorRec :=
  match r.release with
  | .pending => { enterHeld r with line := false }
  | .released =>
    if r.position.shut then { enterHeld r with line := false }
    else { r with
      release := .closing, holdTimer := none, closeTimer := some (d.clock + c.closeTimeout), line := false }
  | .held | .closing | .stuck => r

/-- A request that changes its door's record changes its release state. -/
theorem releaseRequest_unmoved {c : DoorCfg} (h : (releaseRequest d c r).release = r.release) :
    releaseRequest d c r = r := by
  unfold releaseRequest at *
  cases hr : r.release <;> simp only [hr] at * <;> split_ifs at * <;> first | rfl | cases h

theorem closeRequest_unmoved {c : DoorCfg} (h : (closeRequest d c r).release = r.release) :
    closeRequest d c r = r := by
  cases hr : r.release with
  | pending => exact absurd h (by simp [closeRequest, hr, enterHeld])
  | released => exact absurd h (by simp [closeRequest, hr, enterClosing, enterHeld]; split <;> simp)
  | held | closing | stuck => simp only [closeRequest, hr]

theorem doorWritten_released (ha : d.mod.mode.active = true) (h : r.release = .released) :
    doorWritten d r = { r with line := true } := by
  simp [doorWritten, h, ha]

theorem doorWritten_other (h : r.release ≠ .released) : doorWritten d r = { r with line := false } := by
  simp [doorWritten, h]

theorem releaseRequest_written {c : DoorCfg} (ha : d.mod.mode.active = true) :
    (if releaseRequest d c r = r then r else doorWritten d (releaseRequest d c r)) = releasedRecord d c r := by
  have differs {new : DoorRec} (h : new.release ≠ r.release) : ¬new = r := fun he => h (by rw [he])
  have released (h : r.release ≠ .released) :
      (if enterReleased r = r then r else doorWritten d (enterReleased r)) = { enterReleased r with line := true } :=
    (if_neg (differs h.symm)).trans (doorWritten_released ha rfl)
  unfold releaseRequest releasedRecord
  cases hr : r.release with
  | held =>
    by_cases ok : speedOk d c = true
    · simp only [ok, if_true]
      exact released (by rw [hr]; nofun)
    · by_cases hold : 0 < c.holdTime
      · simp only [ok, hold, if_true]
        exact (if_neg (differs (by rw [hr]; nofun))).trans (doorWritten_other nofun)
      · simp only [ok, hold, if_false]
        exact if_pos rfl
  | closing | stuck =>
    by_cases ok : speedOk d c = true
    · simp only [ok, if_true]
      exact released (by rw [hr]; nofun)
    · simp only [ok]
      exact if_pos rfl
  | pending | released => exact if_pos rfl

theorem closeRequest_written {c : DoorCfg} :
    (if closeRequest d c r = r then r else doorWritten d (closeRequest d c r)) = closedRecord d c r := by
  have moved {new : DoorRec} (h : new.release ≠ r.release) (hn : new.release ≠ .released) :
      (if new = r then r else doorWritten d new) = { new with line := false } :=
    (if_neg fun he => h (by rw [he])).trans (doorWritten_other hn)
  unfold closeRequest closedRecord enterClosing
  cases hr : r.release with
  | pending => exact moved (by rw [hr]; nofun) nofun
  | released =>
    by_cases shut : r.position.shut = true
    · simp only [shut, if_true]
      exact moved (by rw [hr]; nofun) nofun
    · simp only [shut]
      exact moved (by rw [hr]; nofun) nofun
  | held | closing | stuck => exact if_pos rfl

theorem dorRelease_outcome (hc : configured d i = true) (ha : d.mod.mode.active = true) :
    DoorsTold d (dorRelease i d) ∧ (dorRelease i d).door i = releasedRecord d (d.doorSettings i) (d.door i) ∧
      ∀ k, k ≠ i → (dorRelease i d).door k = d.door k := by
  rw [← releaseRequest_written ha]
  exact doorRequest_outcome hc releaseRequest_unmoved

theorem dorClose_outcome (hc : configured d i = true) :
    DoorsTold d (dorClose i d) ∧ (dorClose i d).door i = closedRecord d (d.doorSettings i) (d.door i) ∧
      ∀ k, k ≠ i → (dorClose i d).door k = d.door k := by
  rw [← closeRequest_written]
  exact doorRequest_outcome hc closeRequest_unmoved

section
variable {tag door : Byte}

theorem ownDoorRelease_eq (hi : door.toNat = i.val) (hc : configured d i = true) : ownDoorRelease tag door d =
    answer tag (doorCommandReply (dorRelease i d) i (releaseOutcome ((dorRelease i d).door i).release))
      (dorRelease i d) := by
  have hlt : door.toNat < 4 := hi ▸ i.isLt
  obtain rfl : i = ⟨door.toNat, hlt⟩ := Fin.ext hi.symm
  exact (dif_pos hlt).trans (if_pos hc)

theorem ownDoorClose_eq (hi : door.toNat = i.val) (hc : configured d i = true) : ownDoorClose tag door d =
    answer tag (doorCommandReply (dorClose i d) i 3) (dorClose i d) := by
  have hlt : door.toNat < 4 := hi ▸ i.isLt
  obtain rfl : i = ⟨door.toNat, hlt⟩ := Fin.ext hi.symm
  exact (dif_pos hlt).trans (if_pos hc)

theorem ownDoorRelease_out (h : 4 ≤ door.toNat ∨ d.dor.cfg.count ≤ door.toNat) :
    ownDoorRelease tag door d = refuse tag .badArgument d := by
  by_cases hlt : door.toNat < 4
  · exact (dif_pos hlt).trans (if_neg (by simp [configured]; omega))
  · exact dif_neg hlt

theorem ownDoorClose_out (h : 4 ≤ door.toNat ∨ d.dor.cfg.count ≤ door.toNat) :
    ownDoorClose tag door d = refuse tag .badArgument d := by
  by_cases hlt : door.toNat < 4
  · exact (dif_pos hlt).trans (if_neg (by simp [configured]; omega))
  · exact dif_neg hlt

end

/-- What an answer after a change of DOR leaves as it was. -/
theorem DoorsTold.replied {f : Frame} {p : List Byte} (h : DoorsTold (taken f d) e) :
    (replied f p e).lnk.requests = (taken f d).lnk.requests ∧
      (replied f p e).lnk.replies = d.lnk.replies ++ [⟨f.kind + 0x80#8, f.tag, p, false⟩] ∧
      (replied f p e).clock = d.clock ∧ (replied f p e).seq = d.seq ∧ (replied f p e).sig = d.sig ∧
      (replied f p e).gau = d.gau ∧ (replied f p e).cal = d.cal ∧ (replied f p e).mod = d.mod := by
  have lnk : e.lnk.requests = (taken f d).lnk.requests ∧ e.lnk.replies = d.lnk.replies := by
    rw [Told.lnk h]
    exact ⟨rfl, rfl⟩
  have told : Told 1 { taken f d with dor := e.dor } e := h
  refine ⟨lnk.1, ?_, told.clock, told.seq, told.sig, told.gau (le_refl 1), told.cal, told.mod⟩
  rw [← lnk.2]
  rfl

theorem releaseOutcome_eq (st : ReleaseState) : byte (releaseOutcome st) =
    if st = .released then 0#8 else if st = .pending then 1#8 else 2#8 := by
  cases st <;> rfl

/-- Settles O35: a request is an event at one door, answered with the door's release state. -/
theorem doorCommandsMoveRelease : Obligations.DoorCommandsMoveRelease := by
  intro s tag door rest f
  refine ⟨?_, fun hb => ⟨fun h => .of_refusal (st := .badArgument) rfl h (ownDoorRelease_out hb),
    fun h => .of_refusal (st := .badArgument) rfl h (ownDoorClose_out hb)⟩⟩
  intro i hi hc r c ok released held done
  refine ⟨?_, ?_⟩
  · intro h after
    obtain ⟨told, self, others⟩ := dorRelease_outcome (d := taken (f 0#8) s.dev) hc (doorCommand_active (d := s.dev) h)
    have act := ownDoorRelease_eq (tag := tag) (d := taken (f 0#8) s.dev) hi hc
    generalize dorRelease i (taken (f 0#8) s.dev) = e at told self others act
    have hself : e.door i = after := self
    obtain ⟨requests, replies, kept⟩ := told.replied (f := f 0#8)
      (p := doorCommandReply e i (releaseOutcome (e.door i).release))
    refine ⟨_, .of_effect (f := f 0#8) rfl h act requests, hself, others, requests, replies.trans ?_, kept⟩
    rw [doorCommandReply, hself, releaseOutcome_eq]
    rfl
  · intro h
    obtain ⟨told, self, others⟩ := dorClose_outcome (d := taken (f 1#8) s.dev) hc
    have act := ownDoorClose_eq (tag := tag) (d := taken (f 1#8) s.dev) hi hc
    generalize dorClose i (taken (f 1#8) s.dev) = e at told self others act
    obtain ⟨requests, replies, kept⟩ := told.replied (f := f 1#8) (p := doorCommandReply e i 3)
    refine ⟨_, .of_effect (f := f 1#8) rfl h act requests, self, others, requests, replies.trans ?_, kept⟩
    rw [doorCommandReply, self]
    rfl

end Sys2Proof.Machine
end


section
/-! SUPPORT. The changes of mode that keep the blocks running, and the driver supply: SWEEP's end, SERVICE, the
supply's end and its restoring, the reset's flush (O9, O11, O57, O60). -/

namespace Sys2Proof.Machine

variable {d e e' : Dev} {m : ModState}

/-! ## What the running blocks do among themselves -/

/-- From `d` to `e` DOR and GAU change and the other blocks are told. -/
def Acted (d e : Dev) : Prop := Told 2 { d with dor := e.dor } e

theorem Acted.refl (d : Dev) : Acted d d := Told.refl 2 d

theorem Acted.trans {a b c : Dev} (h : Acted a b) (k : Acted b c) : Acted a c := by
  have widened : Told 2 { a with dor := c.dor } { b with dor := c.dor } := { (show Told 2 _ b from h) with dor := rfl }
  exact widened.trans k

theorem Told.acted {n : Nat} (h : Told n d e) (hn : n ≤ 2) : Acted d e := by
  have widened := h.widen 2 hn
  unfold Acted
  rw [widened.dor]
  exact widened

theorem DoorsTold.acted (h : DoorsTold d e) : Acted d e := Told.widen h 2 (by decide)

theorem Acted.clock (h : Acted d e) : e.clock = d.clock := (show Told 2 _ e from h).clock
theorem Acted.seq (h : Acted d e) : e.seq = d.seq := (show Told 2 _ e from h).seq
theorem Acted.sig (h : Acted d e) : e.sig = d.sig := (show Told 2 _ e from h).sig
theorem Acted.cal (h : Acted d e) : e.cal = d.cal := (show Told 2 _ e from h).cal
theorem Acted.mod (h : Acted d e) : e.mod = d.mod := (show Told 2 _ e from h).mod

/-- What an answer after a change of the running blocks and of the mode leaves as it was. -/
theorem Acted.replied {f : Frame} {p : List Byte} (h : Acted { taken f d with mod := m } e) :
    (replied f p e).lnk.requests = (taken f d).lnk.requests ∧
      (replied f p e).lnk.replies = d.lnk.replies ++ [⟨f.kind + 0x80#8, f.tag, p, false⟩] ∧
      (replied f p e).clock = d.clock ∧ (replied f p e).seq = d.seq ∧ (replied f p e).sig = d.sig ∧
      (replied f p e).cal = d.cal ∧ (replied f p e).mod = m := by
  have lnk : e.lnk.requests = (taken f d).lnk.requests ∧ e.lnk.replies = d.lnk.replies := by
    rw [Told.lnk h]
    exact ⟨rfl, rfl⟩
  refine ⟨lnk.1, ?_, h.clock, h.seq, h.sig, h.cal, h.mod⟩
  rw [← lnk.2]
  rfl

theorem acted_interlockRefresh (entered : Bool) (d : Dev) : Acted d (interlockRefresh entered d) := by
  have told := (told_interlockRefresh entered d).widen 2 (by decide)
  have dor : (interlockRefresh entered d).dor = (d.setInterlock (interlockNow d entered)).dor := told.dor
  unfold Acted
  rw [dor]
  exact told

theorem interlockRefresh_gau (entered : Bool) (d : Dev) : (interlockRefresh entered d).gau = d.gau :=
  (told_interlockRefresh entered d).gau (le_refl 1)

theorem interlockRefresh_gauge (entered : Bool) (g : Fin 6) (d : Dev) :
    (interlockRefresh entered d).gauge g = d.gauge g :=
  congrArg (fun w : GauState => w.gauges[g]) (interlockRefresh_gau entered d)

theorem interlockRefresh_door (entered : Bool) (i : Fin 4) (d : Dev) :
    (interlockRefresh entered d).door i = d.door i := by
  unfold Dev.door
  rw [interlockRefresh_dor]

theorem lampsKept_interlockRefresh (entered : Bool) (d : Dev) : LampsKept d (interlockRefresh entered d) := by
  unfold interlockRefresh
  extract_lets old new a b
  have written : LampsKept d a := .of_wrn rfl
  have report : LampsKept d b := written.trans (lampsKept_fltReportIf _ _ _ _ a)
  split
  · have posted : LampsKept b (postInterlock b) := (told_lnkPost _ _ _ (.refl 0 b)).lampsKept
    exact (report.trans posted).trans (lampsKept_evaluateWhere _ _)
  · exact report

/-! ## Gauges, one after the other -/

theorem gauge_of_gau (h : e.gau = d.gau) (g : Fin 6) : e.gauge g = d.gauge g :=
  congrArg (fun w : GauState => w.gauges[g]) h

/-- The same change of every gauge, taken gauge by gauge: each record depends on its own and the part alone. -/
theorem forEach_gauge {f : Fin 6 → Dev → Dev} (told : ∀ g e, Told 2 e (f g e))
    (others : ∀ g e (k : Fin 6), g ≠ k → (f g e).gauge k = e.gauge k) (d : Dev) (g : Fin 6) :
    ∃ e, Told 2 d e ∧ e.gauge g = d.gauge g ∧ (forEach 6 f d).gauge g = (f g e).gauge g := by
  refine forEach_at (before := fun e => Told 2 d e ∧ e.gauge g = d.gauge g)
    (after := fun e' => ∃ e, Told 2 d e ∧ e.gauge g = d.gauge g ∧ e'.gauge g = (f g e).gauge g) g
    (fun j hj e ⟨ht, he⟩ => ⟨ht.trans (told j e), (others j e g hj).trans he⟩)
    (fun e ⟨ht, he⟩ => ⟨e, ht, he, rfl⟩)
    (fun j hj e' ⟨e, ht, he, h⟩ => ⟨e, ht, he, (others j e' g hj).trans h⟩) ⟨.refl 2 d, rfl⟩

theorem gaugeChange_gauge_ne {g k : Fin 6} (h : g ≠ k) (f : GaugeRec → GaugeRec) (d : Dev) :
    (gaugeChange g f d).gauge k = d.gauge k := (gaugeChange_gauge ..).trans (if_neg h)

theorem gaugeChange_gauge_self (g : Fin 6) (f : GaugeRec → GaugeRec) (d : Dev) :
    (gaugeChange g f d).gauge g = (f (d.gauge g)).written := (gaugeChange_gauge ..).trans (if_pos rfl)

theorem setGauge_gauge_ne {g k : Fin 6} (h : g ≠ k) (r : GaugeRec) (d : Dev) :
    (d.setGauge g r).gauge k = d.gauge k := (setGauge_gauge_written d g k r).trans (if_neg h)

theorem setGauge_gauge_self (g : Fin 6) (r : GaugeRec) (d : Dev) : (d.setGauge g r).gauge g = r.written :=
  (setGauge_gauge_written d g g r).trans (if_pos rfl)

theorem lampsKept_gaugeTell (g : Fin 6) (old : GaugeRec) (d : Dev) : LampsKept d (gaugeTell g old d) := by
  unfold gaugeTell
  extract_lets new a
  have posted : LampsKept d a := by
    unfold a
    split
    · exact (told_lnkPost _ _ _ (.refl 0 d)).lampsKept
    · exact .refl d
  split
  · exact posted.trans (lampsKept_evaluateWhere _ _)
  · exact posted

theorem lampsKept_gaugeChange (g : Fin 6) (f : GaugeRec → GaugeRec) (d : Dev) : LampsKept d (gaugeChange g f d) :=
  have written : LampsKept d (d.setGauge g (f (d.gauge g))) := .of_wrn rfl
  written.trans (lampsKept_gaugeTell g _ _)

/-! ## The end of SWEEP (R68, R174) -/

/-- One gauge's turn at the entry to RUN. -/
def gaugeEnterRun (g : Fin 6) (d : Dev) : Dev :=
  if (d.gauge g).state == .sweep then
    gaugeChange g (fun r => deriveTarget d (d.gaugeCfg g) { r with phase := none, holdTimer := none }) d
  else d.setGauge g { d.gauge g with sweepDone := none }

theorem gauEnterRun_eq (d : Dev) : gauEnterRun d = forEach 6 gaugeEnterRun d := rfl

theorem gaugeEnterRun_sweep {g : Fin 6} (h : (d.gauge g).state = .sweep) : gaugeEnterRun g d =
    gaugeChange g (fun r => deriveTarget d (d.gaugeCfg g) { r with phase := none, holdTimer := none }) d :=
  if_pos (by rw [h]; rfl)

theorem gaugeEnterRun_other {g : Fin 6} (h : (d.gauge g).state ≠ .sweep) :
    gaugeEnterRun g d = d.setGauge g { d.gauge g with sweepDone := none } :=
  if_neg (by simpa using h)

theorem told_gaugeEnterRun (g : Fin 6) (d : Dev) : Told 2 d (gaugeEnterRun g d) := by
  unfold gaugeEnterRun
  split
  · exact told_gaugeChange _ _ (.refl 2 d)
  · exact told_setGauge _ _ (.refl 2 d)

theorem gaugeEnterRun_ne {g k : Fin 6} (h : g ≠ k) (d : Dev) : (gaugeEnterRun g d).gauge k = d.gauge k := by
  unfold gaugeEnterRun
  split
  · exact gaugeChange_gauge_ne h _ d
  · exact setGauge_gauge_ne h _ d

theorem lampsKept_gauEnterRun (d : Dev) : LampsKept d (gauEnterRun d) := by
  refine .forEach (fun g e => ?_) d
  split
  · exact lampsKept_gaugeChange _ _ e
  · exact .of_wrn rfl

/-- A gauge in SWEEP goes into pursuit without its phase, and any other keeps its state. -/
theorem gauEnterRun_gauge (g : Fin 6) (d : Dev) :
    ((d.gauge g).state = .sweep → ((gauEnterRun d).gauge g).phase = none ∧
      (((gauEnterRun d).gauge g).state = .tracking ∨ ((gauEnterRun d).gauge g).state = .invalid)) ∧
    ((d.gauge g).state ≠ .sweep → ((gauEnterRun d).gauge g).state = (d.gauge g).state) := by
  obtain ⟨e, -, he, after⟩ := forEach_gauge told_gaugeEnterRun (fun g e k h => gaugeEnterRun_ne h e) d g
  rw [gauEnterRun_eq, after, ← he]
  refine ⟨fun hs => ?_, fun hs => ?_⟩
  · rw [gaugeEnterRun_sweep hs, gaugeChange_gauge_self]
    have state := deriveTarget_state e (e.gaugeCfg g) { e.gauge g with phase := none, holdTimer := none }
    have driven : (deriveTarget e (e.gaugeCfg g) { e.gauge g with phase := none, holdTimer := none }).state.driven
        = true := by rcases state with h | h <;> rw [h] <;> rfl
    rw [GaugeRec.written_driven driven]
    refine ⟨?_, state⟩
    unfold deriveTarget
    split <;> rfl
  · rw [gaugeEnterRun_other hs, setGauge_gauge_self, GaugeRec.written_state]

/-- MOD at a change of mode (R169). -/
def ModState.entered (mode : Mode) (cause : ModeCause) (m : ModState) : ModState :=
  { m with mode := mode, previous := some m.mode, cause := cause }

theorem told_modSet (mode : Mode) (cause : ModeCause) (d : Dev) :
    Told 0 { d with mod := d.mod.entered mode cause } (modSet mode cause d) := told_lnkPost _ _ _ (.refl 0 _)

/-- MOD when SWEEP has ended in RUN. -/
def ModState.swept (m : ModState) : ModState := { m.entered .run .sweepDone with bulb := .stopped }

/-- The entry to RUN as the mode change, then GAU, WRN and the interlock. -/
theorem sweepToRun_eq (d : Dev) : ∃ a, Told 0 { d with mod := d.mod.swept } a ∧
    sweepToRun d = interlockRefresh true (wrnEnterRun (gauEnterRun a)) := by
  have told := told_modSet .run .sweepDone d
  refine ⟨{ modSet .run .sweepDone d with mod := d.mod.swept }, { told with mod := rfl }, ?_⟩
  have stopped : ({ (modSet .run .sweepDone d).mod with bulb := .stopped } : ModState) = d.mod.swept := by
    rw [told.mod]
    rfl
  rw [← stopped]
  rfl

theorem acted_sweepToRun (d : Dev) : Acted { d with mod := d.mod.swept } (sweepToRun d) := by
  obtain ⟨a, ha, eq⟩ := sweepToRun_eq d
  rw [eq]
  have blocks : Told 2 a (wrnEnterRun (gauEnterRun a)) := told_wrnEnterRun (told_gauEnterRun (.refl 2 a))
  exact ((ha.acted (by decide)).trans (blocks.acted (by decide))).trans (acted_interlockRefresh true _)

theorem lampsKept_wrnEnterRun (d : Dev) : LampsKept d (wrnEnterRun d) :=
  (lampsKept_lampsRefresh d).trans (chimeOnly_grant _).lampsKept

theorem sweepToRun_kept (d : Dev) : (∀ i, (sweepToRun d).door i = d.door i) ∧ LampsKept d (sweepToRun d) ∧
    ∀ g, ((d.gauge g).state = .sweep → ((sweepToRun d).gauge g).phase = none ∧
      (((sweepToRun d).gauge g).state = .tracking ∨ ((sweepToRun d).gauge g).state = .invalid)) ∧
    ((d.gauge g).state ≠ .sweep → ((sweepToRun d).gauge g).state = (d.gauge g).state) := by
  obtain ⟨a, ha, eq⟩ := sweepToRun_eq d
  have before (g : Fin 6) : a.gauge g = d.gauge g := gauge_of_gau (ha.gau (by decide)) g
  have blocks : Told 2 a (wrnEnterRun (gauEnterRun a)) := told_wrnEnterRun (told_gauEnterRun (.refl 2 a))
  have after (g : Fin 6) : (sweepToRun d).gauge g = (gauEnterRun a).gauge g := by
    rw [eq, interlockRefresh_gauge]
    exact gauge_of_gau ((told_wrnEnterRun (.refl 1 _)).gau (le_refl 1)) g
  refine ⟨fun i => ?_, ?_, fun g => ?_⟩
  · rw [eq, interlockRefresh_door]
    exact congrArg (fun w : DorState => w.doors[i]) (blocks.dor.trans ha.dor)
  · rw [eq]
    have entered : LampsKept d a := .of_wrn (ha.wrn rfl)
    exact (entered.trans (lampsKept_gauEnterRun a)).trans
      ((lampsKept_wrnEnterRun _).trans (lampsKept_interlockRefresh true _))
  · rw [after, ← before]
    exact gauEnterRun_gauge g a

theorem sweepComplete_iff : sweepComplete d = true ↔ ∀ g : Fin 6, (d.gaugeCfg g).enabled = true →
    (d.gauge g).phase = some .done ∨ (d.gauge g).state = .lockedOff := by
  simp only [sweepComplete, List.all_eq_true, List.mem_finRange, true_implies, Bool.or_eq_true, beq_iff_eq,
    Bool.not_eq_true', or_assoc]
  exact forall_congr' fun g => by cases (d.gaugeCfg g).enabled <;> simp

theorem modSweepCheck_ends (hm : d.mod.mode = .sweep) (hb : d.mod.bulb = .expired) (h : sweepComplete d = true) :
    modSweepCheck d = sweepToRun d := if_pos (by rw [hm, hb, h]; rfl)

theorem modSweepCheck_waits (h : sweepComplete d = false) : modSweepCheck d = d := if_neg (by rw [h]; simp)

/-- Settles O9: MOD's look at the sweep when the bulb-check timer has expired. -/
theorem bulbCheckExpiryEndsSweep : Obligations.BulbCheckExpiryEndsSweep := by
  intro s t hb hm done
  have run : bulbEnd s.dev = modSweepCheck { s.dev.advanceTo t with mod := { s.dev.mod with bulb := .expired } } := by
    unfold bulbEnd
    rw [hb]
    rfl
  have complete : sweepComplete { s.dev.advanceTo t with mod := { s.dev.mod with bulb := .expired } } = true ↔ done :=
    sweepComplete_iff
  refine ⟨fun h => .of_event rfl ?_, fun h => ⟨_, .of_event rfl (run.trans (modSweepCheck_ends hm rfl
    (complete.mpr h))), ?_⟩⟩
  · rw [run]
    exact modSweepCheck_waits (Bool.eq_false_iff.mpr fun hc => h (complete.mp hc))
  · generalize hd : ({ s.dev.advanceTo t with mod := { s.dev.mod with bulb := .expired } } : Dev) = d
    have acted := acted_sweepToRun d
    obtain ⟨-, -, gauges⟩ := sweepToRun_kept d
    rw [acted.mod, acted.seq, acted.sig, acted.cal]
    refine ⟨?_, fun g hg => (gauges g).1 ?_, ?_, ?_, ?_⟩
    · subst hd
      show ModState.swept { s.dev.mod with bulb := .expired } = _
      rw [ModState.swept, ModState.entered, hm]
    all_goals subst hd
    · exact hg
    all_goals rfl

/-- MOD's look at the sweep: nothing, or the entry to RUN. -/
theorem modSweepCheck_outcome (d : Dev) : modSweepCheck d = d ∨ modSweepCheck d = sweepToRun d := by
  unfold modSweepCheck
  split
  · exact .inr rfl
  · exact .inl rfl

/-- What MOD's look at the sweep keeps: the doors, the lamps' drivers, and the state of a gauge that is not in SWEEP; of
MOD all but the mode, its record and the bulb-check timer. -/
theorem modSweepCheck_kept (d : Dev) : Acted { d with mod := (modSweepCheck d).mod } (modSweepCheck d) ∧
    ((modSweepCheck d).mod = d.mod ∨ (modSweepCheck d).mod = d.mod.swept) ∧
    (∀ i, (modSweepCheck d).door i = d.door i) ∧ LampsKept d (modSweepCheck d) ∧
    ∀ g, ((d.gauge g).state = .sweep ∧
        (((modSweepCheck d).gauge g).state = .tracking ∨ ((modSweepCheck d).gauge g).state = .invalid)) ∨
      ((modSweepCheck d).gauge g).state = (d.gauge g).state := by
  rcases modSweepCheck_outcome d with h | h
  · rw [h]
    exact ⟨.refl d, .inl rfl, fun _ => rfl, .refl d, fun _ => .inr rfl⟩
  · rw [h]
    have acted := acted_sweepToRun d
    obtain ⟨doors, lamps, gauges⟩ := sweepToRun_kept d
    refine ⟨by rw [acted.mod]; exact acted, .inr acted.mod, doors, lamps, fun g => ?_⟩
    by_cases hs : (d.gauge g).state = .sweep
    · exact .inl ⟨hs, ((gauges g).1 hs).2⟩
    · exact .inr ((gauges g).2 hs)

/-! ## The driver supply (R69, R180-R182) -/

/-- A gauge the supply's end leaves: neither driven nor in SHUTDOWN. -/
def GaugeState.unsupplied (st : GaugeState) : Prop := st.driven = false ∧ st ≠ .shutdown

/-- One gauge's turn at the supply's end. -/
def gaugeSupplyOff (g : Fin 6) (d : Dev) : Dev :=
  match (d.gauge g).state with
  | .sweep | .tracking | .invalid | .override | .shutdown => gaugeChange g supplyOffRecord d
  | .off | .lockedOff | .supplyOff => d

theorem gauSupplyOff_eq (d : Dev) : gauSupplyOff d = forEach 6 gaugeSupplyOff d := rfl

/-- A driven gauge or one in SHUTDOWN goes to SUPPLY_OFF, and another stays. -/
theorem gaugeSupplyOff_outcome (g : Fin 6) (d : Dev) :
    gaugeSupplyOff g d = gaugeChange g supplyOffRecord d ∨
      (gaugeSupplyOff g d = d ∧ (d.gauge g).state.unsupplied) := by
  unfold gaugeSupplyOff
  split
  · exact .inl rfl
  · exact .inl rfl
  · exact .inl rfl
  · exact .inl rfl
  · exact .inl rfl
  all_goals rename_i hs; rw [hs]; exact .inr ⟨rfl, rfl, nofun⟩

theorem told_gaugeSupplyOff (g : Fin 6) (d : Dev) : Told 2 d (gaugeSupplyOff g d) := by
  rcases gaugeSupplyOff_outcome g d with h | ⟨h, -⟩ <;> rw [h]
  · exact told_gaugeChange _ _ (.refl 2 d)
  · exact .refl 2 d

theorem gaugeSupplyOff_ne {g k : Fin 6} (h : g ≠ k) (d : Dev) : (gaugeSupplyOff g d).gauge k = d.gauge k := by
  rcases gaugeSupplyOff_outcome g d with h' | ⟨h', -⟩ <;> rw [h']
  exact gaugeChange_gauge_ne h _ d

theorem gauSupplyOff_unsupplied (g : Fin 6) (d : Dev) : ((gauSupplyOff d).gauge g).state.unsupplied := by
  obtain ⟨e, -, he, after⟩ := forEach_gauge told_gaugeSupplyOff (fun g e k h => gaugeSupplyOff_ne h e) d g
  rw [gauSupplyOff_eq, after]
  rcases gaugeSupplyOff_outcome g e with h | ⟨h, hu⟩ <;> rw [h]
  · rw [gaugeChange_gauge_self, GaugeRec.written_state]
    exact ⟨rfl, nofun⟩
  · exact hu

theorem GaugeState.unsupplied_kept {st st' : GaugeState} (h : st.unsupplied)
    (hk : (st = .sweep ∧ (st' = .tracking ∨ st' = .invalid)) ∨ st' = st) : st'.unsupplied := by
  rcases hk with ⟨hs, -⟩ | hs
  · exact absurd h.1 (by rw [hs]; decide)
  · rw [hs]
    exact h

/-- MOD when the causes have changed from those of `old`: the supply follows, and each changed cause is held. -/
def suppliedMod (old : ModState) (d : Dev) : ModState :=
  { d.mod with
    supply := nextSupply d
    undervoltHeld := if d.mod.undervolt = old.undervolt then d.mod.undervoltHeld else d.mod.undervolt
    overvoltHeld := if d.mod.overvolt = old.overvolt then d.mod.overvoltHeld else d.mod.overvolt
    overtempHeld := if d.mod.overtemp = old.overtemp then d.mod.overtempHeld else d.mod.overtemp }

/-- GAU and WRN handed the supply's move from `old`, and the SYSTEM warnings looked at where it moved. -/
def supplyHanded (old : Supply) (d : Dev) : Dev :=
  let e := handSupply old d
  if e.mod.supply != old then wrnSystem .driverShutdown e else e

/-- Causes that have changed, up to MOD's look at the sweep. -/
theorem supplyApply_changed {old : ModState} (h : ¬(d.mod.undervolt = old.undervolt ∧ d.mod.overvolt = old.overvolt ∧
    d.mod.overtemp = old.overtemp)) : ∃ a, Told 0 { d with mod := suppliedMod old d } a ∧
      supplyApply old d = modSweepCheck (supplyHanded old.supply a) :=
  ⟨_, told_postSystem (told_causeReport _ _ _ _ (told_causeReport _ _ _ _ (told_causeReport _ _ _ _ (.refl 0 _)))),
    if_neg h⟩

theorem told_supplyHanded (old : Supply) (d : Dev) : Told 2 d (supplyHanded old d) := by
  unfold supplyHanded
  extract_lets e
  have handed : Told 2 d e := told_handSupply old (.refl 2 d)
  split
  · exact told_wrnSystem _ handed
  · exact handed

theorem supplyHanded_unsupplied (hm : d.mod.supply = .off) (g : Fin 6) :
    ((supplyHanded .on d).gauge g).state.unsupplied := by
  have handed : handSupply .on d = wrnSupplyOff (gauSupplyOff d) := by
    unfold handSupply
    rw [hm]
  have gauge : (supplyHanded .on d).gauge g = (gauSupplyOff d).gauge g := by
    unfold supplyHanded
    rw [handed]
    refine gauge_of_gau (Told.gau (reach := 1) ?_ (le_refl 1)) g
    extract_lets e
    have off : Told 1 (gauSupplyOff d) e := told_wrnSupplyOff (.refl 1 _)
    split
    · exact told_wrnSystem _ off
    · exact off
  rw [gauge]
  exact gauSupplyOff_unsupplied g d

/-- Settles O11: UNDERVOLT set and held, the supply handed to GAU and WRN, and MOD's look at the sweep. -/
theorem undervoltageTurnsSupplyOff : Obligations.UndervoltageTurnsSupplyOff := by
  intro s t ht hu
  obtain ⟨d, hd⟩ : ∃ d : Dev, d = { s.dev.advanceTo t with
    mod := { s.dev.mod with undervolt := true, uvTimer := none } } := ⟨_, rfl⟩
  have run : onExpiry s.dev.mod.uvTimer undervoltExpire s.dev = supplyApply s.dev.mod d := by
    rw [ht, onExpiry_some, hd]
    rfl
  obtain ⟨a, ha, eq⟩ := supplyApply_changed (d := d) (old := s.dev.mod) (by rw [hd, hu]; exact fun h => nomatch h.1)
  have handed := told_supplyHanded s.dev.mod.supply a
  have supplied : suppliedMod s.dev.mod d = { s.dev.mod with
      undervolt := true, uvTimer := none, supply := .off, undervoltHeld := true } := by
    subst hd
    unfold suppliedMod
    simp [nextSupply, anyCause, hu]
  have mod : (supplyHanded s.dev.mod.supply a).mod = { s.dev.mod with
      undervolt := true, uvTimer := none, supply := .off, undervoltHeld := true } := by
    rw [handed.mod, ha.mod, ← supplied]
  obtain ⟨acted, look, doors, -, gauges⟩ := modSweepCheck_kept (supplyHanded s.dev.mod.supply a)
  have senses : SensesKept d (modSweepCheck (supplyHanded s.dev.mod.supply a)) := by
    have before : SensesKept d a := (senses_mod _ d).trans ha.senses
    exact (before.trans handed.senses).trans (senses_modSweepCheck _)
  have unsupplied (hs : s.dev.mod.supply = .on) (g : Fin 6) :
      ((modSweepCheck (supplyHanded s.dev.mod.supply a)).gauge g).state.unsupplied := by
    refine GaugeState.unsupplied_kept ?_ (gauges g)
    rw [hs]
    exact supplyHanded_unsupplied (by rw [ha.mod, supplied]) g
  refine ⟨_, .of_event rfl (run.trans eq), ?_⟩
  have doorsKept (i : Fin 4) : (supplyHanded s.dev.mod.supply a).door i = s.dev.door i := by
    unfold Dev.door
    rw [handed.dor, ha.dor, hd]
    rfl
  refine ⟨by rw [senses.clock, hd]; rfl, ?_, ?_, ?_, ?_, ?_, ?_, fun hs g => unsupplied hs g,
    fun i => (doors i).trans (doorsKept i), by rw [senses.sig, hd]; rfl, by rw [senses.seq, hd]; rfl,
    by rw [senses.cal, hd]; rfl⟩
  all_goals
    rcases look with h | h
    · rw [h, mod]
    · rw [h, mod]
      rfl

/-! ## SERVICE (R176, R177) -/

theorem parkingHolds_iff : parkingHolds d = true ↔
    ∀ ch, d.parkingChannel = some ch → (d.chan ch).quality = .good ∧ (d.chan ch).value = 1 := by
  unfold parkingHolds
  cases d.parkingChannel with
  | none => simp
  | some ch => simp [ChanRec.isActive, ChanRec.isGood]

theorem ownServiceEnter_run {tag : Byte} (hm : d.mod.mode = .run) : ownServiceEnter tag d =
    if d.pls.standstill = true ∧ parkingHolds d = true then lnkAnswer tag (okReply []) (runToService d)
    else refuse tag .refusedCondition d := by
  unfold ownServiceEnter
  rw [hm]
  simp only [Bool.and_eq_true]
  rfl

theorem ownServiceEnter_service {tag : Byte} (hm : d.mod.mode = .service) :
    ownServiceEnter tag d = lnkAnswer tag (okReply []) d := by
  unfold ownServiceEnter
  rw [hm]
  rfl

theorem ownServiceEnter_sweep {tag : Byte} (hm : d.mod.mode = .sweep) :
    ownServiceEnter tag d = refuse tag .refusedMode d := by
  unfold ownServiceEnter
  rw [hm]

theorem ownServiceExit_service {tag : Byte} (hm : d.mod.mode = .service) :
    ownServiceExit tag d = lnkAnswer tag (okReply []) (serviceToRun .serviceExit d) := by
  unfold ownServiceExit
  rw [hm]
  rfl

theorem ownServiceExit_run {tag : Byte} (hm : d.mod.mode = .run) :
    ownServiceExit tag d = lnkAnswer tag (okReply []) d := by
  unfold ownServiceExit
  rw [hm]
  rfl

theorem ownServiceExit_sweep {tag : Byte} (hm : d.mod.mode = .sweep) :
    ownServiceExit tag d = refuse tag .refusedMode d := by
  unfold ownServiceExit
  rw [hm]

theorem runToService_kept (d : Dev) : Acted { d with mod := d.mod.entered .service .serviceRequest } (runToService d) ∧
    (runToService d).gau = d.gau ∧ (runToService d).dor.doors = d.dor.doors := by
  have entered := told_modSet .service .serviceRequest d
  refine ⟨(entered.acted (by decide)).trans (acted_interlockRefresh false _), ?_, ?_⟩
  · exact (interlockRefresh_gau false _).trans (entered.gau (by decide))
  · unfold runToService
    rw [interlockRefresh_dor, entered.dor]

@[simp] theorem GaugeRec.written_overrideAngle (r : GaugeRec) : r.written.overrideAngle = r.overrideAngle := by
  unfold GaugeRec.written
  split <;> rfl

/-- One gauge's turn where overrides end. -/
def gaugeEndOverride (g : Fin 6) (d : Dev) : Dev :=
  if (d.gauge g).overrideAngle.isSome then endOverride g d else d

theorem gauEndOverrides_eq (d : Dev) : gauEndOverrides d = forEach 6 gaugeEndOverride d := rfl

theorem told_gaugeEndOverride (g : Fin 6) (d : Dev) : Told 2 d (gaugeEndOverride g d) := by
  unfold gaugeEndOverride
  split
  · exact told_endOverride g (.refl 2 d)
  · exact .refl 2 d

theorem gaugeEndOverride_ne {g k : Fin 6} (h : g ≠ k) (d : Dev) : (gaugeEndOverride g d).gauge k = d.gauge k := by
  unfold gaugeEndOverride
  split
  · exact gaugeChange_gauge_ne h _ d
  · rfl

theorem gaugeEndOverride_self (g : Fin 6) (d : Dev) : ((gaugeEndOverride g d).gauge g).overrideAngle = none ∧
    ((d.gauge g).overrideAngle = none → (gaugeEndOverride g d).gauge g = d.gauge g) := by
  unfold gaugeEndOverride
  split
  · rename_i hs
    refine ⟨?_, fun h => absurd hs (by rw [h]; decide)⟩
    unfold endOverride
    rw [gaugeChange_gauge_self, GaugeRec.written_overrideAngle]
    extract_lets r
    split
    · exact (deriveTarget_keeps d _ _).1
    · rfl
  · rename_i hs
    exact ⟨by simpa using hs, fun _ => rfl⟩

theorem gauEndOverrides_gauge (g : Fin 6) (d : Dev) : ((gauEndOverrides d).gauge g).overrideAngle = none ∧
    ((d.gauge g).overrideAngle = none → (gauEndOverrides d).gauge g = d.gauge g) := by
  obtain ⟨e, -, he, after⟩ := forEach_gauge told_gaugeEndOverride (fun g e k h => gaugeEndOverride_ne h e) d g
  rw [gauEndOverrides_eq, after, ← he]
  exact gaugeEndOverride_self g e

/-- One lamp's turn where forces end. -/
def lampUnforced (l : Fin 24) (d : Dev) : Dev := lampUpdate l (fun r => { r with force := none }) d

theorem forEach_lampUnforced (l : Fin 24) (d : Dev) : ((forEach 24 lampUnforced d).lamp l).force = none := by
  obtain ⟨e, -, -, after⟩ := forEach_lamp (f := lampUnforced) (fun l e => lampsOnly_lampUpdate l _ e)
    (fun l e k h => lampUpdate_lamp_ne _ e h) d l
  rw [after]
  unfold lampUnforced
  rw [lampUpdate_lamp_self, lampWritten_eq]

theorem chimeSilence_test (d : Dev) : (chimeSilence d).wrn.test = d.wrn.test := by
  unfold chimeSilence
  rfl

theorem chimeRemoveTest_kept (d : Dev) : (chimeRemoveTest d).wrn.test = none ∧
    ∀ l, (chimeRemoveTest d).lamp l = d.lamp l := by
  unfold chimeRemoveTest
  split
  · rename_i h
    exact ⟨h, fun _ => rfl⟩
  · extract_lets a
    split
    · split
      · exact ⟨chimeSilence_test _, fun _ => rfl⟩
      · exact ⟨rfl, fun _ => rfl⟩
    · exact ⟨rfl, fun _ => rfl⟩
    · exact ⟨rfl, fun _ => rfl⟩

theorem wrnLeaveService_ends (d : Dev) : (wrnLeaveService d).wrn.test = none ∧
    ∀ l, ((wrnLeaveService d).lamp l).force = none := by
  obtain ⟨test, lamps⟩ := chimeRemoveTest_kept (forEach 24 lampUnforced d)
  refine ⟨test, fun l => ?_⟩
  show ((chimeRemoveTest (forEach 24 lampUnforced d)).lamp l).force = none
  rw [lamps]
  exact forEach_lampUnforced l d

/-- What SERVICE's end leaves: overrides, forces and the chime test gone, the doors and the other gauges as they were. -/
theorem serviceToRun_kept (cause : ModeCause) (d : Dev) :
    Acted { d with mod := d.mod.entered .run cause } (serviceToRun cause d) ∧
    (∀ g, ((serviceToRun cause d).gauge g).overrideAngle = none ∧
      ((d.gauge g).overrideAngle = none → (serviceToRun cause d).gauge g = d.gauge g)) ∧
    (∀ l, ((serviceToRun cause d).lamp l).force = none) ∧ (serviceToRun cause d).wrn.test = none ∧
    (serviceToRun cause d).dor.doors = d.dor.doors := by
  obtain ⟨a, ha⟩ : ∃ a, a = modSet .run cause d := ⟨_, rfl⟩
  have entered : Told 0 { d with mod := d.mod.entered .run cause } a := ha ▸ told_modSet .run cause d
  have eq : serviceToRun cause d = interlockRefresh false (wrnLeaveService (gauEndOverrides a)) := by
    rw [ha]
    rfl
  have blocks : Told 2 a (wrnLeaveService (gauEndOverrides a)) := told_wrnLeaveService (told_gauEndOverrides (.refl 2 a))
  obtain ⟨test, forces⟩ := wrnLeaveService_ends (gauEndOverrides a)
  have lamps := lampsKept_interlockRefresh false (wrnLeaveService (gauEndOverrides a))
  have gauge (g : Fin 6) : (serviceToRun cause d).gauge g = (gauEndOverrides a).gauge g := by
    rw [eq, interlockRefresh_gauge]
    exact gauge_of_gau ((told_wrnLeaveService (.refl 1 _)).gau (le_refl 1)) g
  have before (g : Fin 6) : a.gauge g = d.gauge g := gauge_of_gau (entered.gau (by decide)) g
  refine ⟨?_, fun g => ?_, fun l => ?_, ?_, ?_⟩
  · rw [eq]
    exact ((entered.acted (by decide)).trans (blocks.acted (by decide))).trans (acted_interlockRefresh false _)
  · rw [gauge, ← before]
    exact gauEndOverrides_gauge g a
  · rw [eq, lamps.force]
    exact forces l
  · rw [eq, lamps.test]
    exact test
  · rw [eq, interlockRefresh_dor, blocks.dor, entered.dor]

/-- Settles O57: each request by the mode, entry and exit as changes of the running blocks. -/
theorem serviceIsEnteredAndLeft : Obligations.ServiceIsEnteredAndLeft := by
  intro s tag f answers queued ready
  have ready_iff : ready ↔ s.dev.pls.standstill = true ∧ parkingHolds (taken (f 0x10#8) s.dev) = true :=
    and_congr Iff.rfl parkingHolds_iff.symm
  refine ⟨?_, ?_⟩
  · intro h
    refine ⟨fun hm hr => ?_, fun hm hr => ?_, fun hm => ?_, fun hm => ?_⟩
    · have act : ownServiceEnter tag (taken (f 0x10#8) s.dev) = _ := (ownServiceEnter_run (by exact hm)).trans
        (if_pos (ready_iff.mp hr))
      obtain ⟨acted, gau, doors⟩ := runToService_kept (taken (f 0x10#8) s.dev)
      generalize runToService (taken (f 0x10#8) s.dev) = e at act acted gau doors
      obtain ⟨requests, replies, clock, seq, sig, cal, mod⟩ := acted.replied (f := f 0x10#8) (p := [0#8])
      refine ⟨_, .of_effect (f := f 0x10#8) rfl h act requests, ⟨requests, replies⟩, ?_, gau, doors, seq, sig, cal,
        clock⟩
      refine mod.trans ?_
      rw [ModState.entered, taken_mod, hm]
    · exact .of_refusal (f := f 0x10#8) (st := .refusedCondition) rfl h
        ((ownServiceEnter_run (by exact hm)).trans (if_neg fun hc => hr (ready_iff.mpr hc)))
    · exact .of_answer (f := f 0x10#8) rfl h (ownServiceEnter_service (by exact hm)) rfl
    · exact .of_refusal (f := f 0x10#8) (st := .refusedMode) rfl h (ownServiceEnter_sweep (by exact hm))
  · intro h
    refine ⟨fun hm => ?_, fun hm => ?_, fun hm => ?_⟩
    · have act := ownServiceExit_service (tag := tag) (d := taken (f 0x11#8) s.dev) (by exact hm)
      obtain ⟨acted, gauges, forces, test, doors⟩ := serviceToRun_kept .serviceExit (taken (f 0x11#8) s.dev)
      generalize serviceToRun .serviceExit (taken (f 0x11#8) s.dev) = e at act acted gauges forces test doors
      obtain ⟨requests, replies, clock, seq, sig, cal, mod⟩ := acted.replied (f := f 0x11#8) (p := [0#8])
      refine ⟨_, .of_effect (f := f 0x11#8) rfl h act requests, ⟨requests, replies⟩, ?_,
        fun g hg => (gauges g).2 hg.2, fun g => (gauges g).1, forces, test, doors, seq, sig, cal⟩
      refine mod.trans ?_
      rw [ModState.entered, taken_mod, hm]
    · exact .of_answer (f := f 0x11#8) rfl h (ownServiceExit_run (by exact hm)) rfl
    · exact .of_refusal (f := f 0x11#8) (st := .refusedMode) rfl h (ownServiceExit_sweep (by exact hm))

/-! ## RESTORE_OUTPUTS and RESET (R178, R182) -/

/-- One gauge's turn where the locks are lifted. -/
def gaugeFree (g : Fin 6) (d : Dev) : Dev :=
  if (d.gauge g).state == .lockedOff then
    gaugeChange g (fun r => resumeRecord d (d.gaugeCfg g) { r with restarts := 0 }) d
  else d

theorem gauFree_eq (d : Dev) : gauFree d = forEach 6 gaugeFree d := rfl

theorem told_gaugeFree (g : Fin 6) (d : Dev) : Told 2 d (gaugeFree g d) := by
  unfold gaugeFree
  split
  · exact told_gaugeChange _ _ (.refl 2 d)
  · exact .refl 2 d

theorem gaugeFree_ne {g k : Fin 6} (h : g ≠ k) (d : Dev) : (gaugeFree g d).gauge k = d.gauge k := by
  unfold gaugeFree
  split
  · exact gaugeChange_gauge_ne h _ d
  · rfl

theorem resumeRecord_unlocked (d : Dev) (c : GaugeCfg) (r : GaugeRec) : (resumeRecord d c r).state ≠ .lockedOff := by
  have follows (r : GaugeRec) : (deriveTarget d c r).state ≠ .lockedOff := by
    rcases deriveTarget_state d c r with h | h <;> rw [h] <;> decide
  unfold resumeRecord
  extract_lets q
  split
  · split
    · nofun
    · exact follows _
  · split
    · nofun
    · exact follows _
  all_goals nofun

theorem gauFree_unlocked (g : Fin 6) (d : Dev) : ((gauFree d).gauge g).state ≠ .lockedOff := by
  obtain ⟨e, -, -, after⟩ := forEach_gauge told_gaugeFree (fun g e k h => gaugeFree_ne h e) d g
  rw [gauFree_eq, after]
  unfold gaugeFree
  split
  · rw [gaugeChange_gauge_self, GaugeRec.written_state]
    exact resumeRecord_unlocked e _ _
  · rename_i h
    simpa using h

/-- One lamp's turn where drivers in `was` go back to OK. -/
def lampToOk (was : LampDriver) (f : LampRec → LampRec) (l : Fin 24) (d : Dev) : Dev :=
  if (d.lamp l).driver == was then lampUpdate l (fun r => f { r with driver := .ok }) d else d

theorem lampToOk_only (was : LampDriver) (f : LampRec → LampRec) (l : Fin 24) (d : Dev) :
    LampsOnly d (lampToOk was f l d) := by
  unfold lampToOk
  split
  · exact lampsOnly_lampUpdate l _ d
  · rfl

theorem lampToOk_ne (was : LampDriver) (f : LampRec → LampRec) {l k : Fin 24} (h : l ≠ k) (d : Dev) :
    (lampToOk was f l d).lamp k = d.lamp k := by
  unfold lampToOk
  split
  · exact lampUpdate_lamp_ne _ d h
  · rfl

theorem wrnFree_unlocked (l : Fin 24) (d : Dev) : ((wrnFree d).lamp l).driver ≠ .lockedOff := by
  have eq : wrnFree d = lampsDriverChanged (lampIs d (·.driver == .lockedOff))
      (forEach 24 (lampToOk .lockedOff fun r => { r with retries := 0 }) d) := rfl
  obtain ⟨e, -, -, after⟩ := forEach_lamp (f := lampToOk .lockedOff fun r => { r with retries := 0 })
    (fun l e => lampToOk_only _ _ l e) (fun l e k h => lampToOk_ne _ _ h e) d l
  rw [eq, (lampsKept_lampsDriverChanged _ _).driver, after]
  unfold lampToOk
  split
  · rw [lampUpdate_lamp_self, lampWritten_eq]
    nofun
  · rename_i h
    simpa using h

/-- The supply when it waits no longer (R182). -/
def Supply.restored (st : Supply) : Supply := if st = .waitingRestore then .on else st

/-- The supply restored, up to GAU's and WRN's locks. -/
def supplyRestored (d : Dev) : Dev :=
  if d.mod.supply == .waitingRestore then
    wrnSystem .driverShutdown (handSupply d.mod.supply (postSystem { d with mod := { d.mod with supply := .on } }))
  else d

theorem restoreSupply_eq (d : Dev) : restoreSupply d = modSweepCheck (wrnFree (gauFree (supplyRestored d))) := rfl

theorem told_supplyRestored (d : Dev) :
    Told 2 { d with mod := { d.mod with supply := d.mod.supply.restored } } (supplyRestored d) := by
  unfold supplyRestored Supply.restored
  split
  · rename_i h
    rw [if_pos (by simpa using h)]
    exact told_wrnSystem _ (told_handSupply _ (told_postSystem (.refl 2 _)))
  · rename_i h
    rw [if_neg (by simpa using h)]
    exact .refl 2 d

/-- What the restoring leaves: the supply on if it waited, nothing locked off, the doors as they were. -/
theorem restoreSupply_kept (d : Dev) :
    Acted { d with mod := (restoreSupply d).mod } (restoreSupply d) ∧
    (restoreSupply d).mod.supply = d.mod.supply.restored ∧
    (∀ g, ((restoreSupply d).gauge g).state ≠ .lockedOff) ∧ (∀ l, ((restoreSupply d).lamp l).driver ≠ .lockedOff) ∧
    ∀ i, (restoreSupply d).door i = d.door i := by
  obtain ⟨x, hx⟩ : ∃ x, x = wrnFree (gauFree (supplyRestored d)) := ⟨_, rfl⟩
  have told : Told 2 { d with mod := { d.mod with supply := d.mod.supply.restored } } x :=
    hx ▸ (told_supplyRestored d).trans (told_wrnFree (told_gauFree (.refl 2 _)))
  have gauge (g : Fin 6) : (x.gauge g).state ≠ .lockedOff := by
    rw [hx, gauge_of_gau ((told_wrnFree (.refl 1 _)).gau (le_refl 1))]
    exact gauFree_unlocked g _
  have lamp (l : Fin 24) : (x.lamp l).driver ≠ .lockedOff := hx ▸ wrnFree_unlocked l _
  obtain ⟨acted, look, doors, lamps, gauges⟩ := modSweepCheck_kept x
  rw [restoreSupply_eq, ← hx]
  refine ⟨?_, ?_, fun g => ?_, fun l => ?_, fun i => ?_⟩
  · have before : Acted { d with mod := (modSweepCheck x).mod } { x with mod := (modSweepCheck x).mod } :=
      Told.acted { told with mod := rfl } (le_refl 2)
    exact before.trans acted
  · rcases look with h | h
    · rw [h, told.mod]
    · rw [h]
      exact congrArg (fun k : ModState => k.supply) told.mod
  · rcases gauges g with ⟨-, h | h⟩ | h
    · rw [h]; decide
    · rw [h]; decide
    · rw [h]; exact gauge g
  · rw [lamps.driver]
    exact lamp l
  · rw [doors]
    exact congrArg (fun w : DorState => w.doors[i]) told.dor

theorem anyCause_iff : anyCause d = true ↔ d.mod.undervolt = true ∨ d.mod.overvolt = true ∨ d.mod.overtemp = true := by
  simp [anyCause, or_assoc]

theorem stoGrant_lnk (d : Dev) : (stoGrant d).lnk = d.lnk := by
  have counted (r : Requester) : (countGrant r d).lnk = d.lnk := by
    unfold countGrant
    split <;> rfl
  have granted (r : Requester) (e : Dev) : (grantTo r e).lnk = e.lnk := by
    cases r with
    | odometer => rfl
    | faultWriter | loader | hostRead | imageStore =>
      simp only [grantTo]
      split <;> rfl
  unfold stoGrant
  split
  · rfl
  · split
    · exact (granted _ _).trans (counted _)
    · rfl

theorem plsAskWrite_lnk (d : Dev) : (plsAskWrite d).lnk = d.lnk := by
  unfold plsAskWrite
  split
  · rfl
  · split
    · exact stoGrant_lnk _
    · rfl
    · rfl

/-- MOD when RESET has begun its flush (R178). -/
def resetFlushing (d : Dev) : Dev :=
  { d with mod := { d.mod with flush := .reset, flushTimer := d.timerIn (ms 5000) } }

theorem startResetFlush_active (h : d.mod.mode.active = true) :
    startResetFlush d = plsAskWrite (resetFlushing d) := by
  have mode : (plsAskWrite (resetFlushing d)).mod.mode = d.mod.mode :=
    by rw [(told_plsAskWrite (.refl 0 (resetFlushing d))).mod]; rfl
  unfold startResetFlush
  rw [← resetFlushing]
  dsimp only
  rcases (Mode.active_iff _).mp h with hm | hm | hm <;> rw [mode, hm]

/-- MOD with a reset pending (R178). -/
def resetPended (d : Dev) : Dev := { d with mod := { d.mod with resetPending := true } }

theorem ownReset_eq (tag : Byte) (d : Dev) : ownReset tag d =
    if (lnkAnswer tag (okReply []) (resetPended d)).mod.mode == .saving then lnkAnswer tag (okReply []) (resetPended d)
    else startResetFlush (lnkAnswer tag (okReply []) (resetPended d)) := rfl

/-- Settles O60: the restoring as a change of the running blocks, and the reset's flush begun behind its reply. -/
theorem restoreFreesAndResetFlushes : Obligations.RestoreFreesAndResetFlushes := by
  intro s tag f cause
  have cause_iff : anyCause (taken (f 0x18#8) s.dev) = true ↔ cause := anyCause_iff
  refine ⟨?_, ?_⟩
  · intro h
    refine ⟨fun hc => .of_refusal (f := f 0x18#8) (st := .refusedCondition) rfl h (if_pos (cause_iff.mpr hc)),
      fun hc => ?_⟩
    have act : ownRestoreOutputs tag (taken (f 0x18#8) s.dev) = lnkAnswer tag
        (okReply [byte (restoreSupply (taken (f 0x18#8) s.dev)).mod.supply.code])
        (restoreSupply (taken (f 0x18#8) s.dev)) := if_neg fun h => hc (cause_iff.mp h)
    obtain ⟨acted, supply, gauges, lamps, doors⟩ := restoreSupply_kept (taken (f 0x18#8) s.dev)
    generalize restoreSupply (taken (f 0x18#8) s.dev) = e at act acted supply gauges lamps doors
    obtain ⟨requests, replies, -, seq, sig, cal, -⟩ := acted.replied (f := f 0x18#8)
      (p := okReply [byte e.mod.supply.code])
    exact ⟨_, .of_effect (f := f 0x18#8) rfl h act requests, supply, gauges, lamps, requests, replies, doors, seq, sig,
      cal⟩
  · intro h
    have answered : lnkAnswer tag (okReply []) (resetPended (taken (f 0x19#8) s.dev)) =
        replied (f 0x19#8) [0#8] (resetPended (taken (f 0x19#8) s.dev)) := 
      answer_after (e := resetPended (taken (f 0x19#8) s.dev)) (f := f 0x19#8) h rfl _
    have act := ownReset_eq tag (taken (f 0x19#8) s.dev)
    rw [answered] at act
    refine ⟨fun hm => .of_served (f := f 0x19#8) rfl h (act.trans (if_pos (beq_iff_eq.mpr hm))), fun hm => ?_⟩
    have notSaving : ¬(s.dev.mod.mode == .saving) = true := fun hs => by
      rw [beq_iff_eq.mp hs] at hm
      exact absurd hm (by decide)
    refine ⟨_, .of_served (f := f 0x19#8) rfl h (act.trans ((if_neg notSaving).trans
      (startResetFlush_active (by exact hm)))), ?_⟩
    have told := told_plsAskWrite (.refl 0 (resetFlushing (replied (f 0x19#8) [0#8]
      (resetPended (taken (f 0x19#8) s.dev)))))
    refine ⟨told.mod, plsAskWrite_lnk _, told.wrn rfl, told.gau (by decide), told.dor, told.seq, told.sig, told.cal, ?_⟩
    rw [told.pls]
    rfl

end Sys2Proof.Machine
end


section
/-! SUPPORT. What telling leaves as it was beyond `Told`: predicates on the storage port's queues and on the notices that
no report, notice or evaluation of a warning disturbs. -/

namespace Sys2Proof.Machine

variable {d e : Dev}

/-- FLT written but for its queue and for whether the stored slots have been taken. -/
def FltKept (w v : FltState) : Prop :=
  w.queue = v.queue ∧ w.slotsTaken = v.slotsTaken ∧ w.persistent = v.persistent

/-- A predicate of the part that telling leaves: it is not about WRN or GAU, and posting a notice, dirtying a fault slot
or any other write of FLT leaves it. -/
structure Undisturbed (P : Dev → Prop) : Prop where
  wrn {d : Dev} (w : WrnState) : P d → P { d with wrn := w }
  gau {d : Dev} (w : GauState) : P d → P { d with gau := w }
  flt {d : Dev} (w : FltState) : FltKept w d.flt → P d → P { d with flt := w }
  post {d : Dev} (kind : NoticeKind) (subject : Nat) (content : List Byte) : P d → P (lnkPost kind subject content d)
  dirty {d : Dev} (i : Fin 40) (renewed : Bool) : P d → P (fltDirty i renewed d)

namespace Undisturbed

variable {P : Dev → Prop}

/-! ## Faults -/

theorem commitRecord (hP : Undisturbed P) (i : Fin 40) (r : FaultRec) (renewed : Bool) (h : P d) :
    P (commitRecord i r renewed d) := hP.post _ _ _ (hP.dirty i renewed (hP.flt _ ⟨rfl, rfl, rfl⟩ h))

theorem freeFrame (hP : Undisturbed P) (f : FrameRef) (h : P d) : P (freeFrame f d) := by
  unfold Machine.freeFrame
  split
  · exact hP.flt _ ⟨rfl, rfl, rfl⟩ h
  · exact h
  · exact h

theorem takeFrame (hP : Undisturbed P) (code : BitVec 16) (sev : Severity) (h : P d) : P (takeFrame code sev d).1 := by
  unfold Machine.takeFrame
  split
  · exact h
  · split
    · exact hP.flt _ ⟨rfl, rfl, rfl⟩ h
    · exact h

theorem createRecord (hP : Undisturbed P) (i : Fin 40) (code : BitVec 16) (sev : Severity) (renewed : Bool) (h : P d) :
    P (createRecord i code sev renewed d) := hP.commitRecord _ _ _ (hP.takeFrame code sev h)

theorem replaceRecord (hP : Undisturbed P) (code : BitVec 16) (sev : Severity) (h : P d) :
    P (replaceRecord code sev d) := by
  unfold Machine.replaceRecord
  split
  · split
    · exact hP.createRecord _ _ _ _ (hP.freeFrame _ h)
    · exact hP.flt _ ⟨rfl, rfl, rfl⟩ h
  · exact hP.flt _ ⟨rfl, rfl, rfl⟩ h

theorem fltPresent (hP : Undisturbed P) (code : BitVec 16) (h : P d) : P (fltPresent code d) := by
  unfold Machine.fltPresent
  split
  · exact h
  · dsimp only
    split
    · exact h
    · split
      · split
        · split
          · exact h
          · exact hP.commitRecord _ _ _ h
        · exact h
      · split
        · exact hP.createRecord _ _ _ _ h
        · exact hP.replaceRecord _ _ h

theorem fltAbsent (hP : Undisturbed P) (code : BitVec 16) (h : P d) : P (fltAbsent code d) := by
  unfold Machine.fltAbsent
  split
  · split
    · split
      · exact hP.commitRecord _ _ _ h
      · exact h
    · exact h
  · exact h

theorem fltReport (hP : Undisturbed P) (group index : Nat) (present : Bool) (h : P d) :
    P (fltReport group index present d) := by
  unfold Machine.fltReport
  split
  · exact hP.fltPresent _ h
  · exact hP.fltAbsent _ h

theorem fltReportIf (hP : Undisturbed P) (c : Bool) (group index : Nat) (present : Bool) (h : P d) :
    P (fltReportIf c group index present d) := by
  unfold Machine.fltReportIf
  split
  · exact hP.fltReport _ _ _ h
  · exact h

theorem passivateSlot (hP : Undisturbed P) (i : Fin 40) (h : P d) : P (passivateSlot i d) := by
  unfold Machine.passivateSlot
  split
  · exact h
  · split
    · exact hP.commitRecord _ _ _ h
    · exact h

theorem ageSlot (hP : Undisturbed P) (i : Fin 40) (h : P d) : P (ageSlot i d) := by
  unfold Machine.ageSlot
  split
  · exact h
  · dsimp only
    split
    · exact h
    · split
      · exact hP.post _ _ _ (hP.dirty _ _ (hP.flt _ ⟨rfl, rfl, rfl⟩ (hP.freeFrame _ h)))
      · exact hP.commitRecord _ _ _ h

theorem forEach (_ : Undisturbed P) {n : Nat} {f : Fin n → Dev → Dev} (hf : ∀ i e, P e → P (f i e)) (h : P d) :
    P (forEach n f d) := forEach_keeps (P := P) hf h

theorem aged (hP : Undisturbed P) (c : Option Nat) (h : P d) : P { d with flt := { d.flt with cycleAged := c } } :=
  hP.flt _ ⟨rfl, rfl, rfl⟩ h

theorem fltSaving (hP : Undisturbed P) (h : P d) : P (fltSaving d) := by
  have passive : P (Machine.forEach 40 Machine.passivateSlot d) := hP.forEach (fun i _ => hP.passivateSlot i) h
  unfold Machine.fltSaving
  dsimp only
  split
  · exact hP.aged _ passive
  · refine hP.aged _ (hP.forEach (fun i e he => ?_) passive)
    split
    · exact he
    · exact hP.ageSlot i he

/-! ## Warnings -/

theorem chimeOnly (hP : Undisturbed P) (hc : ChimeOnly d e) (h : P d) : P e := by
  rw [hc]
  exact hP.wrn _ h

theorem warningReport (hP : Undisturbed P) (w : Fin 64) (h : P d) : P (warningReport w d) := by
  unfold Machine.warningReport
  dsimp only
  split
  · exact hP.fltReport _ _ _ (hP.wrn _ h)
  · split
    · exact hP.fltReport _ _ _ (hP.wrn _ h)
    · exact h

theorem warningLamp (hP : Undisturbed P) (w : Fin 64) (h : P d) : P (warningLamp w d) := by
  unfold Machine.warningLamp withIndex
  split
  · split
    · exact hP.wrn _ h
    · exact h
  · exact h

theorem warningEnter (hP : Undisturbed P) (w : Fin 64) (st : WarningState) (rem : Option Remembered) (timer : Timer)
    (h : P d) : P (warningEnter w st rem timer d) := by
  rw [warningEnter_eq]
  exact hP.chimeOnly (chimeOnly_refresh ..) (hP.warningLamp w (hP.post _ _ _ (hP.warningReport w (hP.wrn _ h))))

theorem warningExit (hP : Undisturbed P) (w : Fin 64) (rem : Remembered) (h : P d) : P (warningExit w rem d) := by
  unfold Machine.warningExit
  split
  · exact hP.warningEnter _ _ _ _ h
  · exact hP.warningEnter _ _ _ _ h

theorem warningEnding (hP : Undisturbed P) (w : Fin 64) (rem : Remembered) (h : P d) : P (warningEnding w rem d) := by
  unfold Machine.warningEnding
  split
  · exact hP.warningExit w rem h
  · exact hP.warningEnter _ _ _ _ h

theorem conditionTrue (hP : Undisturbed P) (w : Fin 64) (h : P d) : P (conditionTrue w d) := by
  unfold Machine.conditionTrue
  dsimp only
  split
  · split
    · exact hP.warningEnter _ _ _ _ h
    · exact hP.warningEnter _ _ _ _ h
  · split
    · exact hP.warningEnter _ _ _ _ h
    · exact h
  · exact hP.warningEnter _ _ _ _ h
  all_goals exact h

theorem conditionFalse (hP : Undisturbed P) (w : Fin 64) (h : P d) : P (conditionFalse w d) := by
  unfold Machine.conditionFalse
  split
  · exact hP.warningEnter _ _ _ _ h
  · exact hP.warningEnding w _ h
  · exact hP.warningEnding w _ h
  all_goals exact h

theorem evaluate (hP : Undisturbed P) (w : Fin 64) (h : P d) : P (evaluate w d) := by
  unfold Machine.evaluate
  dsimp only
  split
  · exact h
  · split
    · exact h
    · split
      · exact hP.conditionTrue w (hP.wrn _ h)
      · exact hP.conditionFalse w (hP.wrn _ h)

theorem evaluateWhere (hP : Undisturbed P) (p : WarningCfg → Bool) (h : P d) : P (evaluateWhere p d) := by
  refine hP.forEach (fun w e he => ?_) h
  split
  · exact hP.evaluate w he
  · exact he

theorem wrnSystem (hP : Undisturbed P) (item : Condition) (h : P d) : P (wrnSystem item d) := hP.evaluateWhere _ h

theorem wrnLinkBack (hP : Undisturbed P) (h : P d) : P (wrnLinkBack d) := by
  have cleared : P { d with wrn := { d.wrn with linkLost := false } } := hP.wrn _ h
  exact hP.wrnSystem .linkLost cleared

theorem wrnStop (hP : Undisturbed P) (h : P d) : P (wrnStop d) := by
  refine hP.wrn _ (hP.forEach (fun l e he => ?_) (hP.forEach (fun w e he => ?_) h))
  · exact hP.fltReportIf _ _ _ _ (hP.fltReportIf _ _ _ _ (hP.fltReportIf _ _ _ _ he))
  · exact hP.fltReportIf _ _ _ _ he

/-! ## Gauges -/

theorem gaugeChange (hP : Undisturbed P) (g : Fin 6) (f : GaugeRec → GaugeRec) (h : P d) : P (gaugeChange g f d) := by
  have written : P (d.setGauge g (f (d.gauge g))) := hP.gau _ h
  unfold Machine.gaugeChange gaugeTell
  dsimp only
  have posted (c : Bool) : P (if c then postGauge g (d.setGauge g (f (d.gauge g))) else
      d.setGauge g (f (d.gauge g))) := by
    split
    · exact hP.post _ _ _ written
    · exact written
  split
  · exact hP.evaluateWhere _ (posted _)
  · exact posted _

theorem gauEndOverrides (hP : Undisturbed P) (h : P d) : P (gauEndOverrides d) := by
  refine hP.forEach (fun g e he => ?_) h
  split
  · exact hP.gaugeChange g _ he
  · exact he

theorem gauSaving (hP : Undisturbed P) (h : P d) : P (gauSaving d) := by
  refine hP.forEach (fun g e he => ?_) h
  split
  · exact hP.gaugeChange g _ he
  · exact hP.gau _ he

/-! ## The predicates -/

/-- A slot made dirty joins FLT's queue or writes FLT but for its queue. -/
theorem dirty_of {P : Dev → Prop} (flt : ∀ {d : Dev} (w : FltState), FltKept w d.flt → P d → P { d with flt := w })
    (join : ∀ {d : Dev} (i : Fin 40), d.sto.storage ≠ .absent → P d →
      P (stoGrant { d with flt := { d.flt with queue := d.flt.queue ++ [i] } })) (i : Fin 40) (renewed : Bool) (h : P d) :
    P (fltDirty i renewed d) := by
  have enqueue {e : Dev} (he : P e) : P (fltDirty.enqueue i e) := by
    unfold fltDirty.enqueue
    split
    · exact he
    · rename_i hs
      refine join i ?_ he
      simp only [Bool.or_eq_true, not_or, beq_iff_eq] at hs
      exact hs.1.2
  have dirtied : P (d.setSlot i { d.slot i with dirty := true }) := flt _ ⟨rfl, rfl, rfl⟩ h
  unfold fltDirty
  dsimp only
  split
  · split
    · exact flt _ ⟨rfl, rfl, rfl⟩ dirtied
    · exact enqueue dirtied
  · exact enqueue dirtied

end Undisturbed

/-- A grant is of a job the requester holds (R154). -/
theorem arbitrate_holds {r : Requester} (h : arbitrate d = some r) : holdsJob d r = true := by
  unfold arbitrate at h
  dsimp only at h
  split at h
  · exact List.find?_some h
  · split at h
    · exact List.find?_some h
    · exact List.find?_some h

/-- The grant writes STO, FLT's queue and write, and the odometer job. -/
theorem stoGrant_cases (d : Dev) : stoGrant d = d ∨ ∃ r, holdsJob d r = true ∧ d.sto.job = none ∧
    stoGrant d = grantTo r (countGrant r d) := by
  unfold stoGrant
  split
  · exact .inl rfl
  · rename_i hs
    split
    · rename_i r hr
      refine .inr ⟨r, arbitrate_holds hr, ?_, rfl⟩
      simp only [Bool.or_eq_true, not_or] at hs
      simpa using hs.1
    · exact .inl rfl

theorem countGrant_fields (r : Requester) (d : Dev) : ∃ h l n, countGrant r d =
    { d with sto := { d.sto with lastHigh := h, lastLow := l, highWhileLow := n } } := by
  unfold countGrant
  split
  · exact ⟨_, _, _, rfl⟩
  · exact ⟨_, _, _, rfl⟩

theorem stoGrant_storeQueued (h : d.sto.storeQueued = false) : (stoGrant d).sto.storeQueued = false := by
  rcases stoGrant_cases d with hd | ⟨r, -, -, hd⟩ <;> rw [hd]
  · exact h
  · obtain ⟨x, y, z, hc⟩ := countGrant_fields r d
    rw [hc]
    cases r with
    | odometer => exact h
    | faultWriter | loader | hostRead | imageStore =>
      simp only [grantTo]
      split <;> first | exact h | rfl

theorem lnkPost_cases (kind : NoticeKind) (subject : Nat) (content : List Byte) (d : Dev) :
    ∃ n o, lnkPost kind subject content d = { d with lnk := { d.lnk with notices := n, overflow := o } } := by
  unfold lnkPost
  split
  · exact ⟨_, _, rfl⟩
  · split
    · exact ⟨_, _, rfl⟩
    · split
      · exact ⟨_, _, rfl⟩
      · exact ⟨_, _, rfl⟩

/-- No image page waits for the port. -/
theorem undisturbed_storeQueued : Undisturbed fun d => d.sto.storeQueued = false where
  wrn _ h := h
  gau _ h := h
  flt _ _ h := h
  post kind subject content h := by
    obtain ⟨n, o, eq⟩ := lnkPost_cases kind subject content _
    rw [eq]
    exact h
  dirty i renewed h := Undisturbed.dirty_of (P := fun d => d.sto.storeQueued = false) (fun _ _ h => h)
    (fun _ _ h => stoGrant_storeQueued h) i renewed h

theorem stoGrant_odoIdle (h : d.pls.odoJob = .none) : (stoGrant d).pls.odoJob = .none := by
  rcases stoGrant_cases d with hd | ⟨r, hr, -, hd⟩ <;> rw [hd]
  · exact h
  · obtain ⟨x, y, z, hc⟩ := countGrant_fields r d
    rw [hc]
    cases r with
    | odometer => rw [holdsJob, h] at hr; exact nomatch hr
    | faultWriter | loader | hostRead | imageStore =>
      simp only [grantTo]
      split <;> exact h

/-- PLS has no odometer job. -/
theorem undisturbed_odoIdle : Undisturbed fun d => d.pls.odoJob = .none where
  wrn _ h := h
  gau _ h := h
  flt _ _ h := h
  post kind subject content h := by
    obtain ⟨n, o, eq⟩ := lnkPost_cases kind subject content _
    rw [eq]
    exact h
  dirty i renewed h := Undisturbed.dirty_of (P := fun d => d.pls.odoJob = .none) (fun _ _ h => h)
    (fun _ _ h => stoGrant_odoIdle h) i renewed h

/-- Something is left to flush (R175). -/
def Unflushed (d : Dev) : Prop :=
  d.sto.job.isSome = true ∨ (∃ r, holdsJob d r = true) ∨ d.lnk.requests ≠ [] ∨ d.lnk.replies ≠ []

theorem flushEmpty_iff : flushEmpty d = false ↔ Unflushed d := by
  have held : (groupHolds d highOrder = true ∨ groupHolds d lowOrder = true) ↔ ∃ r, holdsJob d r = true := by
    simp only [groupHolds, highOrder, lowOrder, List.any_cons, List.any_nil, Bool.or_false, Bool.or_eq_true]
    refine ⟨?_, ?_⟩
    · rintro ((h | h | h) | h | h) <;> exact ⟨_, h⟩
    · rintro ⟨r, h⟩
      cases r <;> simp [h]
  unfold Unflushed flushEmpty
  rw [← held]
  cases d.sto.job <;> cases groupHolds d highOrder <;> cases groupHolds d lowOrder <;> cases d.lnk.requests <;>
    cases d.lnk.replies <;> simp

theorem stoGrant_unflushed (h : Unflushed d) : Unflushed (stoGrant d) := by
  rcases stoGrant_cases d with hd | ⟨r, hr, -, hd⟩ <;> rw [hd]
  · exact h
  · obtain ⟨x, y, z, hc⟩ := countGrant_fields r d
    have counted : Unflushed { d with sto := { d.sto with lastHigh := x, lastLow := y, highWhileLow := z } } :=
      .inr (.inl ⟨r, by cases r <;> exact hr⟩)
    rw [hc]
    cases r with
    | odometer => exact .inl rfl
    | faultWriter | loader | hostRead | imageStore =>
      simp only [grantTo]
      split
      · exact .inl rfl
      · exact counted

theorem holdsJob_flt (w : FltState) (hw : w.queue = d.flt.queue) (r : Requester) :
    holdsJob { d with flt := w } r = holdsJob d r := by
  cases r with
  | faultWriter => exact congrArg (fun q : List (Fin 40) => !q.isEmpty) hw
  | odometer | loader | hostRead | imageStore => rfl

theorem unflushed_flt (w : FltState) (hw : w.queue = d.flt.queue) (h : Unflushed d) : Unflushed { d with flt := w } :=
  h.imp id (.imp (fun ⟨r, hr⟩ => ⟨r, (holdsJob_flt w hw r).trans hr⟩) id)

/-- Storage is ABSENT and nothing is left to flush. -/
def Flushed (d : Dev) : Prop := d.sto.storage = .absent ∧ flushEmpty d = true

theorem flushed_flt (w : FltState) (hw : w.queue = d.flt.queue) (h : Flushed d) : Flushed { d with flt := w } := by
  refine ⟨h.1, ?_⟩
  have same : holdsJob { d with flt := w } = holdsJob d := funext (holdsJob_flt w hw)
  unfold flushEmpty groupHolds
  rw [same]
  exact h.2

/-- Something stays to be flushed whatever telling does. -/
theorem undisturbed_unflushed : Undisturbed Unflushed where
  wrn _ h := h.imp id (.imp (fun ⟨r, hr⟩ => ⟨r, by cases r <;> exact hr⟩) id)
  gau _ h := h.imp id (.imp (fun ⟨r, hr⟩ => ⟨r, by cases r <;> exact hr⟩) id)
  flt w hw h := unflushed_flt w hw.1 h
  post kind subject content h := by
    obtain ⟨n, o, eq⟩ := lnkPost_cases kind subject content _
    rw [eq]
    exact h.imp id (.imp (fun ⟨r, hr⟩ => ⟨r, by cases r <;> exact hr⟩) id)
  dirty i renewed h := Undisturbed.dirty_of (P := Unflushed) (fun w hw h => unflushed_flt w hw.1 h)
    (fun i _ _ => stoGrant_unflushed (.inr (.inl ⟨.faultWriter, by simp [holdsJob]⟩))) i renewed h

/-- Where storage is ABSENT telling brings nothing to flush. -/
theorem undisturbed_flushed : Undisturbed Flushed where
  wrn _ h := h
  gau _ h := h
  flt w hw h := flushed_flt w hw.1 h
  post kind subject content h := by
    obtain ⟨n, o, eq⟩ := lnkPost_cases kind subject content _
    rw [eq]
    exact h
  dirty i renewed h := Undisturbed.dirty_of (P := Flushed) (fun w hw h => flushed_flt w hw.1 h)
    (fun _ hs h => absurd h.1 hs) i renewed h

/-- No group of notices is enabled, and none waits. -/
def Unsubscribed (d : Dev) : Prop := d.lnk.mask = 0#8 ∧ d.lnk.notices = []

theorem stoGrant_unsubscribed (h : Unsubscribed d) : Unsubscribed (stoGrant d) := by
  unfold Unsubscribed
  rw [stoGrant_lnk]
  exact h

theorem undisturbed_unsubscribed : Undisturbed Unsubscribed where
  wrn _ h := h
  gau _ h := h
  flt _ _ h := h
  post kind subject content h := by
    rw [lnkPost_unmasked h.1]
    exact h
  dirty i renewed h := Undisturbed.dirty_of (P := Unsubscribed) (fun _ _ h => h)
    (fun _ _ h => stoGrant_unsubscribed h) i renewed h

/-- FLT has taken the stored slots, `b` telling whether it writes them back. -/
def SlotsTaken (b : Bool) (d : Dev) : Prop := d.flt.slotsTaken = true ∧ d.flt.persistent = b

theorem stoGrant_slotsTaken {b : Bool} (h : SlotsTaken b d) : SlotsTaken b (stoGrant d) := by
  unfold SlotsTaken
  rw [stoGrant_flt]
  exact h

theorem undisturbed_slotsTaken (b : Bool) : Undisturbed (SlotsTaken b) where
  wrn _ h := h
  gau _ h := h
  flt _ hw h := ⟨hw.2.1.trans h.1, hw.2.2.trans h.2⟩
  post kind subject content h := by
    obtain ⟨n, o, eq⟩ := lnkPost_cases kind subject content _
    rw [eq]
    exact h
  dirty i renewed h := Undisturbed.dirty_of (P := SlotsTaken b) (fun _ hw h => ⟨hw.2.1.trans h.1, hw.2.2.trans h.2⟩)
    (fun _ _ h => stoGrant_slotsTaken h) i renewed h

end Sys2Proof.Machine
end


section
/-! SUPPORT. The entries to LOADING, STANDBY and SAVING, the resets and the debounced ignition (O6, O8, O10). -/

namespace Sys2Proof.Machine

variable {d e e' : Dev} {m : ModState}

/-! ## The reset (R172) -/

/-- At a power-on reset with the ignition on, the cycle begun and the probe granted are all that moves: the first mode
is evaluated block by block. -/
theorem powerOn_on_gau : (powerOn true).gau = GauState.resetValue := by
  show ({ GauState.resetValue with
    gauges := GauState.resetValue.gauges.map fun r => { r with restarts := 0 } } : GauState) = GauState.resetValue
  unfold GauState.resetValue
  rw [Vector.map_replicate]
  rfl

theorem powerOn_on_dor : (powerOn true).dor = DorState.resetValue := by
  show ({ DorState.resetValue with
    doors := DorState.resetValue.doors.map fun r => { r with obstructions := 0 } } : DorState) = DorState.resetValue
  unfold DorState.resetValue
  rw [Vector.map_replicate]
  rfl

/-- Settles O6: each block of the first mode evaluated from the reset state. -/
theorem powerOnResetEntersFirstMode : Obligations.PowerOnResetEntersFirstMode :=
  fun _ => ⟨.of_event (f := fun _ => powerOn false) rfl rfl, powerOn true, .of_event (f := fun _ => powerOn true) rfl rfl,
    rfl, rfl, rfl, rfl, rfl, rfl, powerOn_on_gau, rfl, powerOn_on_dor, rfl, rfl, rfl⟩

/-! ## What an entry's effects leave -/

/-- From `d` to `e` an entry's effect on some block leaves MOD, DOR, calibration, the clock, the requests and their
replies, whether PLS has taken its ring, STO but for its queues and held flags, and a job in flight. -/
structure Staged (d e : Dev) : Prop where
  clock : e.clock = d.clock
  cal : e.cal = d.cal
  mod : e.mod = d.mod
  dor : e.dor = d.dor
  requests : e.lnk.requests = d.lnk.requests
  replies : e.lnk.replies = d.lnk.replies
  ring : e.pls.ringTaken = d.pls.ringTaken
  sto : e.sto = { d.sto with
    job := e.sto.job, hostReads := e.sto.hostReads, storeQueued := e.sto.storeQueued
    lastHigh := e.sto.lastHigh, lastLow := e.sto.lastLow, highWhileLow := e.sto.highWhileLow
    loader := { d.sto.loader with queued := e.sto.loader.queued }
    absentHeld := e.sto.absentHeld, writeFailedHeld := e.sto.writeFailedHeld, unstoredHeld := e.sto.unstoredHeld }
  flight : d.sto.job.isSome = true → e.sto.job = d.sto.job

theorem Staged.refl (d : Dev) : Staged d d := ⟨rfl, rfl, rfl, rfl, rfl, rfl, rfl, rfl, fun _ => rfl⟩

theorem Staged.trans {a b c : Dev} (h : Staged a b) (k : Staged b c) : Staged a c where
  clock := k.clock.trans h.clock
  cal := k.cal.trans h.cal
  mod := k.mod.trans h.mod
  dor := k.dor.trans h.dor
  requests := k.requests.trans h.requests
  replies := k.replies.trans h.replies
  ring := k.ring.trans h.ring
  sto := by rw [k.sto, h.sto]
  flight hj := (k.flight (by rw [h.flight hj]; exact hj)).trans (h.flight hj)

theorem Staged.loader (h : Staged d e) : e.sto.loader.state = d.sto.loader.state := by rw [h.sto]

theorem Told.staged {n : Nat} (h : Told n d e) : Staged d e where
  clock := h.clock
  cal := h.cal
  mod := h.mod
  dor := h.dor
  requests := by rw [h.lnk]
  replies := by rw [h.lnk]
  ring := by rw [h.pls]
  sto := by rw [h.sto]
  flight := h.flight

theorem staged_seq (w : SeqState) (d : Dev) : Staged d { d with seq := w } :=
  ⟨rfl, rfl, rfl, rfl, rfl, rfl, rfl, rfl, fun _ => rfl⟩
theorem staged_sig (w : SigState) (d : Dev) : Staged d { d with sig := w } :=
  ⟨rfl, rfl, rfl, rfl, rfl, rfl, rfl, rfl, fun _ => rfl⟩
theorem staged_pls (w : PlsState) (hw : w.ringTaken = d.pls.ringTaken) : Staged d { d with pls := w } :=
  ⟨rfl, rfl, rfl, rfl, rfl, rfl, hw, rfl, fun _ => rfl⟩

theorem staged_timer (t : Timer) (d : Dev) : Staged d { d with lnk := { d.lnk with timer := t } } :=
  ⟨rfl, rfl, rfl, rfl, rfl, rfl, rfl, rfl, fun _ => rfl⟩

theorem staged_setChan (c : Nat) (r : ChanRec) (d : Dev) : Staged d (d.setChan c r) := by
  unfold Dev.setChan
  split
  · exact staged_sig _ d
  · exact .refl d

theorem staged_setScan (k : ScanClass) (c : ClassState) (d : Dev) : Staged d (d.setScan k c) := by
  cases k <;> exact staged_seq _ d

theorem staged_forEach {n : Nat} {f : Fin n → Dev → Dev} (hf : ∀ i e, Staged e (f i e)) (d : Dev) :
    Staged d (forEach n f d) := forEach_keeps (P := Staged d) (fun i e he => he.trans (hf i e)) (.refl d)

theorem told_seqReport {n : Nat} {d₀ : Dev} (present : Bool) (h : Told n d₀ d) : Told n d₀ (seqReport present d) :=
  told_fltReportIf _ _ _ _ (told_fltReportIf _ _ _ _ (told_fltReportIf _ _ _ _ (told_fltReportIf _ _ _ _ h)))

theorem told_sigReport {n : Nat} {d₀ : Dev} (present : Bool) (h : Told n d₀ d) : Told n d₀ (sigReport present d) := by
  refine told_fltReportIf _ _ _ _ (told_forEach (fun i e he => ?_) h)
  split
  · exact told_fltReport _ _ _ he
  · exact he

theorem staged_seqStandby (d : Dev) : Staged d (seqStandby d) :=
  (told_seqReport false (.refl 0 d)).staged.trans (staged_seq _ _)

theorem staged_sigStop (d : Dev) : Staged d (sigStop d) :=
  (told_sigReport false (.refl 0 d)).staged.trans
    ((staged_forEach (fun _ e => staged_setChan _ _ e) _).trans (staged_sig _ _))

theorem plsClear_eq (timer : Timer) (d : Dev) : ∃ w, plsClear timer d = { d with
    pls := { d.pls with road := pulseInit timer, engine := pulseInit timer, standstill := true }, sig := w } :=
  ⟨_, rfl⟩

theorem staged_plsStop (d : Dev) : Staged d (plsStop d) :=
  (staged_pls (d := d) { d.pls with
    road := pulseInit none, engine := pulseInit none, standstill := true } rfl).trans (staged_sig _ _)

theorem staged_raiseScan (k : ScanClass) (d : Dev) : Staged d (raiseScan k d) := by
  have complete (e : Dev) : Staged e (scanComplete k e) :=
    (staged_setScan _ _ e).trans (told_fltReportIf _ _ _ _ (.refl 0 _)).staged
  unfold raiseScan
  dsimp only
  split
  · exact (staged_setScan _ _ d).trans (complete _)
  · exact staged_setScan _ _ d

theorem staged_seqGrantIfIdle (d : Dev) : Staged d (seqGrantIfIdle d) := by
  unfold seqGrantIfIdle
  split
  · rw [seqGrant_eq]
    exact staged_seq _ d
  · exact .refl d

theorem staged_seqStart (d : Dev) : Staged d (seqStart d) := by
  have report := (told_seqReport true (.refl 0 d)).staged
  have start (k : ScanClass) (e : Dev) : Staged e (startClass k e) := staged_setScan _ _ e
  have started := (((report.trans (start .fast _)).trans (start .medium _)).trans (start .slow _))
  exact (((started.trans (staged_raiseScan .fast _)).trans (staged_raiseScan .medium _)).trans
    (staged_raiseScan .slow _)).trans (staged_seqGrantIfIdle _)

/-! ## Requests answered with the part as it stands (R12, R188) -/

/-- From `d` to `e` requests are answered: an answer neither brings a request nor takes a reply. -/
structure Answered (d e : Dev) : Prop where
  frame : e = { d with lnk := { d.lnk with requests := e.lnk.requests, replies := e.lnk.replies } }
  none : d.lnk.requests = [] → e = d
  requests : d.lnk.requests ≠ [] → e.lnk.requests ≠ []
  replies : ∃ more, e.lnk.replies = d.lnk.replies ++ more

theorem Answered.refl (d : Dev) : Answered d d := ⟨rfl, fun _ => rfl, id, [], (List.append_nil _).symm⟩

theorem Answered.trans {a b c : Dev} (h : Answered a b) (k : Answered b c) : Answered a c where
  frame := by rw [k.frame, h.frame]
  none hr := (k.none (by rw [h.none hr]; exact hr)).trans (h.none hr)
  requests := k.requests ∘ h.requests
  replies := by
    obtain ⟨x, hx⟩ := h.replies
    obtain ⟨y, hy⟩ := k.replies
    exact ⟨x ++ y, by rw [hy, hx, List.append_assoc]⟩

theorem answered_lnkAnswer (tag : Byte) (p : List Byte) (d : Dev) : Answered d (lnkAnswer tag p d) := by
  unfold lnkAnswer
  split
  · exact .refl d
  · rename_i r hr
    refine ⟨rfl, fun h => ?_, fun h => by simpa using h, _, rfl⟩
    rw [findRequest, h] at hr
    exact nomatch hr

theorem answered_foldl {α : Type} {f : Dev → α → Dev} (hf : ∀ e a, Answered e (f e a)) (l : List α) (d : Dev) :
    Answered d (l.foldl f d) :=
  List.foldlRecOn (motive := Answered d) l f (.refl d) fun e he a _ => he.trans (hf e a)

theorem answered_answerDeferred (d : Dev) : Answered d (answerDeferred d) :=
  answered_foldl (fun e _ => answered_lnkAnswer _ _ e) _ d

/-- SEQ when its scans and the on-demand list have stopped (R12). -/
structure SeqStopped (w : SeqState) : Prop where
  fast : w.fast.timer = none
  medium : w.medium.timer = none
  slow : w.slow.timer = none
  onDemand : w.onDemand = []

theorem seqStop_answers (d : Dev) : ∃ w, SeqStopped w ∧ Answered { d with seq := w } (seqStop d) := by
  refine ⟨{ (seqAbort d).seq with
    fast := stopClass (seqAbort d).seq.fast, medium := stopClass (seqAbort d).seq.medium
    slow := stopClass (seqAbort d).seq.slow, onDemand := [] }, ⟨rfl, rfl, rfl, rfl⟩, ?_⟩
  have aborted : ∃ w, seqAbort d = { d with seq := w } := by
    unfold seqAbort
    split
    · exact ⟨_, rfl⟩
    · exact ⟨_, rfl⟩
    · exact ⟨_, rfl⟩
    · exact ⟨_, rfl⟩
  obtain ⟨w, hw⟩ := aborted
  have eq : seqStop d = ((w.onDemand.map DemandEntry.tag).eraseDups).foldl
      (fun e t => lnkAnswer t (statusReply .refusedMode) e) { d with seq := { w with
        fast := stopClass w.fast, medium := stopClass w.medium, slow := stopClass w.slow, onDemand := [] } } := by
    unfold seqStop
    rw [hw]
    rfl
  rw [eq, hw]
  exact answered_foldl (fun e _ => answered_lnkAnswer _ _ e) _ _

/-! ## DOR stops and starts (R128) -/

/-- DOR has stopped: every door is HELD with its line off. -/
structure DoorsStopped (d : Dev) : Prop where
  running : d.dor.running = false
  held (i : Fin 4) : (d.door i).release = .held ∧ (d.door i).line = false

theorem DoorsStopped.of_dor (h : DoorsStopped d) (hd : e.dor = d.dor) : DoorsStopped e where
  running := by rw [hd]; exact h.running
  held i := by
    have door : e.door i = d.door i := congrArg (fun w : DorState => w.doors[i]) hd
    rw [door]
    exact h.held i

theorem doors_map (f : DoorRec → DoorRec) (w : Vector DoorRec 4) (i : Fin 4) : (w.map f)[i] = f w[i] := by simp

theorem dorStandby_stopped (d : Dev) : DoorsStopped (dorStandby d) where
  running := rfl
  held i := by
    have door : (dorStandby d).door i = stopDoor true (d.door i) := doors_map _ _ i
    rw [door]
    exact ⟨rfl, rfl⟩

theorem told_dorReportAbsent {n : Nat} {d₀ : Dev} (h : Told n d₀ d) : Told n d₀ (dorReportAbsent d) :=
  told_fltReportIf _ _ _ _ (told_forEach (fun _ _ he => told_fltReportIf _ _ _ _ he) h)

/-- DOR's stop: its faults reported absent, then its record written. -/
theorem dorStop_eq (forget : Bool) (d : Dev) : ∃ w, dorStop forget d = { dorReportAbsent d with dor := w } ∧
    w.running = false ∧ w.doors = (dorReportAbsent d).dor.doors.map (stopDoor forget) := ⟨_, rfl, rfl, rfl⟩

theorem dorStop_stopped (forget : Bool) (d : Dev) : DoorsStopped (dorStop forget d) := by
  obtain ⟨w, eq, hr, hw⟩ := dorStop_eq forget d
  refine ⟨by rw [eq]; exact hr, fun i => ?_⟩
  have door : (dorStop forget d).door i = stopDoor forget ((dorReportAbsent d).door i) := by
    rw [eq]
    show w.doors[i] = _
    rw [hw]
    exact doors_map _ _ i
  rw [door]
  exact ⟨rfl, rfl⟩

/-- An effect on DOR beside `Staged`. -/
def DorStaged (d e : Dev) : Prop := Staged { d with dor := e.dor } e

theorem Staged.dorStaged (h : Staged d e) : DorStaged d e := by
  unfold DorStaged
  rw [h.dor]
  exact h

theorem DorStaged.trans {a b c : Dev} (h : DorStaged a b) (k : DorStaged b c) : DorStaged a c := by
  have widened : Staged { a with dor := c.dor } { b with dor := c.dor } := { (show Staged _ b from h) with dor := rfl }
  exact widened.trans k

theorem dorStaged_dor (w : DorState) (d : Dev) : DorStaged d { d with dor := w } := Staged.refl _

theorem dorStaged_dorStop (forget : Bool) (d : Dev) : DorStaged d (dorStop forget d) := by
  obtain ⟨w, eq, -, -⟩ := dorStop_eq forget d
  rw [eq]
  exact (told_dorReportAbsent (.refl 0 d)).staged.dorStaged.trans (dorStaged_dor w _)

/-! ## The storage conditions' faults (R156) -/

/-- From `d` to `e` held flags of STO change and are told. -/
def HeldTold (d e : Dev) : Prop := Told 1 { d with sto := { d.sto with
  absentHeld := e.sto.absentHeld, writeFailedHeld := e.sto.writeFailedHeld, unstoredHeld := e.sto.unstoredHeld } } e

theorem HeldTold.refl (d : Dev) : HeldTold d d := Told.refl 1 d

theorem HeldTold.staged (h : HeldTold d e) : Staged d e :=
  have told : Staged { d with sto := { d.sto with absentHeld := e.sto.absentHeld
                                                  writeFailedHeld := e.sto.writeFailedHeld
                                                  unstoredHeld := e.sto.unstoredHeld } } e := Told.staged h
  ⟨told.clock, told.cal, told.mod, told.dor, told.requests, told.replies, told.ring,
    by rw [told.sto], told.flight⟩

theorem HeldTold.told {k : StorageCond} {b : Bool} (h : HeldTold d e) (ht : Told 1 (setHeld k b e) e') :
    HeldTold d e' := by
  have told : Told 1 { d with sto := { d.sto with absentHeld := e.sto.absentHeld
                                                  writeFailedHeld := e.sto.writeFailedHeld
                                                  unstoredHeld := e.sto.unstoredHeld } } e := h
  have heldOf : e'.sto.absentHeld = (setHeld k b e).sto.absentHeld ∧
      e'.sto.writeFailedHeld = (setHeld k b e).sto.writeFailedHeld ∧
      e'.sto.unstoredHeld = (setHeld k b e).sto.unstoredHeld := by
    rw [ht.sto]
    exact ⟨rfl, rfl, rfl⟩
  unfold HeldTold
  rw [heldOf.1, heldOf.2.1, heldOf.2.2]
  refine Told.trans (b := setHeld k b e) ?_ ht
  cases k with
  | absent | writeFailed | unstored => exact { told with sto := by simp only [setHeld]; rw [told.sto] }

theorem told_changeHeld (k : StorageCond) (b : Bool) (h : HeldTold d e) : HeldTold d (changeHeld k b e) := by
  unfold changeHeld
  split
  · exact h
  · exact h.told (k := k) (b := b) (told_wrnSystem _ (told_postSystem (told_fltReport _ _ _ (.refl 1 _))))

theorem heldTold_stoLoading (d : Dev) : HeldTold d (stoLoading d) := by
  refine List.foldlRecOn (motive := HeldTold d) _ _ (.refl d) fun e he k _ => ?_
  split
  · exact told_changeHeld k true he
  · exact he

theorem heldTold_stoStandby (d : Dev) : HeldTold d (stoStandby d) :=
  List.foldlRecOn (motive := HeldTold d) _ _ (.refl d) fun _ he k _ => told_changeHeld k false he

theorem lampsKept_changeHeld (k : StorageCond) (b : Bool) (d : Dev) : LampsKept d (changeHeld k b d) := by
  unfold changeHeld
  split
  · exact .refl d
  · have held : LampsKept d (setHeld k b d) := .of_wrn (by cases k <;> rfl)
    exact (held.trans (told_postSystem (told_fltReport _ _ _ (.refl 0 _))).lampsKept).trans (lampsKept_wrnSystem _ _)

theorem lampsKept_stoStandby (d : Dev) : LampsKept d (stoStandby d) :=
  List.foldlRecOn (motive := LampsKept d) _ _ (.refl d) fun e he k _ => he.trans (lampsKept_changeHeld k false e)

/-! ## STANDBY entry -/

/-- MOD with its causes cleared and the supply ON (R183). -/
def ModState.cleared (m : ModState) : ModState :=
  { m with
    undervoltHeld := false, overvoltHeld := false, overtempHeld := false, uvTimer := none
    undervolt := false, overvolt := false, overtemp := false, supply := .on }

theorem told_modClearSupply (d : Dev) : Told 0 { d with mod := d.mod.cleared } (modClearSupply d) := by
  obtain ⟨a, told, eq⟩ : ∃ a, Told 0 d a ∧ modClearSupply d = { a with mod := a.mod.cleared } :=
    ⟨_, told_fltReportIf _ _ _ _ (told_fltReportIf _ _ _ _ (told_fltReportIf _ _ _ _ (.refl 0 d))), rfl⟩
  rw [eq, told.mod]
  exact { told with mod := rfl }

/-- One gauge's fault reported absent where it is held. -/
def gaugeReportAbsent (g : Fin 6) (d : Dev) : Dev :=
  fltReportIf (d.gauge g).held 0x10 g.val false (d.setGauge g { d.gauge g with held := false })

theorem gauStop_eq (clearRestarts : Bool) (d : Dev) :
    ∃ w, gauStop clearRestarts d = { forEach 6 gaugeReportAbsent d with gau := w } := ⟨_, rfl⟩

theorem gauStop_wrn (clearRestarts : Bool) (d : Dev) : (gauStop clearRestarts d).wrn = d.wrn := by
  have turn (g : Fin 6) (e : Dev) : (gaugeReportAbsent g e).wrn = e.wrn :=
    (told_fltReportIf _ _ _ _ (.refl 0 (e.setGauge g { e.gauge g with held := false }))).wrn rfl
  obtain ⟨w, eq⟩ := gauStop_eq clearRestarts d
  have reported : (forEach 6 gaugeReportAbsent d).wrn = d.wrn :=
    forEach_keeps (P := fun e => e.wrn = d.wrn) (d := d) (fun g e he => (turn g e).trans he) rfl
  rw [eq]
  dsimp only
  exact reported

/-- What STANDBY finds of the link: the receiver off, the timer stopped, nothing subscribed (R194). -/
structure LinkStopped (d : Dev) : Prop where
  unsubscribed : Unsubscribed d
  timer : d.lnk.timer = none

theorem lnkStandby_stopped (d : Dev) : LinkStopped (lnkStandby d) ∧ Staged d (lnkStandby d) ∧
    (lnkStandby d).wrn.flash = d.wrn.flash := by
  obtain ⟨a, ha⟩ : ∃ a : Dev, a = { d with lnk := { d.lnk with
    assembly := none, gapTimer := none, timer := none, mask := 0#8, notices := [], overflow := false
    lost := false, held := false } } := ⟨_, rfl⟩
  have stopped : LinkStopped a ∧ Staged d a ∧ a.wrn.flash = d.wrn.flash := by
    rw [ha]
    exact ⟨⟨⟨rfl, rfl⟩, rfl⟩, ⟨rfl, rfl, rfl, rfl, rfl, rfl, rfl, rfl, fun _ => rfl⟩, rfl⟩
  have eq : lnkStandby d = if d.lnk.lost then wrnLinkBack (fltReport 0x60 0 false a) else a := by
    unfold lnkStandby
    rw [ha]
  clear ha
  obtain ⟨⟨hu, ht⟩, staged, flash⟩ := stopped
  rw [eq]
  split
  · have reported : Told 0 a (fltReport 0x60 0 false a) := told_fltReport _ _ _ (.refl 0 a)
    have unsubscribed : Unsubscribed (fltReport 0x60 0 false a) := undisturbed_unsubscribed.fltReport _ _ _ hu
    generalize fltReport 0x60 0 false a = b at reported unsubscribed
    have back : Told 1 b (wrnLinkBack b) := told_wrnLinkBack (.refl 1 b)
    refine ⟨⟨?_, ?_⟩, (staged.trans reported.staged).trans back.staged, ?_⟩
    · exact undisturbed_unsubscribed.wrnLinkBack unsubscribed
    · rw [back.lnk, reported.lnk]
      exact ht
    · have kept : LampsKept { b with wrn := { b.wrn with linkLost := false } } (wrnLinkBack b) := lampsKept_wrnSystem ..
      rw [kept.flash]
      exact (congrArg WrnState.flash (reported.wrn rfl)).trans flash
  · exact ⟨⟨hu, ht⟩, staged, flash⟩

/-- One record of chapter 2's table at its reset value. -/
def chanReset (i : Fin 44) (d : Dev) : Dev := d.setChan i (ChanRec.resetValue (resetKind i))

theorem sigStop_eq (d : Dev) : ∃ w, sigStop d = { forEach 44 chanReset (sigReport false d) with sig := w } := ⟨_, rfl⟩

theorem sigStop_wrn (d : Dev) : (sigStop d).wrn = d.wrn := by
  have chan (i : Fin 44) (e : Dev) : (chanReset i e).wrn = e.wrn := by
    unfold chanReset Dev.setChan
    split <;> rfl
  have report := (told_sigReport false (.refl 0 d)).wrn rfl
  have reset : (forEach 44 chanReset (sigReport false d)).wrn = d.wrn :=
    forEach_keeps (P := fun e => e.wrn = d.wrn) (d := sigReport false d) (fun i e he => (chan i e).trans he) report
  obtain ⟨w, eq⟩ := sigStop_eq d
  rw [eq]
  dsimp only
  exact reset

theorem plsStop_wrn (d : Dev) : (plsStop d).wrn = d.wrn := rfl

/-- What STANDBY entered with the ignition off leaves (R183, R194). -/
structure StandbyEntered (cause : ModeCause) (d e : Dev) : Prop where
  mod : e.mod = (d.mod.entered .standby cause).cleared
  clock : e.clock = d.clock
  cal : e.cal = d.cal
  requests : e.lnk.requests = d.lnk.requests
  replies : e.lnk.replies = d.lnk.replies
  loader : e.sto.loader.state = d.sto.loader.state
  flash : e.wrn.flash = d.wrn.flash
  doors : DoorsStopped e
  link : LinkStopped e

/-- The blocks' entry to STANDBY up to DOR's. -/
def standbyStopped (d : Dev) : Dev := gauStop false (plsStop (sigStop (seqStandby d)))

theorem standbyStopped_staged (d : Dev) : Staged d (standbyStopped d) :=
  (((staged_seqStandby d).trans (staged_sigStop _)).trans (staged_plsStop _)).trans (told_gauStop false (.refl 2 _)).staged

theorem standbyStopped_wrn (d : Dev) : (standbyStopped d).wrn = d.wrn := by
  unfold standbyStopped
  rw [gauStop_wrn, plsStop_wrn, sigStop_wrn]
  exact (told_seqReport false (.refl 0 d)).wrn rfl

/-- The entry to STANDBY but for what an ignition that is on brings at once. -/
def standbyEntry (cause : ModeCause) (d : Dev) : Dev :=
  lnkStandby (stoStandby (modClearSupply (dorStandby (standbyStopped (modSet .standby cause d)))))

theorem enterStandby_eq (cause : ModeCause) (d : Dev) : enterStandby cause d =
    if (standbyEntry cause d).mod.ignition then enterLoading (standbyEntry cause d) else standbyEntry cause d := by
  unfold enterStandby standbyEntry standbyStopped
  rfl

theorem enterStandby_off (cause : ModeCause) (h : d.mod.ignition = false) :
    StandbyEntered cause d (enterStandby cause d) := by
  obtain ⟨a, ha⟩ : ∃ a, a = modSet .standby cause d := ⟨_, rfl⟩
  have entered : Told 0 { d with mod := d.mod.entered .standby cause } a := ha ▸ told_modSet .standby cause d
  have stopped := standbyStopped_staged a
  have stoppedWrn := standbyStopped_wrn a
  obtain ⟨x, hx⟩ : ∃ x, x = standbyStopped a := ⟨_, rfl⟩
  rw [← hx] at stopped stoppedWrn
  obtain ⟨b, hb⟩ : ∃ b, b = dorStandby x := ⟨_, rfl⟩
  have doors : DoorsStopped b := by
    rw [hb]
    exact dorStandby_stopped x
  have supply := told_modClearSupply b
  have storage := heldTold_stoStandby (modClearSupply b)
  have lamps := lampsKept_stoStandby (modClearSupply b)
  obtain ⟨link, linked, flash⟩ := lnkStandby_stopped (stoStandby (modClearSupply b))
  have bmod : b.mod = d.mod.entered .standby cause := by rw [hb]; exact stopped.mod.trans entered.mod
  have mod : (lnkStandby (stoStandby (modClearSupply b))).mod = (d.mod.entered .standby cause).cleared := by
    rw [linked.mod, storage.staged.mod, supply.mod, bmod]
  have eq : enterStandby cause d = lnkStandby (stoStandby (modClearSupply b)) := by
    have entry : standbyEntry cause d = lnkStandby (stoStandby (modClearSupply b)) := by
      rw [hb, hx, ha]
      rfl
    rw [enterStandby_eq, entry, mod]
    exact if_neg (Bool.eq_false_iff.mp h)
  rw [eq]
  have after := storage.staged.trans linked
  refine ⟨mod, ?_, ?_, ?_, ?_, ?_, ?_, ?_, link⟩
  · rw [after.clock, supply.clock, hb]
    exact stopped.clock.trans entered.clock
  · rw [after.cal, supply.cal, hb]
    exact stopped.cal.trans entered.cal
  · rw [after.requests, supply.staged.requests, hb]
    exact stopped.requests.trans entered.staged.requests
  · rw [after.replies, supply.staged.replies, hb]
    exact stopped.replies.trans entered.staged.replies
  · rw [after.loader, supply.staged.loader, hb]
    exact stopped.loader.trans entered.staged.loader
  · rw [flash, lamps.flash, supply.wrn rfl, hb]
    exact congrArg WrnState.flash (stoppedWrn.trans (entered.wrn rfl))
  · exact doors.of_dor (after.dor.trans supply.dor)

/-! ## SAVING entry (R175) -/

/-- MOD in SAVING with the flush running until `t`. -/
def ModState.saving (t : Nat) (m : ModState) : ModState :=
  { m.entered .saving .ignitionOff with
    flush := .saving, flushTimer := some t, returned := false, bulb := .stopped, uvTimer := none }

@[simp] theorem ModState.saving_ignition (t : Nat) (m : ModState) : (m.saving t).ignition = m.ignition := rfl
@[simp] theorem ModState.saving_resetPending (t : Nat) (m : ModState) : (m.saving t).resetPending = m.resetPending := rfl
@[simp] theorem ModState.saving_returned (t : Nat) (m : ModState) : (m.saving t).returned = false := rfl
@[simp] theorem ModState.saving_flush (t : Nat) (m : ModState) : (m.saving t).flush = .saving := rfl

/-- The entry to SAVING up to the first judgement of the flush. -/
def savingEntry (d : Dev) : Dev :=
  lnkStopTimer (fltSaving (plsAskWrite (gauSaving (seqStop (dorStop false (wrnStop (gauEndOverrides d)))))))

/-- MOD's own part of the entry. -/
def savingMode (d : Dev) : Dev :=
  { modSet .saving .ignitionOff d with mod := { (modSet .saving .ignitionOff d).mod with
      flush := .saving, flushTimer := (modSet .saving .ignitionOff d).timerIn (ms 5000), returned := false
      bulb := .stopped, uvTimer := none } }

theorem enterSaving_eq (d : Dev) : enterSaving d = flushJudge (savingEntry (savingMode d)) := rfl

theorem told_savingMode (d : Dev) :
    Told 0 { d with mod := d.mod.saving (d.clock + 5000000) } (savingMode d) := by
  have told := told_modSet .saving .ignitionOff d
  have mod : (savingMode d).mod = d.mod.saving (d.clock + 5000000) := by
    show ({ (modSet .saving .ignitionOff d).mod with
      flush := .saving, flushTimer := some ((modSet .saving .ignitionOff d).clock + 5000000), returned := false
      bulb := .stopped, uvTimer := none } : ModState) = _
    rw [told.mod, told.clock]
    rfl
  exact { told with mod := mod }

theorem undisturbed_savingMode {P : Dev → Prop} (hP : Undisturbed P) (mod : ∀ e w, P e → P { e with mod := w }) (h : P d) :
    P (savingMode d) := mod _ _ (hP.post .modeChange 0 _ (mod d _ h))

theorem lampsKept_gauSaving (d : Dev) : LampsKept d (gauSaving d) := by
  refine .forEach (fun g e => ?_) d
  split
  · exact lampsKept_gaugeChange _ _ e
  · exact .of_wrn rfl

/-- What the entry to SAVING leaves of the part `d` it begins with. -/
structure SavingEntered (d e : Dev) : Prop where
  mod : e.mod = d.mod
  clock : e.clock = d.clock
  cal : e.cal = d.cal
  flash : e.wrn.flash = none
  doors : DoorsStopped e
  seq : SeqStopped e.seq
  timer : e.lnk.timer = none
  flight : d.sto.job.isSome = true → e.sto.job = d.sto.job

theorem savingEntry_entered (d : Dev) : SavingEntered d (savingEntry d) := by
  obtain ⟨a, ha⟩ : ∃ a, a = gauEndOverrides d := ⟨_, rfl⟩
  have toldA : Told 2 d a := ha ▸ told_gauEndOverrides (.refl 2 d)
  obtain ⟨b, hb⟩ : ∃ b, b = wrnStop a := ⟨_, rfl⟩
  have toldB : Told 1 a b := hb ▸ told_wrnStop (.refl 1 a)
  have flashB : b.wrn.flash = none := by
    rw [hb]
    rfl
  obtain ⟨w, stopEq, -, -⟩ := dorStop_eq false b
  obtain ⟨c, hc⟩ : ∃ c, c = dorStop false b := ⟨_, rfl⟩
  have doors : DoorsStopped c := by
    rw [hc]
    exact dorStop_stopped false b
  have toldC : Staged { b with dor := c.dor } c := by
    rw [hc]
    exact dorStaged_dorStop false b
  have flashC : c.wrn.flash = none := by
    rw [hc, stopEq]
    exact (congrArg WrnState.flash ((told_dorReportAbsent (.refl 0 b)).wrn rfl)).trans flashB
  obtain ⟨q, stopped, answered⟩ := seqStop_answers c
  obtain ⟨g, hg⟩ : ∃ g, g = seqStop c := ⟨_, rfl⟩
  rw [← hg] at answered
  have seqG : g.seq = q := by rw [answered.frame]
  have wrnG : g.wrn = c.wrn := by rw [answered.frame]
  have dorG : g.dor = c.dor := by rw [answered.frame]
  have stoG : g.sto = c.sto := by rw [answered.frame]
  have restG : g.clock = c.clock ∧ g.cal = c.cal ∧ g.mod = c.mod := by
    rw [answered.frame]
    exact ⟨rfl, rfl, rfl⟩
  obtain ⟨clockG, calG, modG⟩ := restG
  obtain ⟨x, hx⟩ : ∃ x, x = fltSaving (plsAskWrite (gauSaving g)) := ⟨_, rfl⟩
  have toldX : Told 2 g x := hx ▸ told_fltSaving (told_plsAskWrite (told_gauSaving (.refl 2 g)))
  have flashX : x.wrn.flash = none := by
    have ask : Told 0 (gauSaving g) x := hx ▸ told_fltSaving (told_plsAskWrite (.refl 0 _))
    rw [ask.wrn rfl, (lampsKept_gauSaving g).flash, wrnG]
    exact flashC
  have eq : savingEntry d = { x with lnk := { x.lnk with timer := none } } := by
    rw [hx, hg, hc, hb, ha]
    rfl
  have sameDor : x.dor = c.dor := toldX.dor.trans dorG
  rw [eq]
  refine ⟨?_, ?_, ?_, flashX, doors.of_dor sameDor, ?_, rfl, fun hj => ?_⟩
  · exact toldX.mod.trans (modG.trans (toldC.mod.trans (toldB.mod.trans toldA.mod)))
  · exact toldX.clock.trans (clockG.trans (toldC.clock.trans (toldB.clock.trans toldA.clock)))
  · exact toldX.cal.trans (calG.trans (toldC.cal.trans (toldB.cal.trans toldA.cal)))
  · show SeqStopped x.seq
    rw [toldX.seq, seqG]
    exact stopped
  · have jobA := toldA.flight hj
    have jobB : b.sto.job = d.sto.job := (toldB.flight (by rw [jobA]; exact hj)).trans jobA
    have jobC : c.sto.job = d.sto.job := (toldC.flight (by rw [← jobB] at hj; exact hj)).trans jobB
    have jobG : g.sto.job = d.sto.job := (congrArg StoState.job stoG).trans jobC
    exact (toldX.flight (by rw [jobG]; exact hj)).trans jobG

/-! ### Whether anything is left to flush -/

theorem Answered.flushed (h : Answered d e) (hf : Flushed d) : Flushed e := by
  have requests : d.lnk.requests = [] := by
    have empty := hf.2
    simp only [flushEmpty, Bool.and_eq_true, List.isEmpty_iff] at empty
    exact empty.1.2
  rw [h.none requests]
  exact hf

theorem Answered.unflushed (h : Answered d e) (hf : Unflushed d) : Unflushed e := by
  have jobs : e.sto = d.sto ∧ holdsJob e = holdsJob d := by
    rw [h.frame]
    exact ⟨rfl, funext fun r => by cases r <;> rfl⟩
  unfold Unflushed
  rw [jobs.1, jobs.2]
  obtain ⟨more, replies⟩ := h.replies
  refine hf.imp id (.imp id (.imp h.requests fun hr => ?_))
  rw [replies]
  exact List.append_ne_nil_of_left_ne_nil hr more

/-- PLS will ask for its write: the ring is taken, storage is there and no odometer job is made (R50). -/
def Asking (d : Dev) : Prop := d.pls.ringTaken = true ∧ d.sto.storage ≠ .absent ∧ d.pls.odoJob = .none

theorem stoGrant_asking (h : Asking d) : Asking (stoGrant d) := by
  obtain ⟨hr, hs, ho⟩ := h
  have told := told_stoGrant (.refl 0 d)
  refine ⟨?_, ?_, stoGrant_odoIdle ho⟩
  · rw [told.pls]
    exact hr
  · rw [told.sto]
    exact hs

theorem undisturbed_asking : Undisturbed Asking where
  wrn _ h := h
  gau _ h := h
  flt _ _ h := h
  post kind subject content h := by
    obtain ⟨n, o, eq⟩ := lnkPost_cases kind subject content _
    rw [eq]
    exact h
  dirty i renewed h := Undisturbed.dirty_of (P := Asking) (fun _ _ h => h) (fun _ _ h => stoGrant_asking h) i renewed h

theorem Answered.asking (h : Answered d e) (ha : Asking d) : Asking e := by
  unfold Asking
  rw [h.frame]
  exact ha

/-- SAVING's entry up to PLS's request for its write. -/
def savingStopped (d : Dev) : Dev := gauSaving (seqStop (dorStop false (wrnStop (gauEndOverrides d))))

theorem savingStopped_keeps {P : Dev → Prop} (hP : Undisturbed P) (dor : ∀ e w, P e → P { e with dor := w })
    (seq : ∀ e w, P e → P { e with seq := w }) (answer : ∀ {a b}, Answered a b → P a → P b) (h : P d) :
    P (savingStopped d) := by
  have stopped : P (wrnStop (gauEndOverrides d)) := hP.wrnStop (hP.gauEndOverrides h)
  have doors : P (dorStop false (wrnStop (gauEndOverrides d))) := by
    obtain ⟨w, eq, -, -⟩ := dorStop_eq false (wrnStop (gauEndOverrides d))
    rw [eq]
    exact dor _ w (hP.fltReportIf _ _ _ _ (hP.forEach (fun _ _ he => hP.fltReportIf _ _ _ _ he) stopped))
  obtain ⟨w, -, answered⟩ := seqStop_answers (dorStop false (wrnStop (gauEndOverrides d)))
  exact hP.gauSaving (answer answered (seq _ w doors))

theorem savingEntry_eq (d : Dev) : savingEntry d = lnkStopTimer (fltSaving (plsAskWrite (savingStopped d))) := rfl

theorem unflushed_other {w : LnkState} (h : Unflushed d) (hq : w.requests = d.lnk.requests)
    (hr : w.replies = d.lnk.replies) : Unflushed { d with lnk := w } := by
  refine h.imp id (.imp (fun ⟨r, hr⟩ => ⟨r, by cases r <;> exact hr⟩) ?_)
  show d.lnk.requests ≠ [] ∨ d.lnk.replies ≠ [] → w.requests ≠ [] ∨ w.replies ≠ []
  rw [hq, hr]
  exact id

theorem plsAskWrite_unflushed (h : Unflushed d ∨ Asking d) : Unflushed (plsAskWrite d) := by
  unfold plsAskWrite
  split
  · rename_i hn
    rcases h with h | ⟨hr, hs, -⟩
    · exact h
    · exact absurd hn (by simp [hr, hs])
  · split
    · exact stoGrant_unflushed (.inr (.inl ⟨.odometer, rfl⟩))
    · rename_i hj
      exact .inr (.inl ⟨.odometer, by rw [holdsJob, hj]; rfl⟩)
    · rename_i hj
      rcases h with h | ⟨-, -, ho⟩
      · exact h.imp id (.imp (fun ⟨r, hr⟩ => ⟨r, by cases r <;> exact hr⟩) id)
      · exact nomatch hj.symm.trans ho

theorem savingEntry_unflushed (h : Unflushed d ∨ Asking d) : Unflushed (savingEntry d) := by
  have stopped : Unflushed (savingStopped d) ∨ Asking (savingStopped d) := h.imp
    (savingStopped_keeps undisturbed_unflushed
      (fun _ _ h => h.imp id (.imp (fun ⟨r, hr⟩ => ⟨r, by cases r <;> exact hr⟩) id))
      (fun _ _ h => h.imp id (.imp (fun ⟨r, hr⟩ => ⟨r, by cases r <;> exact hr⟩) id)) Answered.unflushed)
    (savingStopped_keeps undisturbed_asking (fun _ _ h => h) (fun _ _ h => h) Answered.asking)
  have saved : Unflushed (fltSaving (plsAskWrite (savingStopped d))) :=
    undisturbed_unflushed.fltSaving (plsAskWrite_unflushed stopped)
  rw [savingEntry_eq]
  generalize fltSaving (plsAskWrite (savingStopped d)) = x at saved
  exact unflushed_other saved rfl rfl

theorem savingEntry_flushed (h : Flushed d) : Flushed (savingEntry d) := by
  have stopped : Flushed (savingStopped d) :=
    savingStopped_keeps undisturbed_flushed (fun _ _ h => h) (fun _ _ h => h) Answered.flushed h
  have ask : plsAskWrite (savingStopped d) = savingStopped d := if_pos (by simp [stopped.1])
  have saved : Flushed (fltSaving (plsAskWrite (savingStopped d))) := by
    rw [ask]
    exact undisturbed_flushed.fltSaving stopped
  rw [savingEntry_eq]
  generalize fltSaving (plsAskWrite (savingStopped d)) = x at saved
  exact saved

/-- A flush with something left goes on. -/
theorem flushJudge_unflushed (h : Unflushed d) : flushJudge d = d := if_neg (by rw [flushEmpty_iff.mpr h]; simp)

/-- The flush ends in STANDBY with no reset pending and the ignition off (R175). -/
theorem flushEnd_standby (limit : Bool) (hp : d.mod.resetPending = false) (hr : d.mod.returned = false) :
    flushEnd limit d = enterStandby (if limit then .flushLimit else .flushDone)
      { d with mod := { d.mod with flush := .none, flushTimer := none } } := by
  unfold flushEnd
  simp only [hp, hr, Bool.false_eq_true, if_false]

theorem flushJudge_standby (hf : d.mod.flush = .saving) (he : flushEmpty d = true) (hp : d.mod.resetPending = false)
    (hr : d.mod.returned = false) : flushJudge d =
      enterStandby .flushDone { d with mod := { d.mod with flush := .none, flushTimer := none } } :=
  (show flushJudge d = flushEnd false d from if_pos (by rw [hf, he]; rfl)).trans (flushEnd_standby false hp hr)

/-! ## LOADING entry (R49, R66, R128, R158, R171) -/

theorem mem_afterGrant_high {r : Requester} (h : r ∈ highOrder) (last : Option Requester) :
    r ∈ afterGrant highOrder last := by
  simp only [highOrder, List.mem_cons, List.not_mem_nil, or_false] at h
  rcases last with _ | q
  · rcases h with rfl | rfl | rfl <;> decide
  · cases q <;> rcases h with rfl | rfl | rfl <;> decide

theorem mem_afterGrant_low {r : Requester} (h : r ∈ lowOrder) (last : Option Requester) :
    r ∈ afterGrant lowOrder last := by
  simp only [lowOrder, List.mem_cons, List.not_mem_nil, or_false] at h
  rcases last with _ | q
  · rcases h with rfl | rfl <;> decide
  · cases q <;> rcases h with rfl | rfl <;> decide

/-- The port is granted where any job waits (R154). -/
theorem arbitrate_isSome {r : Requester} (h : holdsJob d r = true) : (arbitrate d).isSome = true := by
  have found {order : List Requester} (mem : ∀ q ∈ order, q ∈ afterGrant order d.sto.lastHigh)
      (hg : groupHolds d order = true) : ((afterGrant order d.sto.lastHigh).find? (holdsJob d)).isSome = true := by
    obtain ⟨q, hq, hh⟩ := List.any_eq_true.mp hg
    exact List.find?_isSome.mpr ⟨q, mem q hq, hh⟩
  have foundLow (hg : groupHolds d lowOrder = true) :
      ((afterGrant lowOrder d.sto.lastLow).find? (holdsJob d)).isSome = true := by
    obtain ⟨q, hq, hh⟩ := List.any_eq_true.mp hg
    exact List.find?_isSome.mpr ⟨q, mem_afterGrant_low hq _, hh⟩
  unfold arbitrate
  dsimp only
  split
  · rename_i hl
    exact foundLow (by simp only [Bool.and_eq_true] at hl; exact hl.1)
  · split
    · rename_i hh
      exact found (fun q hq => mem_afterGrant_high hq _) hh
    · rename_i hh
      refine foundLow (List.any_eq_true.mpr ⟨r, ?_, h⟩)
      have high : r ∉ highOrder := fun hm => hh (List.any_eq_true.mpr ⟨r, hm, h⟩)
      cases r with
      | faultWriter | odometer | loader => exact absurd (by decide) high
      | hostRead | imageStore => decide

/-- A job that waits brings one into flight where storage is there and no image page waits. -/
theorem stoGrant_starts {r : Requester} (hs : d.sto.storage ≠ .absent) (hq : d.sto.storeQueued = false)
    (h : holdsJob d r = true) : (stoGrant d).sto.job.isSome = true := by
  by_cases hj : d.sto.job.isSome = true
  · have same : stoGrant d = d := if_pos (by rw [hj]; rfl)
    rw [same]
    exact hj
  · obtain ⟨q, hw⟩ := Option.isSome_iff_exists.mp (arbitrate_isSome h)
    have held := arbitrate_holds hw
    have granted : stoGrant d = grantTo q (countGrant q d) := by
      unfold stoGrant
      rw [if_neg (by simpa [hs] using hj), hw]
    obtain ⟨x, y, z, hc⟩ := countGrant_fields q d
    rw [granted, hc]
    cases q with
    | odometer => rfl
    | faultWriter =>
      cases hf : d.flt.queue with
      | nil => simp [holdsJob, hf] at held
      | cons i rest => simp [grantTo, hf, startJob]
    | loader =>
      cases hf : d.sto.loader.queued with
      | none => simp [holdsJob, hf] at held
      | some op => simp [grantTo, hf, startJob]
    | hostRead =>
      cases hf : d.sto.hostReads with
      | nil => simp [holdsJob, hf] at held
      | cons i rest => simp [grantTo, hf, startJob]
    | imageStore => exact nomatch hq.symm.trans held

/-- STO with the loader's next job in its queue. -/
def loaderQueued (st : LoaderState) (index : Nat) (op : JobOp) (d : Dev) : Dev :=
  { d with sto := { d.sto with loader := { d.sto.loader with state := st, index := index, queued := some op } } }

theorem loaderQueue_eq (st : LoaderState) (index : Nat) (op : JobOp) (d : Dev) :
    loaderQueue st index op d = stoGrant (loaderQueued st index op d) := rfl

theorem told_loaderQueue (st : LoaderState) (index : Nat) (op : JobOp) (d : Dev) :
    Told 0 (loaderQueued st index op d) (loaderQueue st index op d) := told_stoGrant (.refl 0 _)

theorem loaderQueue_starts {st : LoaderState} {index : Nat} {op : JobOp} (hs : d.sto.storage ≠ .absent)
    (hq : d.sto.storeQueued = false) : (loaderQueue st index op d).sto.job.isSome = true := by
  rw [loaderQueue_eq]
  exact stoGrant_starts (r := .loader) hs hq rfl

theorem loaderStart_probes (h : d.sto.storage = .unprobed) : loaderStart d = loaderQueue .probing 0 .probe d :=
  if_pos (by rw [h]; rfl)

theorem loaderStart_fetches (h : d.sto.storage = .present) (hv : d.cal.valid = false) :
    loaderStart d = loaderQueue .fetchingHeader 0 (.read 0 16) d := by
  unfold loaderStart loaderImage
  rw [if_neg (by rw [h]; decide)]
  simp only [hv, Bool.false_and, Bool.false_eq_true, if_false, h]
  rfl

theorem undisturbed_stoLoading {P : Dev → Prop} (hP : Undisturbed P) (held : ∀ k b e, P e → P (setHeld k b e)) (h : P d) :
    P (stoLoading d) := by
  refine List.foldlRecOn (motive := P) _ _ h fun e he k _ => ?_
  split
  · unfold changeHeld
    split
    · exact he
    · exact hP.wrnSystem _ (hP.post _ _ _ (hP.fltReport _ _ _ (held k true e he)))
  · exact he

/-- The blocks' part of a LOADING entry that begins a cycle. -/
def cycleBegun (d : Dev) : Dev := dorCycleBegin (gauCycleBegin (plsCycleBegin (plsStop d)))

theorem enterLoading_eq (d : Dev) :
    enterLoading d = loaderStart (stoLoading (cycleBegun (modSet .loading .ignitionOn d))) := rfl

theorem plsCycleBegin_eq (d : Dev) : plsCycleBegin d = { d with pls := { d.pls with
    cycles := if d.pls.ringTaken then min 65535 (d.pls.cycles + 1) else d.pls.cycles
    cycleOwed := if d.pls.ringTaken then d.pls.cycleOwed else true } } := by
  unfold plsCycleBegin
  cases d.pls.ringTaken
  · rfl
  · simp [bump, Nat.min_comm]

/-- What a cycle begun at a LOADING entry leaves. -/
structure CycleBegun (d e : Dev) : Prop where
  clock : e.clock = d.clock
  seq : e.seq = d.seq
  cal : e.cal = d.cal
  mod : e.mod = d.mod
  sto : e.sto = d.sto
  cycles : e.pls.cycles = if d.pls.ringTaken then min 65535 (d.pls.cycles + 1) else d.pls.cycles
  cycleOwed : e.pls.cycleOwed = if d.pls.ringTaken then d.pls.cycleOwed else true
  distance : e.pls.distance = d.pls.distance
  doors (i : Fin 4) : (e.door i).obstructions = 0
  gauges (g : Fin 6) : (e.gauge g).restarts = 0

theorem cycleBegun_begun (d : Dev) : CycleBegun d (cycleBegun d) := by
  obtain ⟨w, eq⟩ : ∃ w, cycleBegun d = { plsCycleBegin d with
      pls := { (plsCycleBegin d).pls with
        road := pulseInit none, engine := pulseInit none, standstill := true }
      sig := w
      gau := { d.gau with gauges := d.gau.gauges.map fun r => { r with restarts := 0 } }
      dor := { d.dor with doors := d.dor.doors.map fun r => { r with obstructions := 0 } } } := by
    refine ⟨(plsStop d).sig, ?_⟩
    unfold cycleBegun
    rw [plsCycleBegin_eq, plsCycleBegin_eq]
    rfl
  rw [eq, plsCycleBegin_eq]
  refine ⟨rfl, rfl, rfl, rfl, rfl, rfl, rfl, rfl, fun i => ?_, fun g => ?_⟩
  · exact congrArg DoorRec.obstructions (doors_map _ _ i)
  · show ((d.gau.gauges.map fun r : GaugeRec => { r with restarts := 0 })[g]).restarts = 0
    simp

/-- A LOADING entry of a cycle, up to the loader's start. -/
theorem enterLoading_loads (d : Dev) : ∃ a x, Told 0 { d with mod := d.mod.entered .loading .ignitionOn } a ∧
    HeldTold (cycleBegun a) x ∧ (d.sto.storeQueued = false → x.sto.storeQueued = false) ∧
    enterLoading d = loaderStart x := by
  refine ⟨_, _, told_modSet _ _ _, heldTold_stoLoading _, fun hq => ?_, enterLoading_eq d⟩
  refine undisturbed_stoLoading undisturbed_storeQueued (fun k b e h => by cases k <;> exact h) ?_
  rw [(cycleBegun_begun _).sto]
  exact undisturbed_storeQueued.post (d := { d with mod := d.mod.entered .loading .ignitionOn }) .modeChange 0 _ hq

/-- What LOADING entered from STANDBY leaves where the loader has a first job. -/
structure LoadingEntered (d e : Dev) : Prop where
  mod : e.mod = d.mod.entered .loading .ignitionOn
  loader : e.sto.loader.state = if d.sto.storage = .unprobed then .probing else .fetchingHeader
  job : e.sto.job.isSome = true
  cycles : e.pls.cycles = if d.pls.ringTaken then min 65535 (d.pls.cycles + 1) else d.pls.cycles
  cycleOwed : e.pls.cycleOwed = if d.pls.ringTaken then d.pls.cycleOwed else true
  distance : e.pls.distance = d.pls.distance
  doors (i : Fin 4) : (e.door i).obstructions = 0
  gauges (g : Fin 6) : (e.gauge g).restarts = 0
  seq : e.seq = d.seq
  cal : e.cal = d.cal
  clock : e.clock = d.clock

theorem enterLoading_entered (hq : d.sto.storeQueued = false)
    (h : d.sto.storage = .unprobed ∨ (d.sto.storage = .present ∧ d.cal.valid = false)) :
    LoadingEntered d (enterLoading d) := by
  obtain ⟨a, x, entered, loading, queued, eq⟩ := enterLoading_loads d
  have begun := cycleBegun_begun a
  have toldX : Told 1 { cycleBegun a with sto := { (cycleBegun a).sto with
      absentHeld := x.sto.absentHeld, writeFailedHeld := x.sto.writeFailedHeld
      unstoredHeld := x.sto.unstoredHeld } } x := loading
  have storage : x.sto.storage = d.sto.storage := by
    rw [toldX.sto]
    show (cycleBegun a).sto.storage = _
    rw [begun.sto, entered.sto]
  have cal : x.cal = d.cal := toldX.cal.trans (begun.cal.trans entered.cal)
  obtain ⟨st, op, start, state⟩ : ∃ st op, loaderStart x = loaderQueue st 0 op x ∧
      st = if d.sto.storage = .unprobed then .probing else .fetchingHeader := by
    rcases h with h | ⟨h, hv⟩
    · exact ⟨_, _, loaderStart_probes (storage.trans h), (if_pos h).symm⟩
    · exact ⟨_, _, loaderStart_fetches (storage.trans h) (by rw [cal]; exact hv),
        (if_neg (by rw [h]; decide)).symm⟩
  have present : x.sto.storage ≠ .absent := by
    rw [storage]
    rcases h with h | ⟨h, -⟩ <;> rw [h] <;> decide
  have last := told_loaderQueue st 0 op x
  have started := loaderQueue_starts (st := st) (index := 0) (op := op) present (queued hq)
  rw [eq, start]
  have pls : (loaderQueue st 0 op x).pls.cycles = (cycleBegun a).pls.cycles ∧
      (loaderQueue st 0 op x).pls.cycleOwed = (cycleBegun a).pls.cycleOwed ∧
      (loaderQueue st 0 op x).pls.distance = (cycleBegun a).pls.distance := by
    rw [last.pls]
    show x.pls.cycles = _ ∧ x.pls.cycleOwed = _ ∧ x.pls.distance = _
    rw [toldX.pls]
    exact ⟨rfl, rfl, rfl⟩
  have before : a.pls.ringTaken = d.pls.ringTaken ∧ a.pls.cycles = d.pls.cycles ∧
      a.pls.cycleOwed = d.pls.cycleOwed ∧ a.pls.distance = d.pls.distance := by
    rw [entered.pls]
    exact ⟨rfl, rfl, rfl, rfl⟩
  obtain ⟨ring, cycles, owed, distance⟩ := before
  refine ⟨?_, ?_, started, ?_, ?_, ?_, fun i => ?_, fun g => ?_, ?_, ?_, ?_⟩
  · exact last.mod.trans (toldX.mod.trans (begun.mod.trans entered.mod))
  · rw [last.sto, ← state]
    rfl
  · rw [pls.1, begun.cycles, ring, cycles]
  · rw [pls.2.1, begun.cycleOwed, ring, owed]
  · rw [pls.2.2, begun.distance, distance]
  · have door : (loaderQueue st 0 op x).door i = (cycleBegun a).door i :=
      congrArg (fun w : DorState => w.doors[i]) (last.dor.trans toldX.dor)
    rw [door]
    exact begun.doors i
  · have gauge : (loaderQueue st 0 op x).gauge g = (cycleBegun a).gauge g :=
      congrArg (fun w : GauState => w.gauges[g]) ((last.gau (by decide)).trans (toldX.gau (le_refl 1)))
    rw [gauge]
    exact begun.gauges g
  · exact last.seq.trans (toldX.seq.trans (begun.seq.trans entered.seq))
  · exact last.cal.trans cal
  · exact last.clock.trans (toldX.clock.trans (begun.clock.trans entered.clock))

/-! ## The debounced ignition (R170, R171, R175) -/

theorem ignitionAct_saving (h : d.mod.mode = .saving) :
    ignitionAct d = { d with mod := { d.mod with returned := d.mod.ignition } } := if_pos (by rw [h]; rfl)

theorem ignitionAct_pending (h : d.mod.mode ≠ .saving) (hp : d.mod.resetPending = true) : ignitionAct d = d :=
  (if_neg (by simpa using h)).trans (if_pos hp)

/-- What a turning on brings about with no reset pending. -/
theorem ignitionAct_on (h : d.mod.mode ≠ .saving) (hp : d.mod.resetPending = false) (hi : d.mod.ignition = true) :
    ignitionAct d = if d.mod.mode = .standby then enterLoading d else d := by
  unfold ignitionAct
  rw [if_neg (by simpa using h), hp, hi]
  cases d.mod.mode <;> rfl

theorem ignitionAct_offActive (ha : d.mod.mode.active = true) (hp : d.mod.resetPending = false)
    (hi : d.mod.ignition = false) : ignitionAct d = enterSaving d := by
  have notSaving : ¬(d.mod.mode == .saving) = true := fun h => by
    rw [beq_iff_eq.mp h] at ha
    exact absurd ha (by decide)
  unfold ignitionAct
  rw [if_neg notSaving, hp, hi, if_neg Bool.false_ne_true, if_neg Bool.false_ne_true]
  rcases (Mode.active_iff _).mp ha with hm | hm | hm <;> simp only [hm]

theorem ignitionAct_offIdle (hm : d.mod.mode = .loading ∨ d.mod.mode = .awaitingImage)
    (hp : d.mod.resetPending = false) (hi : d.mod.ignition = false) : ignitionAct d = ignitionOffIdle d := by
  have notSaving : ¬(d.mod.mode == .saving) = true := by rcases hm with hm | hm <;> rw [hm] <;> decide
  unfold ignitionAct
  rw [if_neg notSaving, hp, hi, if_neg Bool.false_ne_true, if_neg Bool.false_ne_true]
  rcases hm with hm | hm <;> simp only [hm]

theorem ignitionAct_offStandby (hm : d.mod.mode = .standby) (hi : d.mod.ignition = false) : ignitionAct d = d := by
  have notSaving : ¬(d.mod.mode == .saving) = true := by rw [hm]; decide
  unfold ignitionAct
  rw [if_neg notSaving, hi, if_neg Bool.false_ne_true]
  simp only [hm, ite_self]

/-! ### The loader stopped (R159) -/

theorem loaderInFlight_iff : loaderInFlight d = true ↔ ∃ j, d.sto.job = some j ∧ j.requester = .loader := by
  unfold loaderInFlight
  cases d.sto.job with
  | none => simp
  | some j => simp

theorem rejectAbort_some {tag : Byte} (h : d.sto.loader.abortTag = some tag) :
    rejectAbort d = lnkAnswer tag [9#8, 0#8, 0#8] d := by
  unfold rejectAbort
  simp only [h]
  rfl

theorem rejectAbort_none (h : d.sto.loader.abortTag = none) : rejectAbort d = d := by
  unfold rejectAbort
  simp only [h]

theorem answered_rejectAbort (d : Dev) : Answered d (rejectAbort d) := by
  unfold rejectAbort
  split
  · exact answered_lnkAnswer _ _ d
  · exact .refl d

theorem stopLoader_inFlight (why : LoaderStop) (h : loaderInFlight d = true) : stopLoader why d =
    { rejectAbort d with sto := { d.sto with
        loader := { d.sto.loader with queued := none, abortTag := none, stop := some why } } } := by
  have sto : (rejectAbort d).sto = d.sto := by rw [(answered_rejectAbort d).frame]
  have same : loaderInFlight (rejectAbort d) = true := by
    unfold loaderInFlight at *
    rw [sto]
    exact h
  unfold stopLoader
  dsimp only
  rw [if_pos same, sto]

theorem stopLoader_idle (why : LoaderStop) (h : loaderInFlight d = false) :
    stopLoader why d = loaderIdle (rejectAbort d) := by
  have sto : (rejectAbort d).sto = d.sto := by rw [(answered_rejectAbort d).frame]
  have same : loaderInFlight (rejectAbort d) = false := by
    unfold loaderInFlight at *
    rw [sto]
    exact h
  exact if_neg (by rw [same]; decide)

theorem ignitionOffIdle_inFlight (h : loaderInFlight d = true) : ignitionOffIdle d =
    { rejectAbort d with sto := { d.sto with
        loader := { d.sto.loader with queued := none, abortTag := none, stop := some .ignitionOff } } } := by
  unfold ignitionOffIdle
  dsimp only
  rw [stopLoader_inFlight _ h]
  exact if_pos h

theorem ignitionOffIdle_idle (h : loaderInFlight d = false) :
    ignitionOffIdle d = enterStandby .ignitionOff (loaderIdle (rejectAbort d)) := by
  have same : loaderInFlight (loaderIdle (rejectAbort d)) = false := by
    have sto : (rejectAbort d).sto = d.sto := by rw [(answered_rejectAbort d).frame]
    unfold loaderInFlight loaderIdle at *
    dsimp only
    rw [sto]
    exact h
  unfold ignitionOffIdle
  dsimp only
  rw [stopLoader_idle _ h]
  exact if_neg (by rw [same]; decide)

/-! ### Turnings off -/

/-- A turning off in LOADING or AWAITING_IMAGE with no job of the loader in flight: STANDBY. -/
theorem ignitionOffIdle_stands (h : loaderInFlight d = false) (hi : d.mod.ignition = false) :
    ∃ e, ignitionOffIdle d = e ∧ e.mod = (d.mod.entered .standby .ignitionOff).cleared ∧ e.sto.loader.state = .idle ∧
      e.lnk.mask = 0#8 ∧ e.lnk.notices = [] ∧ e.lnk.requests = (rejectAbort d).lnk.requests ∧
      e.lnk.replies = (rejectAbort d).lnk.replies ∧ e.cal = d.cal ∧ e.clock = d.clock := by
  have frame := (answered_rejectAbort d).frame
  have mod : (loaderIdle (rejectAbort d)).mod = d.mod := by
    unfold loaderIdle
    rw [frame]
  have standby := enterStandby_off (d := loaderIdle (rejectAbort d)) .ignitionOff (by rw [mod]; exact hi)
  have rest : (loaderIdle (rejectAbort d)).cal = d.cal ∧ (loaderIdle (rejectAbort d)).clock = d.clock := by
    unfold loaderIdle
    rw [frame]
    exact ⟨rfl, rfl⟩
  exact ⟨_, ignitionOffIdle_idle h, by rw [standby.mod, mod], standby.loader, standby.link.unsubscribed.1,
    standby.link.unsubscribed.2, standby.requests, standby.replies, standby.cal.trans rest.1,
    standby.clock.trans rest.2⟩

/-- SAVING entered with something to flush: the flush runs. -/
theorem enterSaving_flushes (h : Unflushed d ∨ Asking d) : ∃ e, enterSaving d = e ∧
    e.mod = d.mod.saving (d.clock + 5000000) ∧ DoorsStopped e ∧ e.wrn.flash = none ∧ SeqStopped e.seq ∧
    e.lnk.timer = none ∧ e.cal = d.cal ∧ ∀ j, d.sto.job = some j → e.sto.job = some j := by
  have told := told_savingMode d
  have entered := savingEntry_entered (savingMode d)
  have left : Unflushed (savingMode d) ∨ Asking (savingMode d) := h.imp
    (undisturbed_savingMode undisturbed_unflushed fun _ _ h =>
      h.imp id (.imp (fun ⟨r, hr⟩ => ⟨r, by cases r <;> exact hr⟩) id))
    (undisturbed_savingMode undisturbed_asking fun _ _ h => h)
  refine ⟨_, (enterSaving_eq d).trans (flushJudge_unflushed (savingEntry_unflushed left)), entered.mod.trans told.mod,
    entered.doors, entered.flash, entered.seq, entered.timer, entered.cal.trans told.cal, fun j hj => ?_⟩
  have job : (savingMode d).sto.job = d.sto.job := told.flight (by rw [show _ = some j from hj]; rfl)
  rw [entered.flight (by rw [job, hj]; rfl), job, hj]

/-- SAVING entered with nothing to flush, storage being ABSENT: STANDBY at once. -/
theorem enterSaving_stands (h : Flushed d) (hp : d.mod.resetPending = false) (hi : d.mod.ignition = false) :
    ∃ e, enterSaving d = e ∧
      e.mod = ({ d.mod.saving (d.clock + 5000000) with flush := .none, flushTimer := none }.entered .standby
        .flushDone).cleared ∧
      DoorsStopped e ∧ e.wrn.flash = none ∧ LinkStopped e ∧ e.cal = d.cal := by
  have told := told_savingMode d
  obtain ⟨x, hx⟩ : ∃ x, x = savingEntry (savingMode d) := ⟨_, rfl⟩
  have entered : SavingEntered (savingMode d) x := hx ▸ savingEntry_entered (savingMode d)
  have flushed : Flushed x := hx ▸ savingEntry_flushed (undisturbed_savingMode undisturbed_flushed (fun _ _ h => h) h)
  have mod : x.mod = d.mod.saving (d.clock + 5000000) := entered.mod.trans told.mod
  have judged : enterSaving d =
      enterStandby .flushDone { x with mod := { x.mod with flush := .none, flushTimer := none } } := by
    rw [enterSaving_eq, ← hx]
    exact flushJudge_standby (by rw [mod, ModState.saving_flush]) flushed.2
      (by rw [mod, ModState.saving_resetPending, hp]) (by rw [mod, ModState.saving_returned])
  have standby := enterStandby_off (d := { x with mod := { x.mod with flush := .none, flushTimer := none } })
    .flushDone (by dsimp only; rw [mod, ModState.saving_ignition]; exact hi)
  refine ⟨_, judged, by rw [standby.mod, mod], standby.doors, standby.flash.trans ?_, standby.link,
    standby.cal.trans ?_⟩
  · dsimp only
    exact entered.flash
  · dsimp only
    exact entered.cal.trans told.cal

theorem flushed_of_nothing (h1 : d.sto.storage = .absent) (h2 : d.sto.job = none) (h3 : d.flt.queue = [])
    (h4 : d.pls.odoJob ≠ .queued) (h5 : d.sto.loader.queued = none) (h6 : d.sto.hostReads = [])
    (h7 : d.sto.storeQueued = false) (h8 : d.lnk.requests = []) (h9 : d.lnk.replies = []) : Flushed d := by
  refine ⟨h1, ?_⟩
  have odo : (d.pls.odoJob == .queued) = false := by simpa using h4
  simp [flushEmpty, groupHolds, highOrder, lowOrder, holdsJob, h2, h3, odo, h5, h6, h7, h8, h9]

/-- Settles O8: the flip told, then `ignitionAct` by the mode, the debounced state and the pending reset. -/
theorem ignitionDebounceExpiryActs : Obligations.IgnitionDebounceExpiryActs := by
  intro s t ht m now flipped d p runs inFlight aborted standby
  have told : Told 0 d p := told_lnkPost _ _ _ (.refl 0 d)
  have act {e : Dev} (h : ignitionAct p = e) : runs e :=
    .of_event rfl (show onExpiry s.dev.mod.debounceTimer ignitionExpire s.dev = e by rw [ht, onExpiry_some]; exact h)
  have mod : p.mod = flipped := told.mod
  obtain ⟨n, o, frame⟩ := lnkPost_cases .systemChange 0 (systemContent d) d
  have frame : p = { d with lnk := { s.dev.lnk with notices := n, overflow := o } } := frame
  have mode : p.mod.mode = m.mode := by rw [mod]
  have pending : p.mod.resetPending = m.resetPending := by rw [mod]
  have ignition : p.mod.ignition = !m.ignition := by rw [mod]
  have sto : p.sto = s.dev.sto := by rw [frame]
  have flight : loaderInFlight p = true ↔ inFlight := by
    rw [loaderInFlight_iff, sto]
  have abort : rejectAbort p = aborted := by
    cases htag : s.dev.sto.loader.abortTag with
    | none => exact (rejectAbort_none (by rw [sto, htag])).trans (by simp only [aborted, htag])
    | some tag => exact (rejectAbort_some (by rw [sto, htag])).trans (by simp only [aborted, htag])
  refine ⟨fun hs => ?_, fun hs hp => ?_, fun hs hst hi => ?_, fun hst hi => ?_, fun hst hi hp hq hl => ?_,
    fun hm hi hp => ⟨fun hj => ?_, fun hj => ?_⟩, ?_⟩
  · refine act ((ignitionAct_saving (mode.trans hs)).trans ?_)
    rw [mod]
  · exact act (ignitionAct_pending (by rw [mode]; exact hs) (pending.trans hp))
  · cases hp : m.resetPending with
    | true => exact act (ignitionAct_pending (by rw [mode]; exact hs) (pending.trans hp))
    | false =>
      exact act ((ignitionAct_on (by rw [mode]; exact hs) (pending.trans hp) (by rw [ignition, hi]; rfl)).trans
        (if_neg (by rw [mode]; exact hst)))
  · exact act (ignitionAct_offStandby (mode.trans hst) (by rw [ignition, hi]; rfl))
  · have standing : ignitionAct p = enterLoading p :=
      (ignitionAct_on (by rw [mode, hst]; decide) (pending.trans hp) (by rw [ignition, hi]; rfl)).trans
        (if_pos (mode.trans hst))
    obtain ⟨hmod, hloader, hjob, hcycles, howed, hdistance, hdoors, hgauges, hseq, hcal, hclock⟩ :=
      enterLoading_entered (d := p) (by rw [sto]; exact hq) (by rw [sto, frame]; exact hl)
    refine ⟨_, act standing, ?_, ?_, hjob, ?_, ?_, ?_, hdoors, hgauges, ?_, ?_, ?_⟩
    · rw [hmod, mod, ModState.entered, show flipped.mode = .standby from hst]
    · rw [hloader, sto]
    · rw [hcycles, frame]
    · rw [howed, frame]
    · rw [hdistance, frame]
    · rw [hseq, frame]
    · rw [hcal, frame]
    · rw [hclock, frame]
  · have off := ignitionAct_offIdle (d := p) (by rw [mode]; exact hm) (pending.trans hp) (by rw [ignition, hi]; rfl)
    refine act (off.trans ((ignitionOffIdle_inFlight (flight.mpr hj)).trans ?_))
    rw [abort, sto]
  · have off := ignitionAct_offIdle (d := p) (by rw [mode]; exact hm) (pending.trans hp) (by rw [ignition, hi]; rfl)
    obtain ⟨e, he, hmod, hloader, hmask, hnotices, hrequests, hreplies, hcal, hclock⟩ :=
      ignitionOffIdle_stands (d := p) (Bool.eq_false_iff.mpr fun h => hj (flight.mp h)) (by rw [ignition, hi]; rfl)
    rw [abort] at hrequests hreplies
    refine ⟨e, act (off.trans he), ?_, hloader, hmask, hnotices, hrequests, hreplies, ?_, ?_⟩
    · rw [hmod, mod]
      rfl
    · rw [hcal, frame]
    · rw [hclock, frame]
  · intro ha hi hp k
    have active : p.mod.mode.active = true := by
      rw [mode]
      exact (Mode.active_iff _).mpr ha
    have off : p.mod.ignition = false := by rw [ignition, hi]; rfl
    have saves := ignitionAct_offActive active (pending.trans hp) off
    refine ⟨fun hl => ?_, fun h1 h2 h3 h4 h5 h6 h7 h8 h9 => ?_⟩
    · have left : Unflushed p ∨ Asking p := by
        rw [frame]
        rcases hl with h | h | h | ⟨h1, h2, h3⟩
        · exact .inl (.inl h)
        · exact .inl (.inr (.inr (.inl h)))
        · exact .inl (.inr (.inr (.inr h)))
        · exact .inr ⟨h1, h2, h3⟩
      obtain ⟨e, he, hmod, hdoors, hflash, hseq, htimer, hcal, hjob⟩ := enterSaving_flushes left
      refine ⟨e, act (saves.trans he), ?_, hdoors.running, hdoors.held, hflash, hseq.fast, hseq.medium, hseq.slow,
        hseq.onDemand, htimer, ?_, fun j hj => hjob j (by rw [sto]; exact hj)⟩
      · rw [hmod, mod, told.clock]
        rfl
      · rw [hcal, frame]
    · have flushed : Flushed p := by
        rw [frame]
        exact flushed_of_nothing h1 h2 h3 h4 h5 h6 h7 h8 h9
      obtain ⟨e, he, hmod, hdoors, hflash, hlink, hcal⟩ := enterSaving_stands flushed (pending.trans hp) off
      refine ⟨e, act (saves.trans he), ?_, hdoors.running, hdoors.held, hflash, hlink.unsubscribed.1,
        hlink.unsubscribed.2, hlink.timer, ?_⟩
      · rw [hmod, mod]
        rfl
      · rw [hcal, frame]

/-! ## The end of the flush (R175, R179) -/

/-- A flush that ends with a reset pending is the soft reset (R179). -/
theorem flushEnd_reset (hp : d.mod.resetPending = true) : ∃ x, flushEnd true d = softReset x ∧ x.mod.ignition = d.mod.ignition ∧
    x.cal = d.cal ∧ x.pls = d.pls := by
  obtain ⟨a, ha⟩ : ∃ a : Dev, a = { d with mod := { d.mod with flush := .none, flushTimer := none } } := ⟨_, rfl⟩
  have answered := answered_answerDeferred a
  have eq : flushEnd true d = softReset (answerDeferred a) := by
    unfold flushEnd
    rw [ha]
    exact if_pos hp
  refine ⟨_, eq, ?_, ?_, ?_⟩ <;> rw [answered.frame, ha]

theorem stoLoading_none (h : ∀ k, condOf d.sto k = false) : stoLoading d = d := by
  simp [stoLoading, allConds, h]

/-- The first mode of a soft reset (R172, R179). -/
theorem softReset_first (d : Dev) : ∃ e, softReset d = e ∧ e.mod.resetCause = .hostRequest ∧ e.mod.resetPending = false ∧
    e.mod.flush = .none ∧ e.mod.mode = (if d.mod.ignition then .loading else .standby) ∧ e.lnk.requests = [] ∧
    e.lnk.notices = [] ∧ e.cal.ram = d.cal.ram ∧ e.cal.valid = false ∧ e.pls.distance = d.pls.distance ∧
    e.pls.cycles = d.pls.cycles := by
  cases hi : d.mod.ignition with
  | false =>
    have standby : softReset d = softResetState d := by
      have off : ¬(softResetState d).mod.ignition = true := by
        show ¬d.mod.ignition = true
        rw [hi]
        decide
      exact (if_neg off).trans (lnkPost_unmasked rfl)
    exact ⟨_, standby, rfl, rfl, rfl, rfl, rfl, rfl, rfl, rfl, rfl, rfl⟩
  | true =>
    obtain ⟨z, hz⟩ : ∃ z : Dev, z = plsStop { softResetState d with
        mod := { (softResetState d).mod with mode := .loading } } := ⟨_, rfl⟩
    have loading : softReset d = loaderStart (stoLoading z) := by
      have posted : postMode { softResetState d with mod := { (softResetState d).mod with mode := .loading } } =
          { softResetState d with mod := { (softResetState d).mod with mode := .loading } } := lnkPost_unmasked rfl
      have first : softReset d = beginLoading false (postMode { softResetState d with
          mod := { (softResetState d).mod with mode := .loading } }) := if_pos hi
      rw [first, posted, hz]
      rfl
    have quiet : stoLoading z = z := stoLoading_none fun k => by rw [hz]; cases k <;> rfl
    have probes : loaderStart z = loaderQueue .probing 0 .probe z := loaderStart_probes (by rw [hz]; rfl)
    have told := told_loaderQueue .probing 0 .probe z
    have lnk : (loaderQueue .probing 0 .probe z).lnk = LnkState.resetValue := by
      rw [loaderQueue_eq, stoGrant_lnk, hz]
      rfl
    rw [loading, quiet, probes]
    refine ⟨_, rfl, ?_⟩
    rw [told.mod, lnk, told.cal, told.pls, hz]
    exact ⟨rfl, rfl, rfl, rfl, rfl, rfl, rfl, rfl, rfl, rfl⟩

/-! ### The return to RUN -/

/-- One door's record at DOR's start. -/
def doorStart (download : Bool) (i : Fin 4) (d : Dev) : Dev :=
  d.setDoor i (if configured d i then
    startDoor d (d.doorSettings i) (if download then 0 else (d.door i).obstructions) else DoorRec.resetValue)

/-- What DOR's start tells once its record is written. -/
def interlockStart (new : Interlock) (d : Dev) : Dev :=
  let d := fltReportIf new.bypassHeld 0x31 0 true d
  let d := if new.drivePermit || new.brakePermit then postInterlock d else d
  wrnInterlock (forEach 4 (fun i e => if configured e i then wrnDoor i.val e else e) d)

theorem told_interlockStart (new : Interlock) (d : Dev) : Told 1 d (interlockStart new d) := by
  unfold interlockStart
  dsimp only
  refine told_wrnInterlock (told_forEach (fun i e he => ?_) ?_)
  · split
    · exact told_wrnDoor _ he
    · exact he
  · have reported : Told 1 d (fltReportIf new.bypassHeld 0x31 0 true d) := told_fltReportIf _ _ _ _ (.refl 1 d)
    split
    · exact told_lnkPost _ _ _ reported
    · exact reported

/-- DOR's start is an effect on DOR that is told. -/
theorem dorStart_runs (download : Bool) (d : Dev) :
    DoorsTold d (dorStart download d) ∧ (dorStart download d).dor.running = true := by
  obtain ⟨a, ha⟩ : ∃ a : Dev, a = { d with dor := { d.dor with
    running := true, cfg := d.dorCfg, roadQuality := .notYet, roadInstant := 0 } } := ⟨_, rfl⟩
  have started : DoorsTold d a ∧ a.dor.running = true := by
    rw [ha]
    exact ⟨.setDor (.refl d) _, rfl⟩
  obtain ⟨b, hb⟩ : ∃ b, b = forEach 4 (doorStart download) a := ⟨_, rfl⟩
  have doors : DoorsTold d b ∧ b.dor.running = true := by
    rw [hb]
    exact forEach_keeps (P := fun e => DoorsTold d e ∧ e.dor.running = true)
      (fun i e he => ⟨he.1.setDoor i _, he.2⟩) started
  obtain ⟨c, hc⟩ : ∃ c, c = (b.setInterlock Interlock.resetValue).setInterlock
    (interlockNow (b.setInterlock Interlock.resetValue) true) := ⟨_, rfl⟩
  have interlock : DoorsTold d c ∧ c.dor.running = true := by
    rw [hc]
    exact ⟨(doors.1.setInterlock _).setInterlock _, doors.2⟩
  have eq : dorStart download d = interlockStart c.dor.interlock c := by
    rw [hc, hb, ha]
    rfl
  have told := told_interlockStart c.dor.interlock c
  rw [eq]
  exact ⟨interlock.1.told told, by rw [told.dor]; exact interlock.2⟩

/-- RUN entered from SAVING (R175). -/
theorem enterRunReturned_entered (d : Dev) : ∃ e, enterRunReturned d = e ∧
    e.mod = d.mod.entered .run .ignitionReturned ∧ e.dor.running = true ∧ e.cal = d.cal := by
  obtain ⟨a, ha⟩ : ∃ a, a = modSet .run .ignitionReturned d := ⟨_, rfl⟩
  have entered : Told 0 { d with mod := d.mod.entered .run .ignitionReturned } a := ha ▸ told_modSet _ _ d
  obtain ⟨b, hb⟩ : ∃ b, b = modReturn a := ⟨_, rfl⟩
  have toldB : Told 0 a b := hb ▸ told_fltReportIf _ _ _ _ (told_fltReportIf _ _ _ _ (told_fltReportIf _ _ _ _ (.refl 0 a)))
  obtain ⟨c, hc⟩ : ∃ c, c = sigReturn b := ⟨_, rfl⟩
  have stagedC : Staged b c := hc ▸ (staged_sig _ b).trans (told_sigReport true (.refl 0 _)).staged
  obtain ⟨x, hx⟩ : ∃ x, x = stoReturn (gauReturn c) := ⟨_, rfl⟩
  have toldX : Told 2 c x := by
    rw [hx]
    exact List.foldlRecOn (motive := Told 2 c) _ _ (told_gauReturn (.refl 2 c)) fun e he k _ => told_fltReportIf _ _ _ _ he
  obtain ⟨y, hy⟩ : ∃ y, y = lnkStartTimer (fltReportIf x.lnk.held 0x60 0 true x) := ⟨_, rfl⟩
  have stagedY : Staged x y := hy ▸ (told_fltReportIf _ _ _ _ (.refl 0 x)).staged.trans (staged_timer _ _)
  obtain ⟨doors, running⟩ := dorStart_runs false y
  obtain ⟨w, hw⟩ : ∃ w, w = dorStart false y := ⟨_, rfl⟩
  rw [← hw] at doors running
  have toldW : Told 1 { y with dor := w.dor } w := doors
  have started : Staged w (seqStart (wrnStart w)) := (told_wrnStart (.refl 1 w)).staged.trans (staged_seqStart _)
  have eq : enterRunReturned d = seqStart (wrnStart w) := by
    rw [hw, hy, hx, hc, hb, ha]
    rfl
  refine ⟨_, eq, ?_, ?_, ?_⟩
  · exact started.mod.trans (toldW.mod.trans (stagedY.mod.trans (toldX.mod.trans (stagedC.mod.trans
      (toldB.mod.trans entered.mod)))))
  · rw [started.dor]
    exact running
  · exact started.cal.trans (toldW.cal.trans (stagedY.cal.trans (toldX.cal.trans (stagedC.cal.trans
      (toldB.cal.trans entered.cal)))))

theorem flushEnd_returns (limit : Bool) (hp : d.mod.resetPending = false) (hr : d.mod.returned = true) :
    flushEnd limit d = enterRunReturned
      { d with mod := { d.mod with flush := .none, flushTimer := none, returned := false } } := by
  unfold flushEnd
  simp only [hp, hr, Bool.false_eq_true, if_false, if_true]

/-- Settles O10: the three ends of the flush. -/
theorem flushTimerExpiryLeavesFlush : Obligations.FlushTimerExpiryLeavesFlush := by
  intro s t ht
  have act {e : Dev} (h : flushEnd true (s.dev.advanceTo t) = e) : Runs .flushTimerExpiry s e :=
    .of_event rfl (show onExpiry s.dev.mod.flushTimer (flushEnd true) s.dev = e by rw [ht, onExpiry_some]; exact h)
  refine ⟨fun hp => ?_, fun hp hr => ?_, fun hp hr hi => ?_⟩
  · obtain ⟨x, hx, ignition, cal, pls⟩ := flushEnd_reset (d := s.dev.advanceTo t) hp
    obtain ⟨e, he, h1, h2, h3, h4, h5, h6, h7, h8, h9, h10⟩ := softReset_first x
    rw [ignition] at h4
    rw [cal] at h7
    rw [pls] at h9 h10
    exact ⟨e, act (hx.trans he), h1, h2, h3, h4, h5, h6, h7, h8, h9, h10⟩
  · have returns := flushEnd_returns (d := s.dev.advanceTo t) true hp hr
    obtain ⟨e, he, mod, running, cal⟩ := enterRunReturned_entered { s.dev.advanceTo t with
      mod := { s.dev.mod with flush := .none, flushTimer := none, returned := false } }
    refine ⟨e, act (returns.trans he), ?_, ?_, ?_, ?_, ?_, ?_, running, cal⟩ <;> rw [mod] <;> rfl
  · obtain ⟨a, ha⟩ : ∃ a : Dev, a = { s.dev.advanceTo t with
      mod := { s.dev.mod with flush := .none, flushTimer := none } } := ⟨_, rfl⟩
    have stands : flushEnd true (s.dev.advanceTo t) = enterStandby .flushLimit a := by
      rw [ha]
      exact flushEnd_standby (d := s.dev.advanceTo t) true hp hr
    have standby := enterStandby_off (d := a) .flushLimit (by rw [ha]; exact hi)
    generalize enterStandby .flushLimit a = e at stands standby
    obtain ⟨mod, -, cal, requests, -, -, -, doors, link⟩ := standby
    subst ha
    refine ⟨e, act stands, ?_, ?_, ?_, ?_, ?_, doors.running, link.unsubscribed.1, link.unsubscribed.2, requests, cal⟩
      <;> rw [mod] <;> rfl

end Sys2Proof.Machine
end


section
/-! SUPPORT. The storage port: status bytes and the probe (O36), the reads (O37) and the writes (O38). -/

namespace Sys2Proof.Machine

variable {d e e' : Dev} {m : ModState} {j : Job}

/-! ## Status bytes (R150, R151) -/

/-- A poll: the device is ready, or the attempt fails, or the next poll follows. -/
theorem statusByte_poll {t : Nat} (status : Byte) (h : j.phase = .polling t) : statusByte j status d =
    if status.getLsbD 0 = false then deviceReady { j with polls := j.polls + 1 } (d.advanceTo t)
    else if status = 0xFF#8 ∨ 20 ≤ j.polls + 1 then attemptFailed { j with polls := j.polls + 1 } (d.advanceTo t)
    else setJob { j with polls := j.polls + 1, phase := .polling ((d.advanceTo t).clock + 1000) } (d.advanceTo t) := by
  unfold statusByte
  rw [h]
  dsimp only
  by_cases hff : status = 0xFF#8
  · rw [if_pos hff, if_neg (by rw [hff]; decide), if_pos (.inl hff)]
  · rw [if_neg hff]
    by_cases hb : status.getLsbD 0 = false
    · rw [if_pos (show (!busy status) = true by rw [busy, hb]; rfl), if_pos hb]
    · rw [if_neg (show ¬(!busy status) = true by simpa [busy] using hb), if_neg hb]
      by_cases h20 : 20 ≤ j.polls + 1
      · rw [if_pos h20, if_pos (.inr h20)]
      · rw [if_neg h20, if_neg (by simp [hff, h20])]
        rfl

/-- The first status byte of an attempt. -/
theorem statusByte_first (status : Byte) (h : j.phase = .started) : statusByte j status d =
    if status.getLsbD 0 = false then deviceReady j d
    else if status = 0xFF#8 then attemptFailed j d
    else setJob { j with phase := .polling (d.clock + 1000) } d := by
  unfold statusByte
  rw [h]
  dsimp only
  by_cases hff : status = 0xFF#8
  · rw [if_pos hff, if_neg (by rw [hff]; decide), if_pos hff]
  · rw [if_neg hff]
    by_cases hb : status.getLsbD 0 = false
    · rw [if_neg (show ¬busy status = true by rw [busy, hb]; decide), if_pos hb]
    · rw [if_pos (show busy status = true by simpa [busy] using hb), if_neg hb, if_neg hff]
      rfl

/-- A failed attempt of a write or a read is made again up to two times. -/
theorem attemptFailed_retried (h : j.op ≠ .probe) : attemptFailed j d = setJob
    (if j.attempt < 3 then { j with attempt := j.attempt + 1, polls := 0, phase := startPhase d.clock j.op }
    else { j with phase := .ended false }) d := by
  unfold attemptFailed
  by_cases ha : j.attempt < 3
  · rw [if_pos (by simp [h, ha]), if_pos ha]
  · rw [if_neg (by simp [ha]), if_neg ha]

theorem attemptFailed_write {a : Nat} {bs : List Byte} (h : j.op = .write a bs) : attemptFailed j d = setJob
    (if j.attempt < 3 then { j with attempt := j.attempt + 1, polls := 0, phase := .polling (d.clock + 1000) }
    else { j with phase := .ended false }) d := by
  have phase : startPhase d.clock j.op = .polling (d.clock + 1000) := by rw [h]; rfl
  rw [attemptFailed_retried (by rw [h]; exact nofun), phase]

theorem attemptFailed_read {a n : Nat} (h : j.op = .read a n) : attemptFailed j d = setJob
    (if j.attempt < 3 then { j with attempt := j.attempt + 1, polls := 0, phase := .started }
    else { j with phase := .ended false }) d := by
  have phase : startPhase d.clock j.op = .started := by rw [h]; rfl
  rw [attemptFailed_retried (by rw [h]; exact nofun), phase]

theorem attemptFailed_probe (h : j.op = .probe) : attemptFailed j d = setJob { j with phase := .ended false } d :=
  if_neg (by simp [h])

theorem deviceReady_read {a n : Nat} (h : j.op = .read a n) : deviceReady j d = setJob { j with phase := .transfer } d := by
  unfold deviceReady
  rw [h]

theorem deviceReady_write {a : Nat} {bs : List Byte} (h : j.op = .write a bs) :
    deviceReady j d = setJob { j with phase := .ended true } d := by
  unfold deviceReady
  rw [h]

theorem deviceReady_probe (h : j.op = .probe) : deviceReady j d = setJob { j with phase := .ended true } d := by
  unfold deviceReady
  rw [h]

theorem statusRead_job (status : Byte) (h : d.sto.job = some j) : statusRead status d = statusByte j status d := by
  unfold statusRead
  rw [h]

/-- The job of the port is all a status byte writes. -/
theorem Runs.of_statusByte {s : State} {status : Byte} {clock : Nat} {k : Job} (hj : s.dev.sto.job = some j)
    (h : statusByte j status s.dev = { s.dev with clock := clock, sto := { s.dev.sto with job := some k } }) :
    Runs (.storagePollTick status) s { s.dev with clock := clock, sto := { s.dev.sto with job := some k } } :=
  .of_event (f := statusRead status) rfl ((statusRead_job status hj).trans h)

/-! ## AWAITING_IMAGE entry (R12, R40, R52, R75, R106, R127, R183, R194) -/

/-- What the entry to AWAITING_IMAGE leaves. -/
structure AwaitingEntered (cause : ModeCause) (d e : Dev) : Prop where
  mod : e.mod = (d.mod.entered .awaitingImage cause).cleared
  clock : e.clock = d.clock
  cal : e.cal = d.cal
  ring : e.pls.ringTaken = d.pls.ringTaken
  sto : e.sto = { d.sto with
    job := e.sto.job, hostReads := e.sto.hostReads, storeQueued := e.sto.storeQueued
    lastHigh := e.sto.lastHigh, lastLow := e.sto.lastLow, highWhileLow := e.sto.highWhileLow
    loader := { d.sto.loader with queued := e.sto.loader.queued }
    absentHeld := e.sto.absentHeld, writeFailedHeld := e.sto.writeFailedHeld, unstoredHeld := e.sto.unstoredHeld }
  replies : ∃ more, e.lnk.replies = d.lnk.replies ++ more
  slots {b : Bool} : SlotsTaken b d → SlotsTaken b e
  doors : DoorsStopped e
  gauges (g : Fin 6) : (e.gauge g).state = .off
  flash : e.wrn.flash = none
  onDemand : e.seq.onDemand = []
  timer : e.lnk.timer = none

/-- The record of a gauge that has stopped (R75). -/
def GaugeRec.stopped (clearRestarts : Bool) (r : GaugeRec) : GaugeRec :=
  { GaugeRec.resetValue with
    position := r.position, target := r.target, sinDuty := r.sinDuty, cosDuty := r.cosDuty
    restarts := if clearRestarts then 0 else r.restarts }

theorem gauStop_written (clearRestarts : Bool) (d : Dev) : ∃ w, gauStop clearRestarts d =
      { forEach 6 gaugeReportAbsent d with gau := w } ∧
    w.gauges = (forEach 6 gaugeReportAbsent d).gau.gauges.map (GaugeRec.stopped clearRestarts) :=
  ⟨⟨(forEach 6 gaugeReportAbsent d).gau.gauges.map (GaugeRec.stopped clearRestarts), none⟩, rfl, rfl⟩

theorem gauStop_gauges (clearRestarts : Bool) (g : Fin 6) (d : Dev) :
    ((gauStop clearRestarts d).gauge g).state = .off := by
  obtain ⟨w, eq, hw⟩ := gauStop_written clearRestarts d
  unfold Dev.gauge
  rw [eq]
  dsimp only
  rw [hw]
  simp [GaugeRec.stopped, GaugeRec.resetValue]

theorem slotsTaken_of_flt {b : Bool} (h : e.flt = d.flt) (hs : SlotsTaken b d) : SlotsTaken b e := by
  unfold SlotsTaken
  rw [h]
  exact hs

theorem plsStop_flt (d : Dev) : (plsStop d).flt = d.flt := rfl

theorem plsStop_seq (d : Dev) : (plsStop d).seq = d.seq := rfl

theorem sigStop_seq (d : Dev) : (sigStop d).seq = d.seq := by
  have chan (i : Fin 44) (e : Dev) : (chanReset i e).seq = e.seq := by
    unfold chanReset Dev.setChan
    split <;> rfl
  have reset : (forEach 44 chanReset (sigReport false d)).seq = d.seq :=
    forEach_keeps (P := fun e => e.seq = d.seq) (d := sigReport false d) (fun i e he => (chan i e).trans he)
      (told_sigReport false (.refl 0 d)).seq
  obtain ⟨w, eq⟩ := sigStop_eq d
  rw [eq]
  dsimp only
  exact reset

theorem chanReset_flt (i : Fin 44) (d : Dev) : (chanReset i d).flt = d.flt := by
  unfold chanReset Dev.setChan
  split <;> rfl

theorem sigStop_slotsTaken {b : Bool} (h : SlotsTaken b d) : SlotsTaken b (sigStop d) := by
  have hP := undisturbed_slotsTaken b
  have reported : SlotsTaken b (sigReport false d) := by
    refine hP.fltReportIf _ _ _ _ (hP.forEach (fun i e he => ?_) h)
    split
    · exact hP.fltReport _ _ _ he
    · exact he
  have reset : SlotsTaken b (forEach 44 chanReset (sigReport false d)) :=
    hP.forEach (fun i e he => slotsTaken_of_flt (chanReset_flt i e) he) reported
  obtain ⟨w, eq⟩ := sigStop_eq d
  rw [eq]
  exact slotsTaken_of_flt (by dsimp only) reset

theorem gauStop_slotsTaken {b : Bool} (clearRestarts : Bool) (h : SlotsTaken b d) :
    SlotsTaken b (gauStop clearRestarts d) := by
  have hP := undisturbed_slotsTaken b
  have reported : SlotsTaken b (forEach 6 gaugeReportAbsent d) :=
    hP.forEach (fun g e he => hP.fltReportIf _ _ _ _ (hP.gau _ he)) h
  obtain ⟨w, eq⟩ := gauStop_eq clearRestarts d
  rw [eq]
  exact slotsTaken_of_flt (by dsimp only) reported

theorem modClearSupply_slotsTaken {b : Bool} (h : SlotsTaken b d) : SlotsTaken b (modClearSupply d) := by
  have hP := undisturbed_slotsTaken b
  obtain ⟨a, ha, eq⟩ : ∃ a, SlotsTaken b a ∧ modClearSupply d = { a with mod := a.mod.cleared } :=
    ⟨_, hP.fltReportIf _ _ _ _ (hP.fltReportIf _ _ _ _ (hP.fltReportIf _ _ _ _ h)), rfl⟩
  rw [eq]
  exact slotsTaken_of_flt (by dsimp only) ha

theorem dorStop_slotsTaken {b : Bool} (forget : Bool) (h : SlotsTaken b d) : SlotsTaken b (dorStop forget d) := by
  have hP := undisturbed_slotsTaken b
  have reported : SlotsTaken b (dorReportAbsent d) :=
    hP.fltReportIf _ _ _ _ (hP.forEach (fun _ _ he => hP.fltReportIf _ _ _ _ he) h)
  obtain ⟨w, eq, -, -⟩ := dorStop_eq forget d
  rw [eq]
  exact slotsTaken_of_flt (by dsimp only) reported

theorem enterAwaiting_entered (cause : ModeCause) (d : Dev) : AwaitingEntered cause d (enterAwaiting cause d) := by
  obtain ⟨a, ha⟩ : ∃ a, a = modSet .awaitingImage cause d := ⟨_, rfl⟩
  have entered : Told 0 { d with mod := d.mod.entered .awaitingImage cause } a := ha ▸ told_modSet _ cause d
  have takenA {b : Bool} (h : SlotsTaken b d) : SlotsTaken b a := by
    rw [ha]
    exact (undisturbed_slotsTaken b).post (d := { d with mod := d.mod.entered .awaitingImage cause }) _ _ _ h
  obtain ⟨c, hc⟩ : ∃ c, c = wrnStop (gauEndOverrides a) := ⟨_, rfl⟩
  have toldC : Told 2 a c := hc ▸ told_wrnStop (told_gauEndOverrides (.refl 2 a))
  have flashC : c.wrn.flash = none := by
    rw [hc]
    rfl
  have takenC {b : Bool} (h : SlotsTaken b a) : SlotsTaken b c := by
    rw [hc]
    exact (undisturbed_slotsTaken b).wrnStop ((undisturbed_slotsTaken b).gauEndOverrides h)
  obtain ⟨w, stopEq, -, -⟩ := dorStop_eq true c
  obtain ⟨f, hf⟩ : ∃ f, f = dorStop true c := ⟨_, rfl⟩
  have doors : DoorsStopped f := by
    rw [hf]
    exact dorStop_stopped true c
  have stagedF : Staged { c with dor := f.dor } f := by
    rw [hf]
    exact dorStaged_dorStop true c
  have flashF : f.wrn.flash = none := by
    rw [hf, stopEq]
    exact (congrArg WrnState.flash ((told_dorReportAbsent (.refl 0 c)).wrn rfl)).trans flashC
  have takenF {b : Bool} (h : SlotsTaken b c) : SlotsTaken b f := by
    rw [hf]
    exact dorStop_slotsTaken true h
  obtain ⟨q, stopped, answered⟩ := seqStop_answers f
  obtain ⟨g, hg⟩ : ∃ g, g = seqStop f := ⟨_, rfl⟩
  rw [← hg] at answered
  have frameG := answered.frame
  obtain ⟨more, moreG⟩ := answered.replies
  obtain ⟨x, hx⟩ : ∃ x, x = plsStop (sigStop g) := ⟨_, rfl⟩
  have stagedX : Staged g x := hx ▸ (staged_sigStop g).trans (staged_plsStop _)
  have wrnX : x.wrn = g.wrn := by rw [hx, plsStop_wrn, sigStop_wrn]
  have seqX : x.seq = g.seq := by rw [hx, plsStop_seq, sigStop_seq]
  have takenX {b : Bool} (h : SlotsTaken b g) : SlotsTaken b x := by
    rw [hx]
    exact slotsTaken_of_flt (plsStop_flt _) (sigStop_slotsTaken h)
  obtain ⟨y, hy⟩ : ∃ y, y = gauStop true x := ⟨_, rfl⟩
  have toldY : Told 2 x y := hy ▸ told_gauStop true (.refl 2 x)
  have wrnY : y.wrn = x.wrn := hy ▸ gauStop_wrn true x
  have gaugesY (k : Fin 6) : (y.gauge k).state = .off := by
    rw [hy]
    exact gauStop_gauges true k x
  have takenY {b : Bool} (h : SlotsTaken b x) : SlotsTaken b y := by
    rw [hy]
    exact gauStop_slotsTaken true h
  have supply := told_modClearSupply y
  have eq : enterAwaiting cause d = lnkStopTimer (modClearSupply y) := by
    rw [hy, hx, hg, hf, hc, ha]
    rfl
  have takenZ {b : Bool} (h : SlotsTaken b y) : SlotsTaken b (modClearSupply y) := modClearSupply_slotsTaken h
  rw [eq]
  generalize modClearSupply y = z at supply takenZ
  have stagedZ : Staged { y with mod := y.mod.cleared } z := supply.staged
  have last : Staged z (lnkStopTimer z) := staged_timer none z
  have toY : y.mod = d.mod.entered .awaitingImage cause ∧ y.clock = d.clock ∧ y.cal = d.cal ∧
      y.pls.ringTaken = d.pls.ringTaken := by
    have toF : f.mod = d.mod.entered .awaitingImage cause ∧ f.clock = d.clock ∧ f.cal = d.cal ∧
        f.pls.ringTaken = d.pls.ringTaken :=
      ⟨stagedF.mod.trans (toldC.mod.trans entered.mod), stagedF.clock.trans (toldC.clock.trans entered.clock),
        stagedF.cal.trans (toldC.cal.trans entered.cal),
        stagedF.ring.trans (toldC.staged.ring.trans entered.staged.ring)⟩
    have toG : g.mod = f.mod ∧ g.clock = f.clock ∧ g.cal = f.cal ∧ g.pls.ringTaken = f.pls.ringTaken := by
      rw [frameG]
      exact ⟨rfl, rfl, rfl, rfl⟩
    have rest := stagedX.trans toldY.staged
    exact ⟨rest.mod.trans (toG.1.trans toF.1), rest.clock.trans (toG.2.1.trans toF.2.1),
      rest.cal.trans (toG.2.2.1.trans toF.2.2.1), rest.ring.trans (toG.2.2.2.trans toF.2.2.2)⟩
  obtain ⟨modY, clockY, calY, ringY⟩ := toY
  refine ⟨?_, ?_, ?_, ?_, ?_, ?_, fun h => ?_, ?_, fun k => ?_, ?_, ?_, rfl⟩
  · rw [last.mod, stagedZ.mod, modY]
  · exact stagedZ.clock.trans clockY
  · exact stagedZ.cal.trans calY
  · exact stagedZ.ring.trans ringY
  · have stoG : g.sto = f.sto := by rw [frameG]
    rw [last.sto, stagedZ.sto, toldY.sto, stagedX.sto, stoG, stagedF.sto, toldC.sto, entered.sto]
  · have repliesF : f.lnk.replies = d.lnk.replies :=
      stagedF.replies.trans (toldC.staged.replies.trans entered.staged.replies)
    refine ⟨more, ?_⟩
    rw [last.replies, stagedZ.replies]
    show y.lnk.replies = _
    rw [toldY.staged.replies, stagedX.replies, moreG, ← repliesF]
  · have takenG : SlotsTaken _ g := slotsTaken_of_flt (by rw [frameG]) (takenF (takenC (takenA h)))
    exact slotsTaken_of_flt (show (lnkStopTimer z).flt = z.flt from rfl) (takenZ (takenY (takenX takenG)))
  · have dorG : g.dor = f.dor := by rw [frameG]
    exact doors.of_dor (last.dor.trans (stagedZ.dor.trans (toldY.dor.trans (stagedX.dor.trans dorG))))
  · have gau : (lnkStopTimer z).gauge k = y.gauge k := gauge_of_gau (supply.gau (by decide)) k
    rw [gau]
    exact gaugesY k
  · have wrnG : g.wrn = f.wrn := by rw [frameG]
    have wrn : (lnkStopTimer z).wrn = f.wrn := (supply.wrn rfl).trans (wrnY.trans (wrnX.trans wrnG))
    rw [wrn]
    exact flashF
  · have seqG : g.seq = q := by rw [frameG]
    have seq : (lnkStopTimer z).seq = q := supply.seq.trans (toldY.seq.trans (seqX.trans seqG))
    rw [seq]
    exact stopped.onDemand

/-! ## The end of a job (R153, R175) -/

/-- The port is free. -/
def portFree (d : Dev) : Dev := { d with sto := { d.sto with job := none } }

theorem jobEnd_eq (d : Dev) : jobEnd d = flushJudge (stoGrant (portFree d)) := rfl

theorem stoGrant_busy (h : d.sto.job.isSome = true) : stoGrant d = d := if_pos (by rw [h]; rfl)

theorem stoGrant_absent (h : d.sto.storage = .absent) : stoGrant d = d := if_pos (by rw [h]; simp)

theorem loaderQueue_busy {st : LoaderState} {index : Nat} {op : JobOp} (h : d.sto.job.isSome = true) :
    loaderQueue st index op d = loaderQueued st index op d := stoGrant_busy h

/-- The loader's next job goes into flight at the end of the one before it, or another that waits does. -/
theorem jobEnd_loader {st : LoaderState} {index : Nat} {op : JobOp} (hj : d.sto.job.isSome = true)
    (hs : d.sto.storage ≠ .absent) (hq : d.sto.storeQueued = false) :
    jobEnd (loaderQueue st index op d) = stoGrant (portFree (loaderQueued st index op d)) ∧
    (stoGrant (portFree (loaderQueued st index op d))).sto.job.isSome = true := by
  have started : (stoGrant (portFree (loaderQueued st index op d))).sto.job.isSome = true :=
    stoGrant_starts (r := .loader) hs hq rfl
  refine ⟨?_, started⟩
  rw [jobEnd_eq, loaderQueue_busy hj]
  exact flushJudge_unflushed (.inl started)

/-! ## The probe (R155, R158) -/

theorem probeJudged_found (h : d.sto.loader.stop = none) (hv : d.cal.valid = false) : probeJudged true d =
    loaderQueue .fetchingHeader 0 (.read 0 16) { d with sto := { d.sto with storage := .present } } := by
  unfold probeJudged loaderImage
  rw [h]
  simp [hv]

theorem heldTold_stoCondition (k : StorageCond) (b : Bool) (d : Dev) : HeldTold (setCond k b d) (stoCondition k b d) := by
  unfold stoCondition
  dsimp only
  split
  · exact .refl _
  · exact told_changeHeld k b (.refl _)

/-- Loading that finds nothing to read and no image in RAM ends in AWAITING_IMAGE. -/
theorem loaderImage_none (hv : d.cal.valid = false) (hs : d.sto.storage = .absent) : loaderImage d =
    enterAwaiting .noImage { loaderIdle d with cal := { d.cal with origin := .loading } } := by
  have absent : (d.sto.storage == .present) = false := by rw [hs]; rfl
  have image : loaderImage d = loaderRing d := by
    unfold loaderImage
    simp [hv, absent]
  have ring : loaderRing d = loaderSlots d := if_neg (by simp [absent])
  have slots : loaderSlots d = loadingEnded d := if_neg (by simp [absent])
  have ended : loadingEnded d = enterAwaiting .noImage { loaderIdle d with cal := { d.cal with origin := .loading } } :=
    if_neg (show ¬d.cal.valid = true by rw [hv]; decide)
  rw [image, ring, slots, ended]

/-- STO and the requesters with no storage (R155). -/
def storageLost (d : Dev) : Dev :=
  takeNoSlots (takeRing [] (stoCondition .absent true { d with sto := { d.sto with storage := .absent } }))

theorem probeJudged_lost (h : d.sto.loader.stop = none) : probeJudged false d = loaderImage (storageLost d) := by
  unfold probeJudged
  rw [h]
  rfl

theorem storageLost_lost (d : Dev) : (storageLost d).sto.storage = .absent ∧ (storageLost d).sto.absentCond = true ∧
    (storageLost d).cal = d.cal ∧ (storageLost d).mod = d.mod ∧ (storageLost d).pls.ringTaken = true ∧
    SlotsTaken (storageLost d).flt.persistent (storageLost d) := by
  have held := (heldTold_stoCondition .absent true { d with sto := { d.sto with storage := .absent } }).staged
  have sto : (storageLost d).sto = (stoCondition .absent true { d with sto := { d.sto with storage := .absent } }).sto :=
    rfl
  refine ⟨?_, ?_, held.cal, held.mod, rfl, rfl, rfl⟩
  · rw [sto, held.sto]
    rfl
  · rw [sto, held.sto]
    rfl

/-- The probe that finds no storage, at the end of its job. -/
theorem probeDone_lost (h : d.sto.loader.stop = none) (hv : d.cal.valid = false) (hf : d.mod.flush = .none) :
    ∃ e, probeDone false d = e ∧ e.sto.storage = .absent ∧ e.sto.absentCond = true ∧ e.sto.job = none ∧
      e.sto.loader.state = .idle ∧ e.pls.ringTaken = true ∧ e.flt.slotsTaken = true ∧ e.mod.mode = .awaitingImage ∧
      e.mod.cause = .noImage ∧ e.cal = { d.cal with origin := .loading } := by
  obtain ⟨storage, cond, cal, mod, ring, slots⟩ := storageLost_lost d
  obtain ⟨x, hx⟩ : ∃ x : Dev, x = { loaderIdle (storageLost d) with cal := { (storageLost d).cal with origin := .loading } } :=
    ⟨_, rfl⟩
  have judged : probeJudged false d = enterAwaiting .noImage x := by
    rw [probeJudged_lost h, loaderImage_none (by rw [cal]; exact hv) storage, hx]
  have awaiting := enterAwaiting_entered .noImage x
  have done : probeDone false d = flushJudge (stoGrant (portFree (enterAwaiting .noImage x))) := by
    unfold probeDone
    rw [judged, jobEnd_eq]
  generalize enterAwaiting .noImage x = y at awaiting done
  have stoX : x.sto = { (storageLost d).sto with loader := Loader.resetValue } := by rw [hx]; rfl
  have storageY : y.sto.storage = .absent := by
    rw [awaiting.sto, stoX]
    exact storage
  have condY : y.sto.absentCond = true := by
    rw [awaiting.sto, stoX]
    exact cond
  have loaderY : y.sto.loader.state = .idle := by
    rw [awaiting.sto, stoX]
    rfl
  have slotsY : SlotsTaken (storageLost d).flt.persistent y := awaiting.slots (by rw [hx]; exact slots)
  have modX : x.mod = d.mod := by rw [hx]; exact mod
  have flushY : y.mod.flush = .none := by
    rw [awaiting.mod, modX]
    exact hf
  have last : probeDone false d = portFree y := by
    rw [done, stoGrant_absent (d := portFree y) storageY]
    exact flushJudge_none flushY
  refine ⟨_, last, storageY, condY, rfl, loaderY, awaiting.ring.trans (by rw [hx]; exact ring), slotsY.1, ?_, ?_, ?_⟩
  · show y.mod.mode = _
    rw [awaiting.mod]
    rfl
  · show y.mod.cause = _
    rw [awaiting.mod]
    rfl
  · refine awaiting.cal.trans ?_
    rw [hx, cal]

theorem probeEnded_job (status : Byte) (hj : d.sto.job = some j) (ho : j.op = .probe) :
    probeEnded status d = probeStatus j status d := by
  unfold probeEnded
  rw [hj]
  dsimp only
  rw [ho]

/-- The judgement a status byte gives of a probe in its phase, if it ends it. -/
def probeFinds (j : Job) (status : Byte) (present : Bool) : Prop :=
  match j.phase with
  | .started => if present then status.getLsbD 0 = false else status = 0xFF#8
  | .polling _ | .transfer => if present then status.getLsbD 0 = false else ¬status.getLsbD 0 = false
  | .ended ok => ok = present

theorem probeStatus_finds {status : Byte} {present : Bool} (h : probeFinds j status present) :
    probeStatus j status d = probeDone present d := by
  unfold probeFinds at h
  have ready (hr : status.getLsbD 0 = false) : status ≠ 0xFF#8 := fun hs => by
    rw [hs] at hr
    exact absurd hr (by decide)
  have polled (hp : if present then status.getLsbD 0 = false else ¬status.getLsbD 0 = false) :
      (!busy status && status != 0xFF#8) = present := by
    cases present with
    | true =>
      have hb : busy status = false := hp
      simp [hb, ready hp]
    | false =>
      have hb : busy status = true := by simpa [busy] using hp
      simp [hb]
  unfold probeStatus
  cases hp : j.phase with
  | started =>
    rw [hp] at h
    dsimp only at h ⊢
    cases present with
    | true =>
      have hr : status.getLsbD 0 = false := h
      rw [if_neg (ready hr), if_neg (by rw [busy, hr]; decide)]
    | false =>
      have hs : status = 0xFF#8 := h
      rw [if_pos hs]
  | polling t =>
    rw [hp] at h
    dsimp only at h ⊢
    rw [polled h]
  | transfer =>
    rw [hp] at h
    dsimp only at h ⊢
    rw [polled h]
  | ended ok =>
    rw [hp] at h
    dsimp only at h ⊢
    rw [h]

theorem probeStatus_busy {status : Byte} (hp : j.phase = .started) (hb : ¬status.getLsbD 0 = false)
    (hs : status ≠ 0xFF#8) : probeStatus j status d = setJob { j with phase := .polling (d.clock + 1000) } d := by
  unfold probeStatus
  rw [hp]
  dsimp only
  rw [if_neg hs, if_pos (show busy status = true by simpa [busy] using hb), statusByte_first status hp, if_neg hb,
    if_neg hs]

/-- The job a poll leaves in flight, `done` being the one the device's readiness gives and `failed` the one of a failed
attempt. -/
def polledJob (status : Byte) (clock : Nat) (j done failed : Job) : Job :=
  if status.getLsbD 0 = false then done
  else if status = 0xFF#8 ∨ 20 ≤ j.polls + 1 then failed
  else { j with polls := j.polls + 1, phase := .polling (clock + 1000) }

theorem statusByte_polledJob {t : Nat} {status : Byte} {done failed : Job} (hp : j.phase = .polling t)
    (hd : deviceReady { j with polls := j.polls + 1 } (d.advanceTo t) = setJob done (d.advanceTo t))
    (hf : attemptFailed { j with polls := j.polls + 1 } (d.advanceTo t) = setJob failed (d.advanceTo t)) :
    statusByte j status d = setJob (polledJob status (d.advanceTo t).clock j done failed) (d.advanceTo t) := by
  rw [statusByte_poll status hp, hd, hf]
  unfold polledJob
  split
  · rfl
  · split <;> rfl

/-- Settles O36: one `statusByte` or probe judgement for each phase of the job in flight. -/
theorem statusBytesAreJudged : Obligations.StatusBytesAreJudged := by
  intro s j status hj after polled ready fails
  refine ⟨fun a bs t ho hp => ?_, fun a n ho hp => ?_, fun a n t ho hp => ?_, fun t ho hp => ?_, fun ho hp hr hs => ?_,
    fun ho hstop hq hv hf => ?_⟩
  · intro now
    exact .of_statusByte hj (statusByte_polledJob (d := s.dev) (status := status) hp
      (deviceReady_write (j := { j with polls := j.polls + 1 }) ho)
      (attemptFailed_write (j := { j with polls := j.polls + 1 }) ho))
  · refine .of_statusByte hj ?_
    rw [statusByte_first status hp, deviceReady_read ho, attemptFailed_read ho]
    by_cases hr : status.getLsbD 0 = false
    · rw [if_pos hr, if_pos hr]
      rfl
    · rw [if_neg hr, if_neg hr]
      by_cases hs : status = 0xFF#8
      · rw [if_pos hs, if_pos hs]
        rfl
      · rw [if_neg hs, if_neg hs]
        rfl
  · intro now
    exact .of_statusByte hj (statusByte_polledJob (d := s.dev) (status := status) hp
      (deviceReady_read (j := { j with polls := j.polls + 1 }) ho)
      (attemptFailed_read (j := { j with polls := j.polls + 1 }) ho))
  · intro now
    exact .of_statusByte hj (statusByte_polledJob (d := s.dev) (status := status) hp
      (deviceReady_probe (j := { j with polls := j.polls + 1 }) ho)
      (attemptFailed_probe (j := { j with polls := j.polls + 1 }) ho))
  · exact .of_event (f := probeEnded status) rfl ((probeEnded_job status hj ho).trans (probeStatus_busy hp hr hs))
  · intro found
    have ends {present : Bool} {e : Dev} (hfound : found present) (he : probeDone present s.dev = e) :
        Runs (.probeComplete status) s e := by
      refine .of_event (f := probeEnded status) rfl ((probeEnded_job status hj ho).trans ((probeStatus_finds ?_).trans he))
      unfold probeFinds
      exact hfound
    refine ⟨fun h => ?_, fun h => ?_⟩
    · obtain ⟨eq, started⟩ := jobEnd_loader (d := { s.dev with sto := { s.dev.sto with storage := .present } })
        (st := .fetchingHeader) (index := 0) (op := .read 0 16) (by rw [hj]; rfl) nofun hq
      have told := told_stoGrant (.refl 0 (portFree (loaderQueued .fetchingHeader 0 (.read 0 16)
        { s.dev with sto := { s.dev.sto with storage := .present } })))
      have done : probeDone true s.dev = _ := (congrArg jobEnd (probeJudged_found hstop hv)).trans eq
      exact ⟨_, ends h done, by rw [told.sto]; rfl, by rw [told.sto]; rfl, started, told.mod, told.cal⟩
    · obtain ⟨e, he, rest⟩ := probeDone_lost hstop hv hf
      exact ⟨e, ends h he, rest⟩

/-! ## Write jobs (R51, R140, R151, R163) -/

theorem writeEnded_decided {ok : Bool} {a : Nat} {bs : List Byte} (hj : d.sto.job = some j) (ho : j.op = .write a bs)
    (hp : j.phase = .ended ok) : writeEnded ok d = writeDone j ok d := by
  unfold writeEnded
  rw [hj]
  dsimp only
  rw [ho]
  dsimp only
  rw [decidedOutcome, hp]
  rfl

/-- A condition judged at the end of a job, with no flush running. -/
theorem jobEnd_condition (k : StorageCond) (b : Bool) (hf : d.mod.flush = .none) :
    jobEnd (stoCondition k b d) = stoGrant (portFree (stoCondition k b d)) := by
  have mod : (stoGrant (portFree (stoCondition k b d))).mod = d.mod :=
    (told_stoGrant (.refl 0 (portFree (stoCondition k b d)))).mod.trans
      ((heldTold_stoCondition k b d).staged.mod.trans (by cases k <;> rfl))
  rw [jobEnd_eq]
  exact flushJudge_none (by rw [mod]; exact hf)

theorem undisturbed_stoCondition {P : Dev → Prop} (hP : Undisturbed P) (sto : ∀ e w, P e → P { e with sto := w })
    (k : StorageCond) (b : Bool) (h : P d) : P (stoCondition k b d) := by
  have cond : P (setCond k b d) := by cases k <;> exact sto _ _ h
  unfold stoCondition
  dsimp only
  split
  · exact cond
  · unfold changeHeld
    split
    · exact cond
    · have held : P (setHeld k b (setCond k b d)) := by cases k <;> exact sto _ _ cond
      exact hP.wrnSystem _ (hP.post _ _ _ (hP.fltReport _ _ _ held))

/-- PLS has an odometer job. -/
theorem undisturbed_odoJob : Undisturbed fun d => d.pls.odoJob ≠ .none where
  wrn _ h := h
  gau _ h := h
  flt _ _ h := h
  post kind subject content h := by
    obtain ⟨n, o, eq⟩ := lnkPost_cases kind subject content _
    rw [eq]
    exact h
  dirty i renewed h := Undisturbed.dirty_of (P := fun d => d.pls.odoJob ≠ .none) (fun _ _ h => h)
    (fun _ _ h => stoGrant_odoJob h) i renewed h

theorem stoGrant_writeOwed (h : d.pls.writeOwed = false) : (stoGrant d).pls.writeOwed = false := by
  rcases stoGrant_cases d with hd | ⟨r, -, -, hd⟩ <;> rw [hd]
  · exact h
  · obtain ⟨x, y, z, hc⟩ := countGrant_fields r d
    rw [hc]
    cases r with
    | odometer => exact h
    | faultWriter | loader | hostRead | imageStore =>
      simp only [grantTo]
      split <;> exact h

/-- PLS owes no further write of its ring. -/
theorem undisturbed_writeOwed : Undisturbed fun d => d.pls.writeOwed = false where
  wrn _ h := h
  gau _ h := h
  flt _ _ h := h
  post kind subject content h := by
    obtain ⟨n, o, eq⟩ := lnkPost_cases kind subject content _
    rw [eq]
    exact h
  dirty i renewed h := Undisturbed.dirty_of (P := fun d => d.pls.writeOwed = false) (fun _ _ h => h)
    (fun _ _ h => stoGrant_writeOwed h) i renewed h

theorem nextSequence_lt {n : Nat} (h : n < 4294967295) : nextSequence n = n + 1 :=
  if_pos h

/-- The ring's write at its end (R51, R151). -/
theorem odometerJob_ends (ok : Bool) (hf : d.mod.flush = .none) :
    ∃ e, jobEnd (stoCondition .writeFailed (!ok) (odometerDone ok d)) = e ∧
      e.sto.writeFailedCond = !ok ∧ e.pls.distance = d.pls.distance ∧ e.pls.frac = d.pls.frac ∧
      e.pls.writeOwed = false ∧
      e.pls.lastSlot = (odometerDone ok d).pls.lastSlot ∧ e.pls.lastSeq = (odometerDone ok d).pls.lastSeq ∧
      ((odometerDone ok d).pls.odoJob = .none → e.pls.odoJob = .none) ∧
      ((odometerDone ok d).pls.odoJob ≠ .none → e.pls.odoJob ≠ .none) := by
  obtain ⟨a, ha⟩ : ∃ a, a = odometerDone ok d := ⟨_, rfl⟩
  have held : HeldTold (setCond .writeFailed (!ok) a) (stoCondition .writeFailed (!ok) a) := heldTold_stoCondition _ _ a
  have toldX : Told 1 { setCond .writeFailed (!ok) a with sto := { (setCond .writeFailed (!ok) a).sto with
      absentHeld := (stoCondition .writeFailed (!ok) a).sto.absentHeld
      writeFailedHeld := (stoCondition .writeFailed (!ok) a).sto.writeFailedHeld
      unstoredHeld := (stoCondition .writeFailed (!ok) a).sto.unstoredHeld } }
    (stoCondition .writeFailed (!ok) a) := held
  have keeps {P : Dev → Prop} (hP : Undisturbed P) (sto : ∀ e w, P e → P { e with sto := w }) (h : P a) :
      P (portFree (stoCondition .writeFailed (!ok) a)) := sto _ _ (undisturbed_stoCondition hP sto _ _ h)
  have idle : a.pls.odoJob = .none → (portFree (stoCondition .writeFailed (!ok) a)).pls.odoJob = .none :=
    keeps undisturbed_odoIdle fun _ _ h => h
  have busyJob : a.pls.odoJob ≠ .none → (portFree (stoCondition .writeFailed (!ok) a)).pls.odoJob ≠ .none :=
    keeps undisturbed_odoJob fun _ _ h => h
  have owed : (portFree (stoCondition .writeFailed (!ok) a)).pls.writeOwed = false :=
    keeps undisturbed_writeOwed (fun _ _ h => h) (by rw [ha]; rfl)
  have ended : jobEnd (stoCondition .writeFailed (!ok) a) = stoGrant (portFree (stoCondition .writeFailed (!ok) a)) :=
    jobEnd_condition _ _ (by rw [ha]; exact hf)
  rw [← ha, ended]
  generalize stoCondition .writeFailed (!ok) a = x at *
  have last := told_stoGrant (.refl 0 (portFree x))
  have pls : (stoGrant (portFree x)).pls.distance = a.pls.distance ∧ (stoGrant (portFree x)).pls.frac = a.pls.frac ∧
      (stoGrant (portFree x)).pls.lastSlot = a.pls.lastSlot ∧ (stoGrant (portFree x)).pls.lastSeq = a.pls.lastSeq := by
    rw [last.pls]
    show x.pls.distance = _ ∧ x.pls.frac = _ ∧ x.pls.lastSlot = _ ∧ x.pls.lastSeq = _
    rw [toldX.pls]
    exact ⟨rfl, rfl, rfl, rfl⟩
  have before : a.pls.distance = d.pls.distance ∧ a.pls.frac = d.pls.frac := by
    rw [ha]
    cases ok <;> exact ⟨rfl, rfl⟩
  refine ⟨_, rfl, ?_, pls.1.trans before.1, pls.2.1.trans before.2, stoGrant_writeOwed owed, pls.2.2.1, pls.2.2.2,
    fun h => stoGrant_odoIdle (idle h), fun h => stoGrant_odoJob (busyJob h)⟩
  rw [last.sto]
  show x.sto.writeFailedCond = !ok
  rw [toldX.sto]
  rfl

/-! ### The image store -/

/-- The end of a job whose requester leaves STO in `a`: the image store's page and what no condition changes. -/
theorem jobEnd_kept (k : StorageCond) (b : Bool) (hf : d.mod.flush = .none) : ∃ e, jobEnd (stoCondition k b d) = e ∧
    e.sto.storePage = d.sto.storePage ∧ (k ≠ .unstored → e.sto.unstoredCond = d.sto.unstoredCond) ∧ e.cal = d.cal := by
  refine ⟨_, jobEnd_condition k b hf, ?_⟩
  have staged := (heldTold_stoCondition k b d).staged
  have last := told_stoGrant (.refl 0 (portFree (stoCondition k b d)))
  have cal : (stoGrant (portFree (stoCondition k b d))).cal = d.cal :=
    last.cal.trans (staged.cal.trans (by cases k <;> rfl))
  rw [last.sto]
  show (stoCondition k b d).sto.storePage = _ ∧ (k ≠ .unstored → (stoCondition k b d).sto.unstoredCond = _) ∧ _
  rw [staged.sto]
  refine ⟨by cases k <;> rfl, fun hk => ?_, cal⟩
  cases k with
  | absent | writeFailed => rfl
  | unstored => exact absurd rfl hk

theorem pageDone_stored {p : Nat} (ok : Bool) (h : d.sto.storePage = some p) (hq : d.sto.storeQueued = false) :
    pageDone ok p d = if !ok then { d with sto := { d.sto with storeQueued := true } }
      else if p < 39 then { d with sto := { d.sto with storePage := some (p + 1), storeQueued := true } }
      else stoCondition .unstored false { d with sto := { d.sto with storePage := none } } :=
  if_neg (by simp [h, hq])

/-! ### Fault writes -/

theorem confirmFrame_slot (w : FaultWrite) (d : Dev) :
    ((confirmFrame w d).slot w.slot).dirty = (d.slot w.slot).dirty ∧
    (∀ i, i ≠ w.slot → (confirmFrame w d).slot i = d.slot i) ∧ (confirmFrame w d).sto = d.sto ∧
    (confirmFrame w d).cal = d.cal ∧ (confirmFrame w d).mod = d.mod := by
  unfold confirmFrame
  split
  · rename_i p _ old r _ _ _
    split
    · have slot (i : Fin 40) : (freeFrame (.inPool p)
          (d.setSlot w.slot { d.slot w.slot with record := some { r with frame := .stored } })).slot i =
          if w.slot = i then { d.slot w.slot with record := some { r with frame := .stored } } else d.slot i :=
        setSlot_slot d w.slot i _
      refine ⟨?_, fun i hi => ?_, rfl, rfl, rfl⟩
      · rw [slot, if_pos rfl]
      · rw [slot, if_neg hi.symm]
    · exact ⟨rfl, fun _ _ => rfl, rfl, rfl, rfl⟩
  · exact ⟨rfl, fun _ _ => rfl, rfl, rfl, rfl⟩

/-- A condition cleared that holds no fault is all that changes. -/
theorem stoCondition_unheld {k : StorageCond} (h : heldOf d.sto k = false) : stoCondition k false d = setCond k false d := by
  have held : heldOf (setCond k false d).sto k = false := by cases k <;> exact h
  unfold stoCondition changeHeld
  dsimp only
  rw [if_pos held, ite_self]

theorem faultJobDone_recorded {w : FaultWrite} (hw : d.flt.write = some w) (hr : w.recordStage = true)
    (hm : w.mark = .clear) (hh : d.sto.writeFailedHeld = false) (hf : d.mod.flush = .none) :
    ∃ e, faultJobDone true d = e ∧ (e.slot w.slot).dirty = false ∧ (∀ i, i ≠ w.slot → e.slot i = d.slot i) ∧
      e.cal = d.cal ∧ e.mod = d.mod := by
  obtain ⟨a, ha⟩ : ∃ a : Dev, a = { d with flt := { d.flt with write := none } }.setSlot w.slot
      { d.slot w.slot with dirty := false } := ⟨_, rfl⟩
  have slotA (i : Fin 40) : a.slot i = if w.slot = i then { d.slot w.slot with dirty := false } else d.slot i := by
    rw [ha]
    exact setSlot_slot _ w.slot i _
  have done : faultWriteDone true w d = confirmFrame w a := by
    unfold faultWriteDone
    rw [hm, ha]
    rfl
  obtain ⟨dirty, others, sto, cal, mod⟩ := confirmFrame_slot w a
  have calA : a.cal = d.cal := by rw [ha]; rfl
  have modA : a.mod = d.mod := by rw [ha]; rfl
  have stoA : a.sto = d.sto := by rw [ha]; rfl
  have ended : faultJobDone true d = stoGrant (portFree (setCond .writeFailed false (confirmFrame w a))) := by
    have body : faultJobDone true d = jobEnd (stoCondition .writeFailed false (faultWriteDone true w d)) := by
      unfold faultJobDone
      rw [hw]
      dsimp only
      rw [if_neg (by rw [hr]; decide)]
      rfl
    rw [body, done, jobEnd_condition _ _ (by rw [mod, modA]; exact hf), stoCondition_unheld]
    rw [sto, stoA]
    exact hh
  have last := told_stoGrant (.refl 0 (portFree (setCond .writeFailed false (confirmFrame w a))))
  have slot (i : Fin 40) : (stoGrant (portFree (setCond .writeFailed false (confirmFrame w a)))).slot i =
      (confirmFrame w a).slot i := by
    unfold Dev.slot
    rw [stoGrant_flt]
    rfl
  refine ⟨_, ended, ?_, fun i hi => ?_, ?_, ?_⟩
  · rw [slot, dirty, slotA, if_pos rfl]
  · rw [slot, others i hi, slotA, if_neg hi.symm]
  · exact last.cal.trans (cal.trans calA)
  · exact last.mod.trans (mod.trans modA)

/-- Settles O38: each requester's write at its end, then the condition and the next grant. -/
theorem writeJobIsTaken : Obligations.WriteJobIsTaken := by
  intro s j address bytes hj ho hf
  have ends {ok : Bool} {e : Dev} (hp : j.phase = .ended ok) (h : writeDone j ok s.dev = e) :
      Runs (.writeJobComplete ok) s e :=
    .of_event (f := writeEnded ok) rfl ((writeEnded_decided hj ho hp).trans h)
  refine ⟨fun ok hp hq => ?_, fun ok hp hq hpage hqueued => ?_, fun w hp hq hw hr hm hh => ?_⟩
  · obtain ⟨e, he, cond, distance, frac, owed, slot, sequence, idle, job⟩ := odometerJob_ends (d := s.dev) ok hf
    have done : writeDone j ok s.dev = e := by
      unfold writeDone
      rw [hq]
      exact he
    refine ⟨e, ends hp done, cond, distance, frac, owed, fun hok => ?_, fun hok => ?_⟩
    · subst hok
      refine ⟨slot, fun hl => sequence.trans (nextSequence_lt hl), fun hw => idle ?_⟩
      show (if !true || s.dev.pls.writeOwed then OdometerJob.queued else .none) = .none
      rw [hw]
      rfl
    · subst hok
      exact ⟨slot, sequence, job nofun⟩
  · have done {e : Dev} (h : jobEnd (stoCondition .writeFailed (!ok) (pageDone ok j.page s.dev)) = e) :
        writeDone j ok s.dev = e := by
      unfold writeDone
      rw [hq]
      exact h
    have page := pageDone_stored ok hpage hqueued
    cases ok with
    | false =>
      have queued : pageDone false j.page s.dev = { s.dev with sto := { s.dev.sto with storeQueued := true } } := page
      obtain ⟨e, he, kept, -, cal⟩ := jobEnd_kept (d := pageDone false j.page s.dev) .writeFailed true
        (by rw [queued]; exact hf)
      rw [queued] at kept cal
      exact ⟨e, ends hp (done he), fun _ => kept.trans hpage, nofun, nofun, cal⟩
    | true =>
      by_cases hl : j.page < 39
      · have next : pageDone true j.page s.dev = { s.dev with sto := { s.dev.sto with
            storePage := some (j.page + 1), storeQueued := true } } := page.trans (if_pos hl)
        obtain ⟨e, he, kept, -, cal⟩ := jobEnd_kept (d := pageDone true j.page s.dev) .writeFailed false
          (by rw [next]; exact hf)
        rw [next] at kept cal
        exact ⟨e, ends hp (done he), nofun, fun _ _ => kept, fun _ h39 => absurd hl (by omega), cal⟩
      · have last : pageDone true j.page s.dev = stoCondition .unstored false
            { s.dev with sto := { s.dev.sto with storePage := none } } := page.trans (if_neg hl)
        have staged := (heldTold_stoCondition .unstored false
          { s.dev with sto := { s.dev.sto with storePage := none } }).staged
        rw [← last] at staged
        obtain ⟨e, he, kept, cond, cal⟩ := jobEnd_kept (d := pageDone true j.page s.dev) .writeFailed false
          (by rw [staged.mod]; exact hf)
        refine ⟨e, ends hp (done he), nofun, fun _ h => absurd h hl, fun _ _ => ⟨?_, ?_⟩, cal.trans staged.cal⟩
        · rw [kept, staged.sto]
          rfl
        · rw [cond nofun, staged.sto]
          rfl
  · obtain ⟨e, he, rest⟩ := faultJobDone_recorded hw hr hm hh hf
    have done : writeDone j true s.dev = e := by
      unfold writeDone
      rw [hq]
      exact he
    exact ⟨e, ends hp done, rest⟩

end Sys2Proof.Machine
end

section
/-! SUPPORT. Calibration RAM and its requests, and the entries to the running modes; with them the statements
`Obligations.CalWriteAndReadRam` (O58) and `Obligations.CalBeginCommitAbort` (O59). -/

namespace Sys2Proof.Machine
variable {d e : Dev}

/-! ## Calibration RAM written and read (R158, R161) -/

/-- Bytes written inside the image are read back at their offsets, and every other byte as before. -/
theorem read_writeAll {m : List Host.Cell} (a c : Nat) (bs : List Byte) (h : Memory.wf m = true)
    (ha : a + bs.length ≤ imageSize) : Memory.read (Memory.writeAll m a bs) c =
      if a ≤ c ∧ c < a + bs.length then bs.getD (c - a) 0#8 else Memory.read m c := by
  induction bs generalizing m a with
  | nil => rw [if_neg (by simp)]; rfl
  | cons b bs ih =>
    rw [List.length_cons] at ha ⊢
    show Memory.read (Memory.writeAll (Memory.write m a b) (a + 1) bs) c = _
    rw [ih (a + 1) (wf_write a b h (by omega)) (by omega), read_write a c b h]
    rcases lt_trichotomy c a with hlt | rfl | hgt
    · rw [if_neg (by omega), if_neg (by omega), if_neg (by omega)]
    · rw [if_neg (by omega), if_pos rfl, if_pos (by omega), Nat.sub_self]
      rfl
    · rw [if_neg (show c ≠ a by omega)]
      by_cases hin : c < a + 1 + bs.length
      · rw [if_pos (by omega), if_pos (by omega), show c - a = c - (a + 1) + 1 by omega]
        rfl
      · rw [if_neg (by omega), if_neg (by omega)]

/-- Calibration RAM after a write inside the image. -/
theorem read_writeRam {a : Nat} {bs : List Byte} (h : Memory.wf d.cal.ram = true) (ha : a + bs.length ≤ imageSize)
    (c : Nat) : Memory.read (d.writeRam a bs).cal.ram c =
      if a ≤ c ∧ c < a + bs.length then bs.getD (c - a) 0#8 else Memory.read d.cal.ram c := by
  show Memory.read (Memory.writeAll d.cal.ram a (bs.take (imageSize - a))) c = _
  rw [List.take_of_length_le (by omega)]
  exact read_writeAll a c bs h ha

/-! ## CAL_WRITE and CAL_READ (R161) -/

theorem loaderBusy_iff : loaderBusy d = true ↔ d.sto.loader.state ≠ .idle := bne_iff_ne

theorem inAwaiting_elsewhere (tag : Byte) (effect : Dev → Dev) (h : d.mod.mode ≠ .awaitingImage) :
    inAwaiting tag effect d = refuse tag .refusedMode d := if_pos (bne_iff_ne.mpr h)

theorem inAwaiting_busy (tag : Byte) (effect : Dev → Dev) (h : d.mod.mode = .awaitingImage)
    (hb : d.sto.loader.state ≠ .idle) : inAwaiting tag effect d = refuse tag .refusedCondition d :=
  (if_neg (by rw [h]; simp)).trans (if_pos (loaderBusy_iff.mpr hb))

theorem inAwaiting_idle (tag : Byte) (effect : Dev → Dev) (h : d.mod.mode = .awaitingImage)
    (hb : d.sto.loader.state = .idle) : inAwaiting tag effect d = effect d :=
  (if_neg (by rw [h]; simp)).trans (if_neg (by rw [loaderBusy_iff]; simp [hb]))

theorem field16_pair (a b : Byte) (rest : List Byte) : field16 (a :: b :: rest) 0 = a.toNat * 256 + b.toNat := rfl

theorem ownCalWrite_idle {tag a b : Byte} {data : List Byte} (h : d.mod.mode = .awaitingImage)
    (hb : d.sto.loader.state = .idle) : ownCalWrite tag (a :: b :: data) d =
      if imageSize < a.toNat * 256 + b.toNat + data.length then refuse tag .badArgument d
      else lnkAnswer tag (okReply []) (d.writeRam (a.toNat * 256 + b.toNat) data) := by
  rw [ownCalWrite, inAwaiting_idle _ _ h hb, field16_pair]
  rfl

theorem ownCalRead_eq {tag a b n : Byte} : ownCalRead tag [a, b, n] d =
    if n.toNat = 0 || 192 < n.toNat || imageSize < a.toNat * 256 + b.toNat + n.toNat then refuse tag .badArgument d
    else lnkAnswer tag (okReply (flagByte d.cal.valid :: Memory.readAll d.cal.ram (a.toNat * 256 + b.toNat) n.toNat)) d :=
  rfl

/-- Settles O58. -/
theorem calWriteAndReadRam : Obligations.CalWriteAndReadRam := by
  intro s tag a b wf offset m
  constructor
  case left =>
    intro data f cmd answers h
    refine ⟨fun hm => ?_, fun hm hb => ?_, fun hm hb hl => ?_, fun hm hb hl => ?_⟩
    · exact .of_refusal rfl h (inAwaiting_elsewhere (d := taken f s.dev) _ _ hm)
    · exact .of_refusal rfl h (inAwaiting_busy (d := taken f s.dev) _ _ hm hb)
    · exact .of_refusal rfl h ((ownCalWrite_idle (d := taken f s.dev) hm hb).trans (if_pos hl))
    · exact ⟨_, .of_effect (e := (taken f s.dev).writeRam offset data) rfl h
        ((ownCalWrite_idle (d := taken f s.dev) hm hb).trans (if_neg (Nat.not_lt.mpr hl))) rfl, rfl,
        wf_writeRam (taken f s.dev) offset data wf, read_writeRam (d := taken f s.dev) wf hl⟩
  case right =>
    intro n f h
    refine ⟨fun hn => ?_, fun h0 h1 h2 => ?_⟩
    · refine .of_refusal rfl h (ownCalRead_eq.trans (if_pos ?_))
      rcases hn with rfl | hn | hn
      · rfl
      · simp [hn]
      · simp [show imageSize < a.toNat * 256 + b.toNat + n.toNat from hn]
    · refine .of_answer (p := okReply _) rfl h (ownCalRead_eq.trans (if_neg ?_)) ?_
      · have pos : n.toNat ≠ 0 := fun e => h0 (BitVec.eq_of_toNat_eq e)
        simp [pos, h1, show a.toNat * 256 + b.toNat + n.toNat ≤ imageSize from h2]
      · show 0#8 :: flagByte s.dev.cal.valid :: Memory.readAll s.dev.cal.ram offset n.toNat = _
        rw [readAll_eq _ _ wf]
        rfl

/-! ## The running modes entered from the image (R173, R174) -/

/-- What the blocks do at an entry to SWEEP, or at one to RUN that begins afresh. -/
def blocksStarted (sweep : Bool) (d : Dev) : Dev :=
  seqStart (lnkStartTimer (wrnStart (dorStart (!sweep) (fltReadSettings (gauInit sweep (plsInit (!sweep) (sigInit d)))))))

theorem staged_sigInit (d : Dev) : Staged d (sigInit d) := by
  obtain ⟨a, ha⟩ : ∃ a, a = forEach 44 (fun i d => d.setChan i (initRecord d i)) d := ⟨_, rfl⟩
  have records : Staged d a := ha ▸ staged_forEach (fun _ e => staged_setChan _ _ e) d
  have eq : sigInit d = forEach 44 (fun i => qualityIf i (d.chan i).quality)
      { a with sig := { a.sig with refSsup := none, supplyFault := false } } := by
    rw [ha]
    rfl
  rw [eq]
  exact (records.trans (staged_sig _ a)).trans
    (told_forEach (fun i e => told_qualityIf i _) (Told.refl 0 _)).staged

theorem staged_plsInit (download : Bool) (d : Dev) : Staged d (plsInit download d) := by
  obtain ⟨w, eq⟩ := plsClear_eq (d.timerIn (ms 10)) d
  have cleared : Staged d (plsClear (d.timerIn (ms 10)) d) := by
    rw [eq]
    exact (staged_pls (d := d) { d.pls with
      road := pulseInit (d.timerIn (ms 10)), engine := pulseInit (d.timerIn (ms 10)), standstill := true } rfl).trans
      (staged_sig w _)
  unfold plsInit
  dsimp only
  split
  · exact cleared.trans (staged_pls _ rfl)
  · exact cleared

theorem blocksStarted_runs (sweep : Bool) (d : Dev) :
    DorStaged d (blocksStarted sweep d) ∧ (blocksStarted sweep d).dor.running = true := by
  obtain ⟨a, ha⟩ : ∃ a, a = fltReadSettings (gauInit sweep (plsInit (!sweep) (sigInit d))) := ⟨_, rfl⟩
  have senses : Staged d a := by
    rw [ha]
    exact ((staged_sigInit d).trans (staged_plsInit _ _)).trans
      (told_fltReadSettings (told_gauInit (n := 0) sweep (.refl 2 _))).staged
  obtain ⟨doors, running⟩ := dorStart_runs (!sweep) a
  obtain ⟨b, hb⟩ : ∃ b, b = dorStart (!sweep) a := ⟨_, rfl⟩
  rw [← hb] at doors running
  have rest : Staged b (seqStart (lnkStartTimer (wrnStart b))) :=
    ((told_wrnStart (.refl 1 b)).staged.trans (staged_timer _ _)).trans (staged_seqStart _)
  have eq : blocksStarted sweep d = seqStart (lnkStartTimer (wrnStart b)) := by
    rw [hb, ha]
    rfl
  rw [eq]
  refine ⟨(senses.dorStaged.trans ?_).trans rest.dorStaged, by rw [rest.dor]; exact running⟩
  exact (show Told 1 { a with dor := b.dor } b from doors).staged

/-- The mode that the recorded origin of AWAITING_IMAGE leads to (R173). -/
def Origin.leadsTo : Origin → Mode
  | .loading => .sweep
  | .service => .run

/-- What the entry by origin leaves. -/
structure OriginEntered (cause : ModeCause) (d e : Dev) : Prop where
  mode : e.mod.mode = d.cal.origin.leadsTo
  cause : e.mod.cause = cause
  running : e.dor.running = true
  cal : e.cal = d.cal
  unstored : e.sto.unstoredCond = d.sto.unstoredCond
  page : e.sto.storePage = d.sto.storePage
  replies : e.lnk.replies = d.lnk.replies

theorem originEntered_of {cause : ModeCause} {mode : Mode} {sweep : Bool} {a : Dev} {m : ModState}
    (hm : m.mode = mode ∧ m.cause = cause) (h : Told 0 { d with mod := m } a)
    (hl : d.cal.origin.leadsTo = mode) : OriginEntered cause d (blocksStarted sweep a) := by
  obtain ⟨started, running⟩ := blocksStarted_runs sweep a
  have staged : Staged { a with dor := (blocksStarted sweep a).dor } (blocksStarted sweep a) := started
  have mod : (blocksStarted sweep a).mod = m := staged.mod.trans h.mod
  refine ⟨by rw [mod, hm.1, hl], by rw [mod, hm.2], running, staged.cal.trans h.cal, ?_, ?_, ?_⟩
  · rw [staged.sto, h.sto]
  · rw [staged.sto, h.sto]
  · exact staged.replies.trans (by rw [h.lnk])

theorem told_bulb (b : BulbTimer) {m : ModState} (h : Told 0 { d with mod := m } e) :
    Told 0 { d with mod := { m with bulb := b } } { e with mod := { e.mod with bulb := b } } := by
  have eq : e.mod = m := h.mod
  exact { h with mod := by rw [eq] }

theorem enterByOrigin_entered (cause : ModeCause) (d : Dev) : OriginEntered cause d (enterByOrigin cause d) := by
  unfold enterByOrigin
  split
  next ho =>
    refine originEntered_of (sweep := true) (mode := .sweep) ?_ (told_bulb _ (told_modSet .sweep cause d)) (by rw [ho]; rfl)
    exact ⟨rfl, rfl⟩
  next ho =>
    refine originEntered_of (sweep := false) (mode := .run) ?_ (told_modSet .run cause d) (by rw [ho]; rfl)
    exact ⟨rfl, rfl⟩

/-! ## Validation (R157) -/

section
variable (h : e.cal.ram = d.cal.ram)
include h

theorem ram8_of_ram : e.ram8 = d.ram8 := by
  unfold Dev.ram8
  rw [h]

theorem ram16_of_ram : e.ram16 = d.ram16 := by
  unfold Dev.ram16
  rw [ram8_of_ram h]

theorem ramPoints_of_ram (x y : Bool) (a n : Nat) : e.ramPoints x y a n = d.ramPoints x y a n := by
  induction n generalizing a with
  | zero => rfl
  | succ n ih => simp only [Dev.ramPoints, Dev.ramInt16, ram16_of_ram h, ih]

theorem isSwitchChannel_of_ram : e.isSwitchChannel = d.isSwitchChannel := by
  unfold Dev.isSwitchChannel
  rw [ram8_of_ram h]

theorem switchOrAbsent_of_ram : e.switchOrAbsent = d.switchOrAbsent := by
  unfold Dev.switchOrAbsent
  rw [ram8_of_ram h, isSwitchChannel_of_ram h]

theorem pinCfg_of_ram : e.pinCfg = d.pinCfg := by
  funext c
  simp only [Dev.pinCfg, Dev.ramInt16, Dev.ramFlag, ram8_of_ram h, ram16_of_ram h, ramPoints_of_ram h]

theorem gaugeCfg_of_ram : e.gaugeCfg = d.gaugeCfg := by
  funext g
  simp only [Dev.gaugeCfg, Dev.ramFlag, ram8_of_ram h, ram16_of_ram h, ramPoints_of_ram h]

theorem headerOk_of_ram : e.headerOk = d.headerOk := by
  simp only [Dev.headerOk, Dev.bodyCrcOk, Dev.header, h]

theorem entryOk_of_ram : e.entryOk = d.entryOk := by
  have system : e.systemOk = d.systemOk := by
    simp only [Dev.systemOk, ram8_of_ram h, ram16_of_ram h, switchOrAbsent_of_ram h]
  have pin (c : Nat) : e.pinOk c = d.pinOk c := by
    simp only [Dev.pinOk, ram8_of_ram h, ram16_of_ram h, pinCfg_of_ram h]
  have pulse (i : PulseInput) : e.pulseOk i = d.pulseOk i := by
    simp only [Dev.pulseOk, ram8_of_ram h, ram16_of_ram h]
  have gauge (g : Fin 6) : e.gaugeOk g = d.gaugeOk g := by
    simp only [Dev.gaugeOk, ram8_of_ram h, ram16_of_ram h, gaugeCfg_of_ram h]
  have warning (w : Nat) : e.warningOk w = d.warningOk w := by
    simp only [Dev.warningOk, Dev.ramFlag, ram8_of_ram h, ram16_of_ram h]
  have door (i : Nat) : e.doorOk i = d.doorOk i := by
    have count : e.doorCount = d.doorCount := congrFun (ram8_of_ram h) 16
    unfold Dev.doorOk
    rw [count, ram8_of_ram h, isSwitchChannel_of_ram h, switchOrAbsent_of_ram h]
  have group (i : Nat) : e.groupOk i = d.groupOk i := by
    simp only [Dev.groupOk, ram8_of_ram h]
  unfold Dev.entryOk
  simp only [headerOk_of_ram h, system, pin, pulse, gauge, warning, door, group]

/-- Validation judges the bytes of calibration RAM alone (R157). -/
theorem validate_of_ram : e.validate = d.validate := by
  unfold Dev.validate
  rw [entryOk_of_ram h]

end

/-! ## CAL_BEGIN, CAL_COMMIT and CAL_ABORT (R160, R162, R165) -/

theorem validateRam_failure {sec entry : Nat} (h : d.validate = .failure sec entry) : validateRam d =
    { d with cal := { d.cal with validation := .failure sec entry, valid := false } } := by
  unfold validateRam
  rw [h]

theorem validateRam_pass (h : d.validate = .pass) : validateRam d =
    { d with cal := { d.cal with validation := .pass, valid := true, calId := some d.headerId } } := by
  unfold validateRam
  rw [h]

theorem storeBusy_iff : storeBusy d = true ↔
    d.sto.storePage.isSome = true ∨ ∃ j, d.sto.job = some j ∧ j.requester = .imageStore := by
  unfold storeBusy
  cases d.sto.job with
  | none => simp
  | some j => simp

theorem ownCalBegin_service {tag : Byte} (h : d.mod.mode = .service) : ownCalBegin tag d =
    if storeBusy d || loaderBusy d then refuse tag .refusedCondition d
    else enterAwaiting .calBegin
      (lnkAnswer tag (okReply []) { d with cal := { d.cal with valid := false, origin := .service } }) := by
  unfold ownCalBegin
  simp only [h]
  rfl

theorem ownCalCommit_failure {tag : Byte} {sec entry : Nat} (h : d.mod.mode = .awaitingImage)
    (hb : d.sto.loader.state = .idle) (hv : d.validate = .failure sec entry) : ownCalCommit tag d =
      lnkAnswer tag (rejectedReply sec entry)
        { d with cal := { d.cal with validation := .failure sec entry, valid := false } } := by
  rw [ownCalCommit, inAwaiting_idle _ _ h hb, validateRam_failure hv]
  rfl

theorem ownCalCommit_pass {tag : Byte} (h : d.mod.mode = .awaitingImage) (hb : d.sto.loader.state = .idle)
    (hv : d.validate = .pass) : ownCalCommit tag d = commitImage tag
      { d with cal := { d.cal with validation := .pass, valid := true, calId := some d.headerId } } := by
  rw [ownCalCommit, inAwaiting_idle _ _ h hb, validateRam_pass hv]
  rfl

/-- A committed image that waits to be stored where storage is PRESENT. -/
def storeAsked (d : Dev) : Dev :=
  if d.sto.storage == .present then stoGrant { d with sto := { d.sto with storePage := some 0, storeQueued := true } }
  else d

theorem commitImage_eq (tag : Byte) (d : Dev) : commitImage tag d =
    enterByOrigin .calCommit (lnkAnswer tag (okReply []) (storeAsked (stoCondition .unstored true d))) := rfl

/-- A commit's effects on STO before its reply. -/
theorem storeAsked_kept (d : Dev) : ∃ e, storeAsked (stoCondition .unstored true d) = e ∧ e.cal = d.cal ∧
    e.lnk.requests = d.lnk.requests ∧ e.lnk.replies = d.lnk.replies ∧ e.sto.unstoredCond = true ∧
    (d.sto.storage = .present → e.sto.storePage = some 0) := by
  obtain ⟨a, ha⟩ : ∃ a, a = stoCondition .unstored true d := ⟨_, rfl⟩
  have told : HeldTold (setCond .unstored true d) a := ha ▸ heldTold_stoCondition _ _ d
  have staged := told.staged
  have storage : a.sto.storage = d.sto.storage := by rw [staged.sto]; rfl
  have unstored : a.sto.unstoredCond = true := by rw [staged.sto]; rfl
  rw [← ha]
  unfold storeAsked
  by_cases hp : d.sto.storage = .present
  · rw [if_pos (by rw [storage, hp]; rfl)]
    have granted := (told_stoGrant (.refl 0
      { a with sto := { a.sto with storePage := some 0, storeQueued := true } })).staged
    exact ⟨_, rfl, granted.cal.trans staged.cal, granted.requests.trans staged.requests,
      granted.replies.trans staged.replies, by rw [granted.sto]; exact unstored, fun _ => by rw [granted.sto]⟩
  · rw [if_neg (by rw [storage]; simpa using hp)]
    exact ⟨a, rfl, staged.cal, staged.requests, staged.replies, unstored, fun h => absurd h hp⟩

theorem ownCalAbort_present {tag : Byte} (h : d.mod.mode = .awaitingImage) (hb : d.sto.loader.state = .idle)
    (hs : d.sto.storage = .present) : ownCalAbort tag d = abortVerify tag (lnkDefer tag d) := by
  rw [ownCalAbort, inAwaiting_idle _ _ h hb]
  exact if_pos (by rw [hs]; rfl)

/-- The part while a CAL_ABORT without PRESENT storage judges RAM. -/
def aborting (tag : Byte) (d : Dev) : Dev :=
  { d with sto := { d.sto with loader := { d.sto.loader with abortTag := some tag } } }

theorem ownCalAbort_lost {tag : Byte} (h : d.mod.mode = .awaitingImage) (hb : d.sto.loader.state = .idle)
    (hs : d.sto.storage ≠ .present) : ownCalAbort tag d = abortEnd false (validateRam (aborting tag d)) := by
  rw [ownCalAbort, inAwaiting_idle _ _ h hb]
  exact if_neg (by simpa using hs)

theorem abortReply_tag {tag : Byte} (p : List Byte) (h : d.sto.loader.abortTag = some tag) :
    abortReply p d = loaderIdle (lnkAnswer tag p d) := by
  unfold abortReply
  rw [h]

theorem abortEnd_failure {tag : Byte} {sec entry : Nat} (hv : d.cal.valid = false)
    (hf : d.cal.validation = .failure sec entry) (ht : d.sto.loader.abortTag = some tag) :
    abortEnd false d = loaderIdle (lnkAnswer tag (rejectedReply sec entry) d) := by
  unfold abortEnd
  rw [if_neg (by simp [hv])]
  dsimp only
  rw [hf, abortReply_tag _ ht]
  rfl

theorem abortEnd_pass {tag : Byte} (hv : d.cal.valid = true) (ht : d.sto.loader.abortTag = some tag) :
    abortEnd false d = enterByOrigin .calAbort (loaderIdle (lnkAnswer tag (okReply []) d)) := by
  unfold abortEnd
  rw [if_pos hv, abortReply_tag _ ht]
  rfl

/-- The loader as it begins the verify of CAL_ABORT. -/
def verifying (tag : Byte) (d : Dev) : Dev := loaderQueued .verifying 0 (.read 0 16) { d with sto := { d.sto with
  loader := { d.sto.loader with abortTag := some tag, crc := 0xFFFF#16, header := [] } } }

theorem abortVerify_eq (tag : Byte) (d : Dev) : abortVerify tag d = stoGrant (verifying tag d) := rfl

/-- Settles O59: the requests' own effects first, and then the mode that they enter. -/
theorem calBeginCommitAbort : Obligations.CalBeginCommitAbort := by
  intro s tag f storing busy valid reached
  have hreached : reached = s.dev.cal.origin.leadsTo := by
    show (match s.dev.cal.origin with | .loading => Mode.sweep | .service => Mode.run) = _
    cases s.dev.cal.origin <;> rfl
  refine ⟨fun h hm => ⟨fun hb => ?refused, fun hb => ?begun⟩, fun hm hb => ?_⟩
  case refused =>
    refine .of_refusal rfl h ((ownCalBegin_service (d := taken _ s.dev) hm).trans (if_pos ?_))
    rw [Bool.or_eq_true, storeBusy_iff, loaderBusy_iff]
    exact hb
  case begun =>
    obtain ⟨a, ha⟩ : ∃ a : Dev, a = { taken (f 0x13#8) s.dev with
      cal := { s.dev.cal with valid := false, origin := .service } } := ⟨_, rfl⟩
    have answer : lnkAnswer tag (okReply []) a = replied (f 0x13#8) (okReply []) a :=
      answer_after (f := f 0x13#8) h (by rw [ha]) _
    obtain ⟨b, hb'⟩ : ∃ b, b = replied (f 0x13#8) (okReply []) a := ⟨_, rfl⟩
    have entered := enterAwaiting_entered .calBegin b
    refine ⟨_, .of_served rfl h ((ownCalBegin_service (d := taken _ s.dev) hm).trans (if_neg ?_)), ?_⟩
    · rw [Bool.or_eq_true, storeBusy_iff, loaderBusy_iff]
      exact hb
    rw [show lnkAnswer tag (okReply []) { taken (f 0x13#8) s.dev with
      cal := { (taken (f 0x13#8) s.dev).cal with valid := false, origin := .service } } = b from
      (congrArg (lnkAnswer tag (okReply [])) ha.symm).trans (answer.trans hb'.symm)]
    have cal : b.cal = { s.dev.cal with valid := false, origin := .service } := by rw [hb', ha]; rfl
    have mod : b.mod = s.dev.mod := by rw [hb', ha]; rfl
    have replies : b.lnk.replies = s.dev.lnk.replies ++ [⟨0x93#8, tag, [0#8], false⟩] := by rw [hb', ha]; rfl
    obtain ⟨more, hmore⟩ := entered.replies
    refine ⟨entered.cal.trans cal, ?_, ?_, ?_, ?_, entered.doors.running, entered.doors.held, entered.gauges,
      entered.flash, entered.onDemand, entered.timer, more, by rw [hmore, replies]⟩
    all_goals rw [entered.mod]
    · rfl
    · rw [mod, ← hm]
      rfl
    · rfl
    · rfl
  have judged (d : Dev) (hd : d.cal.ram = s.dev.cal.ram) : d.validate = s.dev.validate := validate_of_ram hd
  have idle : s.dev.sto.loader.state = .idle := not_not.mp hb
  refine ⟨fun h => ⟨fun sec entry hv => ?rejected, fun hv => ?committed⟩,
    fun h => ⟨fun sec entry hs hv => ?kept, fun hs hv => ?aborted, fun hs => ?verified⟩⟩
  case rejected =>
    exact .of_effect (e := { taken (f 0x15#8) s.dev with
      cal := { s.dev.cal with validation := .failure sec entry, valid := false } }) rfl h
      (ownCalCommit_failure (d := taken (f 0x15#8) s.dev) hm idle ((judged (taken (f 0x15#8) s.dev) rfl).trans hv)) rfl
  case committed =>
    obtain ⟨a, eq, cal, requests, replies, unstored, page⟩ :=
      storeAsked_kept { taken (f 0x15#8) s.dev with cal := valid }
    have entered := enterByOrigin_entered .calCommit (replied (f 0x15#8) (okReply []) a)
    have ho : (replied (f 0x15#8) (okReply []) a).cal = valid := cal
    have passes : (taken (f 0x15#8) s.dev).validate = .pass := (judged (taken (f 0x15#8) s.dev) rfl).trans hv
    have ran : ownCalCommit tag (taken (f 0x15#8) s.dev) =
        enterByOrigin .calCommit (replied (f 0x15#8) (okReply []) a) := by
      rw [ownCalCommit_pass (d := taken (f 0x15#8) s.dev) hm idle passes, commitImage_eq]
      refine congrArg (enterByOrigin .calCommit) ((congrArg (lnkAnswer tag (okReply [])) eq).trans ?_)
      exact answer_after (f := f 0x15#8) h requests _
    refine ⟨_, .of_served rfl h ran, entered.cal.trans cal, ?_, entered.cause, entered.running,
      entered.unstored.trans unstored, fun hs => entered.page.trans (page hs), entered.replies.trans ?_⟩
    · rw [entered.mode, ho, hreached]
    · show a.lnk.replies ++ _ = _
      rw [replies]
      rfl
  case kept =>
    refine .of_served rfl h ((ownCalAbort_lost (d := taken (f 0x16#8) s.dev) hm idle hs).trans ?_)
    rw [validateRam_failure (d := aborting tag (taken (f 0x16#8) s.dev))
      ((judged (aborting tag (taken (f 0x16#8) s.dev)) rfl).trans hv), abortEnd_failure rfl rfl rfl]
    exact congrArg loaderIdle (answer_after (f := f 0x16#8) h (by rfl) _)
  case aborted =>
    obtain ⟨a, ha⟩ : ∃ a : Dev, a = { aborting tag (taken (f 0x16#8) s.dev) with cal := valid } := ⟨_, rfl⟩
    have entered := enterByOrigin_entered .calAbort (loaderIdle (replied (f 0x16#8) (okReply []) a))
    have cal : a.cal = valid := by rw [ha]
    have ran : ownCalAbort tag (taken (f 0x16#8) s.dev) =
        enterByOrigin .calAbort (loaderIdle (replied (f 0x16#8) (okReply []) a)) := by
      rw [ownCalAbort_lost (d := taken (f 0x16#8) s.dev) hm idle hs,
        validateRam_pass (d := aborting tag (taken (f 0x16#8) s.dev))
        ((judged (aborting tag (taken (f 0x16#8) s.dev)) rfl).trans hv), abortEnd_pass rfl rfl, ha]
      exact congrArg (fun x => enterByOrigin .calAbort (loaderIdle x)) (answer_after (f := f 0x16#8) h (by rfl) _)
    refine ⟨_, .of_served rfl h ran, entered.cal.trans cal, entered.mode.trans ?_, entered.cause, entered.running,
      entered.unstored.trans ?_, entered.replies.trans ?_⟩
    · rw [hreached, show (loaderIdle (replied (f 0x16#8) (okReply []) a)).cal = valid from cal]
    · rw [ha]
      rfl
    · rw [ha]
      rfl
  case verified =>
    obtain ⟨a, ha⟩ : ∃ a, a = lnkDefer tag (taken (f 0x16#8) s.dev) := ⟨_, rfl⟩
    have deferred : a = _ := ha.trans (lnkDefer_taken h)
    obtain ⟨b, hb⟩ : ∃ b, b = verifying tag a := ⟨_, rfl⟩
    have ran : ownCalAbort tag (taken (f 0x16#8) s.dev) = stoGrant b := by
      rw [ownCalAbort_present (d := taken (f 0x16#8) s.dev) hm idle hs, hb, ha,
        abortVerify_eq]
    have granted := told_stoGrant (.refl 0 b)
    refine ⟨_, .of_served rfl h ran, ?_, ?_, (stoGrant_lnk b).trans ?_, granted.cal.trans ?_, granted.mod.trans ?_⟩
    · rw [granted.sto, hb]
      rfl
    · rw [granted.sto, hb]
      rfl
    all_goals
      rw [hb, deferred]
      rfl

end Sys2Proof.Machine
end

section
/-! SUPPORT. The reads of the storage device: the fetch of the image, the odometer ring, the fault slots and a
deferred FAULT_READ; with them the statement `Obligations.ReadJobIsDelivered` (O37). -/

namespace Sys2Proof.Machine
variable {d e : Dev} {j : Job}

/-! ## The bytes of a read (R150) -/

/-- What a read job brings to its requester, `none` where it failed. -/
def readBytes : ReadEnd → Option (List Byte)
  | .delivered data => some data
  | .failed => none

theorem readEnded_transfer {address length : Nat} (result : ReadEnd) (hj : d.sto.job = some j)
    (ho : j.op = .read address length) (hp : j.phase = .transfer) :
    readEnded result d = readDone j (readBytes result) d := by
  unfold readEnded readOutcome decidedOutcome
  simp only [hj, ho, hp]
  cases result <;> rfl

theorem readDone_loader (result : Option (List Byte)) (h : j.requester = .loader) :
    readDone j result d = jobEnd (loaderRead result d) := by
  unfold readDone
  rw [h]

theorem readDone_hostRead {h : HostRead} (result : Option (List Byte)) (hr : j.requester = .hostRead)
    (hh : j.hostRead = some h) : readDone j result d = jobEnd (hostReadDone h result d) := by
  unfold readDone
  rw [hr, hh]

theorem loaderRead_body (data : List Byte) (hs : d.sto.loader.stop = none) (h : d.sto.loader.state = .fetchingBody) :
    loaderRead (some data) d = bodyFetched d.sto.loader.index data d := by
  unfold loaderRead
  simp only [hs, h]

theorem loaderRead_ring (result : Option (List Byte)) (hs : d.sto.loader.stop = none)
    (h : d.sto.loader.state = .readingRing) : loaderRead result d = ringRead result d := by
  unfold loaderRead
  simp only [hs, h]

theorem loaderRead_slots (result : Option (List Byte)) (hs : d.sto.loader.stop = none)
    (h : d.sto.loader.state = .readingSlots) : loaderRead result d = slotsRead d.sto.loader.index result d := by
  unfold loaderRead
  simp only [hs, h]

theorem fitBytes_long {n : Nat} {bs : List Byte} (h : n ≤ bs.length) : fitBytes n bs = bs.take n := by
  rw [fitBytes, Nat.sub_eq_zero_of_le h, List.replicate_zero, List.append_nil]

theorem fitBytes_exact {n : Nat} {bs : List Byte} (h : bs.length = n) : fitBytes n bs = bs := by
  rw [fitBytes_long h.ge, List.take_of_length_le h.le]

/-! ## What a grant of the port leaves -/

theorem slot_of_flt (h : e.flt.slots = d.flt.slots) (i : Fin 40) : e.slot i = d.slot i :=
  congrArg (fun w : Vector FaultSlot 40 => w[i]) h

theorem stoGrant_slot (i : Fin 40) (d : Dev) : (stoGrant d).slot i = d.slot i :=
  slot_of_flt (by rw [stoGrant_flt]) i

theorem stoGrant_pls (d : Dev) : (stoGrant d).pls = { d.pls with odoJob := (stoGrant d).pls.odoJob } := by
  rcases stoGrant_cases d with hd | ⟨r, -, -, hd⟩ <;> rw [hd]
  obtain ⟨x, y, z, hc⟩ := countGrant_fields r d
  rw [hc]
  cases r with
  | odometer => rfl
  | faultWriter | loader | hostRead | imageStore =>
    simp only [grantTo]
    split <;> rfl

/-- What stands when the loader's next job has taken the place of the one that ended. -/
structure LoaderWent (st : LoaderState) (index : Nat) (d e : Dev) : Prop where
  state : e.sto.loader.state = st
  index : e.sto.loader.index = index
  slots : e.sto.loader.slots = d.sto.loader.slots
  job : e.sto.job.isSome = true
  pls : e.pls = { d.pls with odoJob := e.pls.odoJob }
  slot (i : Fin 40) : e.slot i = d.slot i
  clock : e.clock = d.clock
  mod : e.mod = d.mod
  cal : e.cal = d.cal
  wrn : e.wrn = d.wrn
  lnk : e.lnk = d.lnk

theorem jobEnd_went {st : LoaderState} {index : Nat} {op : JobOp} (hj : d.sto.job.isSome = true)
    (hs : d.sto.storage ≠ .absent) (hq : d.sto.storeQueued = false) :
    LoaderWent st index d (jobEnd (loaderQueue st index op d)) := by
  obtain ⟨eq, started⟩ := jobEnd_loader (st := st) (index := index) (op := op) hj hs hq
  obtain ⟨a, ha⟩ : ∃ a, a = portFree (loaderQueued st index op d) := ⟨_, rfl⟩
  rw [eq]
  rw [← ha] at started ⊢
  have told := told_stoGrant (.refl 0 a)
  exact
    { state := by rw [told.sto, ha]; rfl
      index := by rw [told.sto, ha]; rfl
      slots := by rw [told.sto, ha]; rfl
      job := started
      pls := (stoGrant_pls a).trans (by rw [ha]; rfl)
      slot := fun i => (stoGrant_slot i a).trans (by rw [ha]; rfl)
      clock := told.clock.trans (by rw [ha]; rfl)
      mod := told.mod.trans (by rw [ha]; rfl)
      cal := told.cal.trans (by rw [ha]; rfl)
      wrn := (told.wrn rfl).trans (by rw [ha]; rfl)
      lnk := (stoGrant_lnk a).trans (by rw [ha]; rfl) }

/-! ## The odometer ring (R48) -/

theorem foldl_max_le {l : List RingSlot} {m n : Nat} (hm : m ≤ n) (h : ∀ x ∈ l, x.seqNo ≤ n) :
    l.foldl (fun m s => max m s.seqNo) m ≤ n :=
  List.foldlRecOn (motive := (· ≤ n)) _ _ hm fun _ hb x hx => max_le hb (h x hx)

theorem le_foldl_max {l : List RingSlot} {s : RingSlot} (m : Nat) (h : s ∈ l) :
    s.seqNo ≤ l.foldl (fun m s => max m s.seqNo) m := by
  obtain ⟨before, after, rfl⟩ := List.append_of_mem h
  rw [List.foldl_append, List.foldl_cons]
  exact List.foldlRecOn (motive := (s.seqNo ≤ ·)) _ _ (le_max_right _ _) fun _ hb _ _ => hb.trans (le_max_left _ _)

/-- A slot whose sequence is above every other's is the newest. -/
theorem newestSlot_top {l : List RingSlot} {s : RingSlot} (hs : s ∈ l) (hn : l.Nodup)
    (h : ∀ x ∈ l, x ≠ s → x.seqNo < s.seqNo) : newestSlot l = some s := by
  have top : l.foldl (fun m s => max m s.seqNo) 0 = s.seqNo := by
    refine le_antisymm (foldl_max_le (Nat.zero_le _) fun x hx => ?_) (le_foldl_max 0 hs)
    by_cases same : x = s
    · rw [same]
    · exact (h x hx same).le
  have only : l.filter (·.seqNo == s.seqNo) = [s] := by
    rw [List.filter_congr (q := (· == s)) fun x hx => ?_, List.filter_beq, List.count_eq_one_of_mem hn hs,
      List.replicate_one]
    by_cases same : x = s
    · simp [same]
    · rw [beq_eq_false_iff_ne.mpr (h x hx same).ne, beq_eq_false_iff_ne.mpr same]
  unfold newestSlot
  simp only [top, only]

/-- The ring slot at a place among the ring's bytes, as `Obligations.ReadJobIsDelivered` reads it. -/
def ringPlace (data : List Byte) (k : Nat) : List Byte := (data.drop (16 * k)).take 16

/-- The place holds a valid slot (R197). -/
def RingValid (data : List Byte) (k : Nat) : Prop :=
  (crc16 ((ringPlace data k).take 14)).toNat = be16At (ringPlace data k) 14

/-- The slot that stands at a place. -/
def ringAt (data : List Byte) (k : Nat) : RingSlot :=
  ⟨k, be32At (ringPlace data k) 0, be32At (ringPlace data k) 4, be16At (ringPlace data k) 8⟩

theorem ringPlace_length {data : List Byte} {k : Nat} (hd : data.length = 64) :
    (ringPlace data k).length = 16 ↔ k < 4 := by
  rw [ringPlace, List.length_take, List.length_drop]
  omega

theorem mem_ringSlots {data : List Byte} (hd : data.length = 64) (s : RingSlot) :
    s ∈ ringSlots data ↔ ∃ k < 4, RingValid data k ∧ s = ringAt data k := by
  have place (k : Nat) (hk : k < 4) : fitBytes 16 (data.drop (16 * k)) = ringPlace data k :=
    fitBytes_long (by rw [List.length_drop]; omega)
  simp only [ringSlots, List.mem_filterMap, List.mem_range]
  refine exists_congr fun k => and_congr_right fun hk => ?_
  rw [place k hk, ringSlot]
  split
  next valid => exact ⟨fun h => ⟨valid, (Option.some.inj h).symm⟩, fun ⟨_, h⟩ => congrArg some h.symm⟩
  next invalid => exact ⟨nofun, fun ⟨valid, _⟩ => absurd valid invalid⟩

theorem ringSlots_nodup (data : List Byte) : (ringSlots data).Nodup := by
  refine List.Nodup.filterMap (fun a b s ha hb => ?_) List.nodup_range
  have index (k : Nat) (h : s ∈ ringSlot k (fitBytes 16 (data.drop (16 * k)))) : s.index = k := by
    unfold ringSlot at h
    split at h
    · exact (congrArg RingSlot.index (Option.some.inj h)).symm
    · exact nomatch h
  exact (index a ha).symm.trans (index b hb)

/-- A cycle count with an owed increase made (R49). -/
def cyclesCounted (p : PlsState) (cycles : Nat) : Nat := if p.cycleOwed then min 65535 (cycles + 1) else cycles

theorem takeRing_newest {l : List RingSlot} {s : RingSlot} (h : newestSlot l = some s) : takeRing l d =
    { d with pls := { d.pls with
      distance := max d.pls.distance s.distance, cycles := cyclesCounted d.pls (max d.pls.cycles s.cycles)
      lastSlot := s.index, lastSeq := s.seqNo, ringTaken := true, cycleOwed := false } } := by
  unfold takeRing
  simp only [h]
  rfl

theorem takeRing_none : takeRing [] d = { d with pls := { d.pls with
    cycles := cyclesCounted d.pls d.pls.cycles, lastSlot := 3, lastSeq := 0, ringTaken := true, cycleOwed := false } } := rfl

theorem loaderSlots_reads (h : d.flt.slotsTaken = false) (hs : d.sto.storage = .present) : loaderSlots d =
    loaderQueue .readingSlots 0 (.read 0x4100 128)
      { d with sto := { d.sto with loader := { d.sto.loader with slots := [] } } } :=
  if_pos (by rw [h, hs]; rfl)

/-- The valid slots of the ring that a read brings (R48). -/
def ringOf (result : Option (List Byte)) : List RingSlot :=
  match result with
  | some data => ringSlots (fitBytes 64 data)
  | none => []

theorem ringRead_eq (result : Option (List Byte)) (d : Dev) : ringRead result d = loaderSlots (takeRing (ringOf result) d) := by
  cases result <;> rfl

/-- The end of the ring's read: what PLS took, and the first read of the fault slots. -/
theorem ringRead_went {result : Option (List Byte)} {p : PlsState} (hj : d.sto.job.isSome = true)
    (ht : takeRing (ringOf result) d = { d with pls := p }) (hf : d.flt.slotsTaken = false)
    (hs : d.sto.storage = .present) (hq : d.sto.storeQueued = false) :
    LoaderWent .readingSlots 0 { d with
      pls := p, sto := { d.sto with loader := { d.sto.loader with slots := [] } } } (jobEnd (ringRead result d)) := by
  rw [ringRead_eq, ht, loaderSlots_reads (d := { d with pls := p }) hf hs]
  exact jobEnd_went (d := { d with pls := p, sto := { d.sto with loader := { d.sto.loader with slots := [] } } })
    hj (by rw [show _ = StorageState.present from hs]; exact nofun) hq

/-! ## The fault slots (R147) -/

/-- A slot holds the record of a code. -/
def SlotHolds (s : FaultSlot) (code : Nat) : Prop := ∃ r, s.record = some r ∧ r.code.toNat = code

theorem byteAt_lt (bs : List Byte) (i : Nat) : byteAt bs i < 256 := (bs.getD i 0#8).isLt

theorem be16At_lt (bs : List Byte) (i : Nat) : be16At bs i < 65536 := by
  have high := byteAt_lt bs i
  have low := byteAt_lt bs (i + 1)
  unfold be16At
  omega

theorem findCode_isSome {code : Nat} (h : code < 65536) :
    (findCode d (BitVec.ofNat 16 code)).isSome = true ↔ ∃ k, SlotHolds (d.slot k) code := by
  have same (c : BitVec 16) : c = BitVec.ofNat 16 code ↔ c.toNat = code := by
    rw [← BitVec.toNat_inj, BitVec.toNat_ofNat, Nat.mod_eq_of_lt h]
  rw [Option.isSome_iff_ne_none, ne_eq, findCode_eq_none_iff]
  simp only [same, SlotHolds, not_forall, not_not]

theorem takeSlot_bad {i : Fin 40} {b : List Byte} (h : (crc16 (b.take 30)).toNat ≠ be16At b 30) :
    takeSlot i (some b) d = d.setSlot i { d.slot i with dirty := true } := by
  simp [takeSlot, h]

theorem takeSlot_empty {i : Fin 40} {b : List Byte} (h : (crc16 (b.take 30)).toNat = be16At b 30) (h0 : be16At b 0 = 0) :
    takeSlot i (some b) d = d := by
  simp [takeSlot, h, h0]

theorem takeSlot_taken {i : Fin 40} {b : List Byte} (h : (crc16 (b.take 30)).toNat = be16At b 30) (h0 : be16At b 0 ≠ 0)
    (hk : (∃ k, SlotHolds (d.slot k) (be16At b 0)) ∨ (d.slot i).record ≠ none) :
    takeSlot i (some b) d = d.setSlot i { d.slot i with dirty := true } := by
  rw [← findCode_isSome (be16At_lt b 0), ← Option.isSome_iff_ne_none] at hk
  simp only [takeSlot, h, bne_self_eq_false, Bool.false_eq_true, if_false, h0]
  split
  · rfl
  next hf => exact if_pos (hk.resolve_left hf)

theorem takeSlot_loaded {i : Fin 40} {b : List Byte} (h : (crc16 (b.take 30)).toNat = be16At b 30) (h0 : be16At b 0 ≠ 0)
    (hk : ¬∃ k, SlotHolds (d.slot k) (be16At b 0)) (hr : (d.slot i).record = none) :
    takeSlot i (some b) d = d.setSlot i ⟨some (storedRecord b), false⟩ := by
  rw [← findCode_isSome (be16At_lt b 0)] at hk
  simp only [takeSlot, h, bne_self_eq_false, Bool.false_eq_true, if_false, h0, hk, hr, Option.isSome_none]

/-- A slot taken writes at most that slot, and takes no record from it. -/
theorem takeSlot_outcome (i : Fin 40) (x : Option (List Byte)) (d : Dev) : takeSlot i x d = d ∨
    ∃ s, takeSlot i x d = d.setSlot i s ∧ ∀ r, (d.slot i).record = some r → s.record = some r := by
  unfold takeSlot
  split
  · exact .inl rfl
  split_ifs
  · exact .inr ⟨_, rfl, fun _ h => h⟩
  · exact .inl rfl
  · exact .inr ⟨_, rfl, fun _ h => h⟩
  · exact .inr ⟨_, rfl, fun _ h => h⟩
  next empty => exact .inr ⟨_, rfl, fun r h => absurd (by rw [h]; rfl) empty⟩

theorem takeSlot_slot_ne {i k : Fin 40} (h : i ≠ k) (x : Option (List Byte)) (d : Dev) :
    (takeSlot i x d).slot k = d.slot k := by
  rcases takeSlot_outcome i x d with eq | ⟨s, eq, -⟩ <;> rw [eq]
  rw [setSlot_slot, if_neg h]

theorem takeSlot_record {k : Fin 40} {r : FaultRec} (i : Fin 40) (x : Option (List Byte))
    (h : (d.slot k).record = some r) : ((takeSlot i x d).slot k).record = some r := by
  by_cases same : i = k
  · subst same
    rcases takeSlot_outcome i x d with eq | ⟨s, eq, hs⟩ <;> rw [eq]
    · exact h
    · rw [setSlot_slot, if_pos rfl]
      exact hs r h
  · rw [takeSlot_slot_ne same, h]

/-- The forty slots taken one after the other. -/
def slotsPassed (stored : List (Option (List Byte))) (d : Dev) : Dev :=
  forEach 40 (fun i => takeSlot i (stored.getD i.val none)) d

/-- Beside the slots the pass leaves everything as it was. -/
theorem slotsPassed_only (stored : List (Option (List Byte))) (d : Dev) :
    ∃ w, slotsPassed stored d = { d with flt := { d.flt with slots := w } } := by
  refine forEach_keeps (P := fun e => ∃ w, e = { d with flt := { d.flt with slots := w } })
    (fun i e ⟨w, he⟩ => ?_) ⟨d.flt.slots, rfl⟩
  rcases takeSlot_outcome i (stored.getD i.val none) e with eq | ⟨s, eq, -⟩ <;> rw [eq, he]
  · exact ⟨w, rfl⟩
  · exact ⟨_, rfl⟩

/-- While the pass has not reached slot `i`: it and those above are as they were, and no record has gone. -/
def PassBelow (i : Fin 40) (d e : Dev) : Prop :=
  (∀ k, i ≤ k → e.slot k = d.slot k) ∧ ∀ k r, (d.slot k).record = some r → (e.slot k).record = some r

/-- Slot `i` is taken from a part in which the codes held are those held before and those of the slots below it. -/
theorem slotsPassed_at (stored : List (Option (List Byte))) (d : Dev) (i : Fin 40) : ∃ a,
    (slotsPassed stored d).slot i = (takeSlot i (stored.getD i.val none) a).slot i ∧ a.slot i = d.slot i ∧
    ∀ code, (∃ k, SlotHolds (a.slot k) code) ↔
      (∃ k, SlotHolds (d.slot k) code) ∨ ∃ k, k < i ∧ SlotHolds ((slotsPassed stored d).slot k) code := by
  obtain ⟨a, ⟨above, records⟩, here, below⟩ : ∃ a, PassBelow i d a ∧
      (slotsPassed stored d).slot i = (takeSlot i (stored.getD i.val none) a).slot i ∧
      ∀ k < i, (slotsPassed stored d).slot k = a.slot k := by
    refine foldl_finRange_at (before := PassBelow i d) (after := fun e => ∃ a, PassBelow i d a ∧
      e.slot i = (takeSlot i (stored.getD i.val none) a).slot i ∧ ∀ k < i, e.slot k = a.slot k) i
      (fun j hj e ⟨above, records⟩ => ⟨fun k hk => ?_, fun k r hr => takeSlot_record j _ (records k r hr)⟩)
      (fun e he => ⟨e, he, rfl, fun k hk => takeSlot_slot_ne hk.ne' _ e⟩)
      (fun j hj e ⟨a, ha, here, below⟩ => ⟨a, ha, ?_, fun k hk => ?_⟩) ⟨fun _ _ => rfl, fun _ _ h => h⟩
    · rw [takeSlot_slot_ne (hj.trans_le hk).ne, above k hk]
    · rw [takeSlot_slot_ne hj.ne', here]
    · rw [takeSlot_slot_ne (hk.trans hj).ne', below k hk]
  refine ⟨a, here, above i le_rfl, fun code => ⟨fun ⟨k, held⟩ => ?_, ?_⟩⟩
  · by_cases hk : k < i
    · exact .inr ⟨k, hk, by rw [below k hk]; exact held⟩
    · exact .inl ⟨k, by rw [← above k (not_lt.mp hk)]; exact held⟩
  · rintro (⟨k, r, hr, code⟩ | ⟨k, hk, held⟩)
    · exact ⟨k, r, records k r hr, code⟩
    · exact ⟨k, by rw [← below k hk]; exact held⟩

/-- The fault memory with its slots taken, before the grant that follows. -/
def slotsHanded (stored : List (Option (List Byte))) (d : Dev) : Dev :=
  { slotsPassed stored d with flt := { (slotsPassed stored d).flt with
      slotsTaken := true, persistent := true, queue := dirtySlots (slotsPassed stored d) } }

theorem takeSlots_eq (stored : List (Option (List Byte))) (d : Dev) : takeSlots stored d = stoGrant (slotsHanded stored d) := rfl

theorem told_takeSlots (stored : List (Option (List Byte))) (d : Dev) : Told 0 d (takeSlots stored d) := by
  obtain ⟨w, eq⟩ := slotsPassed_only stored d
  rw [takeSlots_eq]
  refine told_stoGrant ?_
  rw [slotsHanded, eq]
  exact told_flt _ (told_flt { d.flt with slots := w } (.refl 0 d))

theorem takeSlots_slot (stored : List (Option (List Byte))) (i : Fin 40) (d : Dev) :
    (takeSlots stored d).slot i = (slotsPassed stored d).slot i := by
  rw [takeSlots_eq]
  exact stoGrant_slot i (slotsHanded stored d)

theorem takeSlots_flt (stored : List (Option (List Byte))) (d : Dev) : SlotsTaken true (takeSlots stored d) ∧
    (takeSlots stored d).flt.pool = d.flt.pool ∧ (takeSlots stored d).flt.dropped = d.flt.dropped := by
  obtain ⟨w, eq⟩ := slotsPassed_only stored d
  obtain ⟨a, ha⟩ : ∃ a, a = slotsHanded stored d := ⟨_, rfl⟩
  have handed : SlotsTaken true a := by
    rw [ha]
    exact ⟨rfl, rfl⟩
  have pool : a.flt.pool = d.flt.pool := by
    rw [ha, slotsHanded, eq]
  have dropped : a.flt.dropped = d.flt.dropped := by
    rw [ha, slotsHanded, eq]
  rw [takeSlots_eq, ← ha]
  exact ⟨stoGrant_slotsTaken handed, by rw [stoGrant_flt]; exact pool, by rw [stoGrant_flt]; exact dropped⟩

/-- With a job in flight the dirty slots wait in ascending order (R147). -/
theorem takeSlots_queue (stored : List (Option (List Byte))) (hj : d.sto.job.isSome = true) :
    (takeSlots stored d).flt.queue = (List.finRange 40).filter fun i => ((takeSlots stored d).slot i).dirty := by
  obtain ⟨w, eq⟩ := slotsPassed_only stored d
  have busy : (slotsHanded stored d).sto.job.isSome = true := by
    rw [slotsHanded, eq]
    exact hj
  rw [takeSlots_eq, stoGrant_busy busy]
  rfl

/-- The tenth read of the fault slots ends loading without an image (R147, R158). -/
theorem slotsRead_ends {k : Nat} {result : Option (List Byte)} (hk : k = 9) (hv : d.cal.valid = false)
    (hf : d.mod.flush = .none) : ∃ e, jobEnd (slotsRead k result d) = e ∧ SlotsTaken true e ∧
      e.sto.loader.state = .idle ∧ e.mod.mode = .awaitingImage ∧ e.mod.cause = .noImage := by
  obtain ⟨a, ha⟩ : ∃ a, a = takeSlots (d.sto.loader.slots ++ slotsOfRead result) d := ⟨_, rfl⟩
  have toldA : Told 0 d a := ha ▸ told_takeSlots _ d
  have takenA : SlotsTaken true a := ha ▸ (takeSlots_flt _ d).1
  obtain ⟨b, hb⟩ : ∃ b : Dev, b = { loaderIdle a with cal := { a.cal with origin := .loading } } := ⟨_, rfl⟩
  have entered := enterAwaiting_entered .noImage b
  have read : slotsRead k result d = enterAwaiting .noImage b := by
    rw [hk, hb, ha]
    exact if_neg (by rw [← ha]; show ¬a.cal.valid = true; rw [toldA.cal, hv]; simp)
  obtain ⟨c, hc⟩ : ∃ c, c = enterAwaiting .noImage b := ⟨_, rfl⟩
  rw [← hc] at entered
  have modB : b.mod = d.mod := by rw [hb]; exact toldA.mod
  have granted := told_stoGrant (.refl 0 (portFree c))
  have modC : (stoGrant (portFree c)).mod = (d.mod.entered .awaitingImage .noImage).cleared := by
    rw [granted.mod, ← modB, ← entered.mod]
    rfl
  have last : jobEnd (slotsRead k result d) = stoGrant (portFree c) := by
    rw [read, ← hc, jobEnd_eq]
    exact flushJudge_none (by rw [modC]; exact hf)
  refine ⟨_, last, stoGrant_slotsTaken (d := portFree c) (entered.slots ?_), ?_, by rw [modC]; rfl, by rw [modC]; rfl⟩
  · rw [hb]
    exact takenA
  · rw [granted.sto]
    show c.sto.loader.state = _
    rw [entered.sto, hb]
    rfl

theorem slotsOfRead_some {data : List Byte} (h : data.length = 128) : slotsOfRead (some data) =
    [some (data.take 32), some ((data.drop 32).take 32), some ((data.drop 64).take 32), some ((data.drop 96).take 32)] := by
  unfold slotsOfRead
  simp only [fitBytes_exact h]

/-! ## The read of a deferred FAULT_READ (R146) -/

/-- The reply to a deferred FAULT_READ of a stored frame, its slot still holding the code. -/
theorem faultReadPayload_stored {h : HostRead} {r : FaultRec} (hr : (d.slot h.slot).record = some r)
    (hc : r.code = h.code) (hf : r.frame = .stored) (result : Option (List Byte)) :
    faultReadPayload d h result = match result with
      | some data =>
        if frameSlotGood r.code (fitBytes 64 data) then
          faultReadReply h.slot (d.slot h.slot) r .stored ((fitBytes 64 data).take 32)
        else faultReadReply h.slot (d.slot h.slot) r .unreadable []
      | none => statusReply .storageFailed := by
  unfold faultReadPayload
  simp only [hr, hc, bne_self_eq_false, Bool.false_eq_true, if_false, poolFrame, hf]
  cases result <;> rfl

/-- Settles O37: each read's bytes are handed over before the port is granted again. -/
theorem readJobIsDelivered : Obligations.ReadJobIsDelivered := by
  refine ⟨fun s j address length hj ho hp => ⟨?body, ?hostRead, ?ring, ?slots⟩, fun d stored => ?taken⟩
  case body =>
    intro data k hr hstop hstate hindex hk hlen hs hq wf
    have some : s.dev.sto.job.isSome = true := by rw [hj]; rfl
    obtain ⟨a, ha⟩ : ∃ a, a = s.dev.writeRam (16 + 128 * k) data := ⟨_, rfl⟩
    have ran : readEnded (.delivered data) s.dev =
        jobEnd (loaderQueue .fetchingBody (k + 1) (.read (0x10 + 128 * (k + 1)) 128) a) := by
      rw [readEnded_transfer _ hj ho hp, readDone_loader _ hr]
      show jobEnd (loaderRead (.some data) s.dev) = _
      rw [loaderRead_body data hstop hstate, hindex, bodyFetched, fitBytes_exact hlen, ← ha]
      exact congrArg jobEnd (if_pos hk)
    have went := jobEnd_went (d := a) (st := .fetchingBody) (index := k + 1)
      (op := .read (0x10 + 128 * (k + 1)) 128) (by rw [ha]; exact some)
      (by rw [ha]; exact hs ▸ nofun) (by rw [ha]; exact hq)
    have fits : 16 + 128 * k + data.length ≤ imageSize := by
      rw [hlen]
      show _ ≤ 5008
      omega
    refine ⟨_, .of_event (f := readEnded (.delivered data)) rfl ran, went.state, went.index, went.job,
      went.mod.trans (by rw [ha]; rfl), ?_, ?_, fun x => ?_⟩
    all_goals rw [went.cal, ha]
    · rfl
    · exact wf_writeRam s.dev _ data wf
    · rw [read_writeRam wf fits, hlen]
  case hostRead =>
    intro h r q result payload hr hh hrec hcode hframe hreq htag hkind hresult
    have reply : faultReadPayload s.dev h (readBytes result) = payload := by
      rw [faultReadPayload_stored hrec hcode hframe]
      rcases hresult with ⟨rfl, rfl⟩ | ⟨data, rfl, hlen, hgood, rfl⟩
      · rfl
      · simp only [readBytes, fitBytes_exact hlen, hgood, if_true]
        simp only [faultReadReply, okReply, FrameMarker.code, List.cons_append, List.nil_append, List.append_assoc]
        rfl
    obtain ⟨a, ha⟩ : ∃ a, a = hostReadDone h (readBytes result) s.dev := ⟨_, rfl⟩
    have answered : a = { s.dev with lnk := { s.dev.lnk with
        requests := [{ q with deferred := false }]
        replies := s.dev.lnk.replies ++ [⟨0x8E#8, h.tag, payload, false⟩] } } := by
      rw [ha, hostReadDone, reply, lnkAnswer_only payload hreq htag, hkind]
      rfl
    have waiting : Unflushed (portFree a) := .inr (.inr (.inr (by rw [answered]; simp [portFree])))
    have ran : readEnded result s.dev = stoGrant (portFree a) := by
      rw [readEnded_transfer _ hj ho hp, readDone_hostRead _ hr hh, ← ha, jobEnd_eq]
      exact flushJudge_unflushed (stoGrant_unflushed waiting)
    have granted := told_stoGrant (.refl 0 (portFree a))
    refine ⟨_, .of_event (f := readEnded result) rfl ran, (stoGrant_lnk _).trans ?_,
      fun i => (stoGrant_slot i _).trans ?_, granted.cal.trans ?_, granted.mod.trans ?_, (granted.wrn rfl).trans ?_⟩
    all_goals
      rw [answered]
      rfl
  case ring =>
    intro result hr hstop hstate hf hs hq p slot valid counted takes hlen
    have inFlight : s.dev.sto.job.isSome = true := by rw [hj]; rfl
    have ran : readEnded result s.dev = jobEnd (ringRead (readBytes result) s.dev) := by
      rw [readEnded_transfer _ hj ho hp, readDone_loader _ hr, loaderRead_ring _ hstop hstate]
    have taken (after : PlsState) (ht : takeRing (ringOf (readBytes result)) s.dev =
        { s.dev with pls := { after with ringTaken := true, cycleOwed := false } }) : takes after := by
      have went := ringRead_went inFlight ht hf hs hq
      exact ⟨_, .of_event (f := readEnded result) rfl ran, went.pls, went.state, went.index, went.slots, went.job,
        went.slot, went.clock, went.mod, went.cal, went.wrn, went.lnk⟩
    cases result with
    | failed =>
      refine ⟨fun k hk => ?_, fun _ => taken _ takeRing_none⟩
      obtain ⟨-, hk, -⟩ := hk
      exact absurd hk (by simp [slot])
    | delivered data =>
      have h64 : data.length = 64 := hlen data rfl
      have ring : ringOf (readBytes (.delivered data)) = ringSlots data := by
        show ringSlots (fitBytes 64 data) = _
        rw [fitBytes_exact h64]
      have isValid (k : Nat) : valid k ↔ k < 4 ∧ RingValid data k :=
        and_congr_right fun hk => ⟨And.right, fun h => ⟨(ringPlace_length h64).mpr hk, h⟩⟩
      refine ⟨fun k hk highest => taken _ ?_, fun hnone => taken _ ?_⟩
      · have newest : newestSlot (ringSlots data) = some (ringAt data k) := by
          refine newestSlot_top ((mem_ringSlots h64 _).mpr ⟨k, ((isValid k).mp hk).1, ((isValid k).mp hk).2, rfl⟩)
            (ringSlots_nodup data) fun x hx other => ?_
          obtain ⟨i, hi, validI, rfl⟩ := (mem_ringSlots h64 x).mp hx
          exact highest i (fun same => other (by rw [same])) ((isValid i).mpr ⟨hi, validI⟩)
        rw [ring, takeRing_newest newest]
        rfl
      · have none : ringSlots data = [] := by
          refine List.eq_nil_iff_forall_not_mem.mpr fun x hx => ?_
          obtain ⟨i, hi, validI, -⟩ := (mem_ringSlots h64 x).mp hx
          exact hnone i ((isValid i).mpr ⟨hi, validI⟩)
        rw [ring, none, takeRing_none]
        rfl
  case slots =>
    intro result k hr hstop hstate hindex hs hq hlen
    have inFlight : s.dev.sto.job.isSome = true := by rw [hj]; rfl
    have ran : readEnded result s.dev = jobEnd (slotsRead k (readBytes result) s.dev) := by
      rw [readEnded_transfer _ hj ho hp, readDone_loader _ hr, loaderRead_slots _ hstop hstate, hindex]
    refine ⟨fun hk => ?_, fun hk hv hflush => ?_⟩
    · obtain ⟨a, ha⟩ : ∃ a : Dev, a = { s.dev with sto := { s.dev.sto with loader := { s.dev.sto.loader with
        slots := s.dev.sto.loader.slots ++ slotsOfRead (readBytes result) } } } := ⟨_, rfl⟩
      have read : slotsRead k (readBytes result) s.dev =
          loaderQueue .readingSlots (k + 1) (.read (0x4100 + 128 * (k + 1)) 128) a := by
        rw [ha]
        exact if_pos hk
      have went := jobEnd_went (d := a) (st := .readingSlots) (index := k + 1)
        (op := .read (0x4100 + 128 * (k + 1)) 128) (by rw [ha]; exact inFlight)
        (by rw [ha]; exact hs ▸ nofun) (by rw [ha]; exact hq)
      refine ⟨_, .of_event (f := readEnded result) rfl (ran.trans (congrArg jobEnd read)), went.state, went.index, ?_,
        went.job, fun i => (went.slot i).trans ?_, went.mod.trans ?_, went.cal.trans ?_⟩
      · rw [went.slots, ha]
        cases result with
        | delivered data => exact congrArg (s.dev.sto.loader.slots ++ ·) (slotsOfRead_some (hlen data rfl))
        | failed => rfl
      all_goals rw [ha]
      · rfl
    · obtain ⟨e, eq, taken, idle, mode, cause⟩ := slotsRead_ends (result := readBytes result) hk hv hflush
      exact ⟨e, .of_event (f := readEnded result) rfl (ran.trans eq), taken.1, taken.2, idle, mode, cause⟩
  case taken =>
    intro e holds
    obtain ⟨taken, pool, dropped⟩ := takeSlots_flt stored d
    refine ⟨told_takeSlots stored d, taken.1, taken.2, pool, dropped, takeSlots_queue stored, fun i => ?_⟩
    obtain ⟨a, here, before, held⟩ := slotsPassed_at stored d i
    have slots (k : Fin 40) : e.slot k = (slotsPassed stored d).slot k := takeSlots_slot stored k d
    rw [slots i, here]
    refine ⟨fun h => by rw [h]; exact before, fun b h => ?_⟩
    intro good code known
    rw [h]
    have same : known ↔ ∃ k, SlotHolds (a.slot k) code := by
      rw [held code]
      simp only [known, slots]
      rfl
    refine ⟨fun hbad => ?_, fun hgood h0 => ?_, fun hgood h0 hk => ?_, fun hgood h0 hk hr => ?_⟩
    · rw [takeSlot_bad hbad, setSlot_slot, if_pos rfl, before]
    · rw [takeSlot_empty hgood h0, before]
    · rw [takeSlot_taken hgood h0 (hk.imp same.mp fun h => by rw [before]; exact h), setSlot_slot, if_pos rfl, before]
    · rw [takeSlot_loaded hgood h0 (fun h => hk (same.mpr h)) (by rw [before]; exact hr), setSlot_slot, if_pos rfl]
      rfl

end Sys2Proof.Machine
end

section
/-! SUPPORT. Results of scans and what SIG makes of them; with them the statements
`Obligations.AnalogScanResultIsUsed` (O16), `Obligations.SwitchScanResultIsDebounced` (O17) and
`Obligations.WireLowIsCountedAndConfirmed` (O18). -/

namespace Sys2Proof.Machine
variable {d e : Dev}

/-! ## Scans (R4-R9) -/

/-- A class as its complete scan is judged (R7). -/
def scanJudged (c : ClassState) : ClassState :=
  let onTime := if c.late then 0 else bump 10 c.onTime
  { c with request := false, position := none, onTime := onTime, held := c.held && !(onTime == 10 && c.held) }

theorem scanComplete_eq (k : ScanClass) (d : Dev) : scanComplete k d =
    fltReportIf ((if (d.scan k).late then 0 else bump 10 (d.scan k).onTime) == 10 && (d.scan k).held)
      0x61 (classIndex k) false (d.setScan k (scanJudged (d.scan k))) := rfl

theorem scanComplete_senses (k : ScanClass) (d : Dev) :
    SensesKept (d.setScan k (scanJudged (d.scan k))) (scanComplete k d) := by
  rw [scanComplete_eq]
  exact (told_fltReportIf _ _ _ _ (Told.refl 0 _)).senses

/-- A scan's class after one of its channels (R9). -/
def scanAdvanced (ch : Nat) (c : ClassState) : ClassState :=
  match nextInSet c.set ch with
  | some next => { c with position := some next }
  | none => scanJudged c

theorem advanceScan_senses (k : ScanClass) (ch : Nat) (d : Dev) :
    SensesKept (d.setScan k (scanAdvanced ch (d.scan k))) (advanceScan k ch d) := by
  unfold advanceScan scanAdvanced
  cases nextInSet (d.scan k).set ch with
  | some next => exact .refl _
  | none => exact scanComplete_senses k d

theorem nextInSet_next {before after : List Nat} {ch next : Nat} (h : ch ∉ before) :
    nextInSet (before ++ ch :: next :: after) ch = some next := by
  rw [nextInSet, List.dropWhile_append_of_pos fun a ha => ?_]
  · simp
  · exact bne_iff_ne.mpr (ne_of_mem_of_not_mem ha h)

theorem nextInSet_last {before : List Nat} {ch : Nat} (h : ch ∉ before) : nextInSet (before ++ [ch]) ch = none := by
  rw [nextInSet, List.dropWhile_append_of_pos fun a ha => ?_]
  · simp
  · exact bne_iff_ne.mpr (ne_of_mem_of_not_mem ha h)

@[simp] theorem setScan_adcFault (d : Dev) (k : ScanClass) (c : ClassState) :
    (d.setScan k c).seq.adcFault = d.seq.adcFault := by cases k <;> rfl

@[simp] theorem setScan_goodRefs (d : Dev) (k : ScanClass) (c : ClassState) :
    (d.setScan k c).seq.goodRefs = d.seq.goodRefs := by cases k <;> rfl

theorem scan_of_seq (h : e.seq = d.seq) (k : ScanClass) : e.scan k = d.scan k := by
  cases k
  · exact congrArg SeqState.fast h
  · exact congrArg SeqState.medium h
  · exact congrArg SeqState.slow h

/-! ## Records completed (R19) -/

theorem conditionComplete_senses (ch : Nat) (out : Conditioned) (d : Dev) :
    SensesKept (d.setChan ch out.record) (conditionComplete ch out d) := by
  obtain ⟨a, ha⟩ : ∃ a, a = d.setChan ch out.record := ⟨_, rfl⟩
  have reported : Told 0 a (out.reports.foldl (fun d p => fltReport p.1.group ch p.2 d) a) :=
    List.foldlRecOn (motive := Told 0 a) _ _ (.refl 0 a) fun _ he _ _ => told_fltReport _ _ _ he
  have told := told_qualityIf ch (d.chan ch).quality reported
  obtain ⟨b, hb⟩ : ∃ b, b = qualityIf ch (d.chan ch).quality
    (out.reports.foldl (fun d p => fltReport p.1.group ch p.2 d) a) := ⟨_, rfl⟩
  rw [← hb] at told
  unfold conditionComplete
  dsimp only
  rw [← ha, ← hb]
  refine SensesKept.trans ?_ (senses_chanUpdate ..)
  split
  · exact (told_lnkPost _ _ _ told).senses
  · exact told.senses

/-! ## Results of sense pins in a scan (R9, R22-R36) -/

/-- The corrected code of a pin's result, the supply reference it needs being there and good (R24, R25). -/
def CodeOf (d : Dev) (ch raw code : Nat) : Prop :=
  ((d.pinCfg ch).ratiometric = false ∧ code = raw) ∨
    ((d.pinCfg ch).ratiometric = true ∧ ∃ s, d.sig.refSsup = some s ∧ d.sig.supplyFault = false ∧ code = correct raw s)

theorem pinResult_accepted {ch code : Nat} (ov : Bool) (h : CodeOf d ch (d.chan ch).raw code) :
    pinResult ch ov d = conditionComplete ch (acceptPin (d.pinCfg ch) code ov (d.chan ch)) d := by
  unfold pinResult
  rcases h with ⟨hr, rfl⟩ | ⟨hr, s, href, hfault, rfl⟩
  · simp [hr]
  · simp [hr, href, hfault]

/-- A pin's result accepted by SIG: its record, and all else of the sensing side as it was. -/
theorem sigResult_pin {ch raw code : Nat} (ov : Bool) (hch : ch < 40) (hf : (d.chan ch).adcFault = false)
    (h : CodeOf d ch raw code) : ∃ a, SensesKept a (sigResult ch raw ov d) ∧ a.seq = d.seq ∧ a.cal = d.cal ∧
      ∀ x, a.chan x = if x = ch then
        (acceptPin (d.pinCfg ch) code ov { d.chan ch with raw := raw }).record else d.chan x := by
  have small : ch < 46 := by omega
  obtain ⟨a, ha⟩ : ∃ a, a = d.setChan ch { d.chan ch with raw := raw } := ⟨_, rfl⟩
  have record : a.chan ch = { d.chan ch with raw := raw } := by rw [ha, setChan_chan _ _ _ _ small, if_pos rfl]
  have cfg : a.pinCfg = d.pinCfg := pinCfg_of_ram (by rw [ha, setChan_cal])
  have coded : CodeOf a ch (a.chan ch).raw code := by
    have sig : a.sig.refSsup = d.sig.refSsup ∧ a.sig.supplyFault = d.sig.supplyFault := by
      rw [ha, Dev.setChan, dif_pos small]
      exact ⟨rfl, rfl⟩
    unfold CodeOf
    rw [cfg, record, sig.1, sig.2]
    exact h
  have accepted : sigResult ch raw ov d = conditionComplete ch (acceptPin (d.pinCfg ch) code ov (a.chan ch)) a := by
    rw [← cfg, ← pinResult_accepted ov coded]
    unfold sigResult
    dsimp only
    rw [← ha, record, hf]
    exact if_neg (Nat.not_le.mpr hch)
  rw [accepted]
  refine ⟨_, conditionComplete_senses ch _ a, ?_, ?_, fun x => ?_⟩
  · rw [setChan_seq, ha, setChan_seq]
  · rw [setChan_cal, ha, setChan_cal]
  · rw [setChan_chan _ _ _ _ small, record]
    by_cases same : x = ch
    · rw [if_pos same.symm, if_pos same]
    · rw [if_neg (Ne.symm same), if_neg same, ha, setChan_chan _ _ _ _ small, if_neg (Ne.symm same)]

/-- The end of a conversion of a pin in a scan: the pin's record is the one accepted, every other record stays, and
the scan goes on. -/
theorem scanResult_outcome {s : State} {c : Conversion} {t code : Nat} {k : ScanClass} (sample peak : Int)
    (hc : s.dev.seq.converter = .converting c t) (hs : c.source = .scan k) (hch : c.channel < 40)
    (hf : (s.dev.chan c.channel).adcFault = false) (h : CodeOf s.dev c.channel (pinCode c.range sample) code) :
    ∃ e : Dev, Runs (.conversionComplete sample peak) s e ∧
      (∀ before next after, (s.dev.scan k).set = before ++ c.channel :: next :: after → c.channel ∉ before →
        (e.scan k).position = some next) ∧
      e.seq.onDemand = s.dev.seq.onDemand ∧ e.cal = s.dev.cal ∧
      ∀ ch, e.chan ch = if ch = c.channel then
        (acceptPin (s.dev.pinCfg c.channel) code (overVoltage c.range sample peak)
          { s.dev.chan c.channel with raw := pinCode c.range sample }).record else s.dev.chan ch := by
  obtain ⟨x, hx⟩ : ∃ x, x = setConverter .idle (s.dev.advanceTo t) := ⟨_, rfl⟩
  have chanX (ch : Nat) : x.chan ch = s.dev.chan ch := chan_of_sig (by rw [hx]; rfl) ch
  have cfgX : x.pinCfg = s.dev.pinCfg := pinCfg_of_ram (by rw [hx]; rfl)
  have codeX : CodeOf x c.channel (pinCode c.range sample) code := by
    unfold CodeOf
    rw [cfgX, hx]
    exact h
  obtain ⟨a, kept, seqA, calA, chanA⟩ :=
    sigResult_pin (d := x) (overVoltage c.range sample peak) hch (by rw [chanX]; exact hf) codeX
  obtain ⟨y, hy⟩ : ∃ y, y = sigResult c.channel (pinCode c.range sample) (overVoltage c.range sample peak) x := ⟨_, rfl⟩
  rw [← hy] at kept
  have advanced := advanceScan_senses k c.channel y
  have ran : conversionEnd sample peak s.dev = seqGrant (advanceScan k c.channel y) := by
    rw [conversionEnd_converting _ _ hc, seqComplete, hs, ← hx, conversionResult, if_pos hch]
    show seqGrant (deliverScan k c.channel _ x) = _
    have other : (c.channel = 43 && k == .slow) = false := by simp [show c.channel ≠ 43 by omega]
    rw [deliverScan, other, hy]
    rfl
  have scanY : y.scan k = s.dev.scan k := by
    rw [scan_of_seq (kept.seq.trans seqA) k, hx]
    cases k <;> rfl
  refine ⟨_, .of_event (f := conversionEnd sample peak) rfl ran, fun before next after hset hnot => ?_, ?_, ?_,
    fun ch => ?_⟩
  · rw [seqGrant_scan, scan_of_seq advanced.seq, setScan_scan, if_pos rfl, scanAdvanced, scanY, hset, nextInSet_next hnot]
  · rw [seqGrant_onDemand, advanced.seq, setScan_onDemand, kept.seq, seqA, hx]
    rfl
  · rw [seqGrant_cal, advanced.cal, setScan_cal, kept.cal, calA, hx]
    rfl
  · rw [chan_of_sig (seqGrant_sig _), advanced.chan, chan_of_sig (setScan_sig _ _ _), kept.chan, chanA, cfgX, chanX, chanX]

/-! ## What an accepted result makes of a record (R26-R36) -/

/-- A record as an accepted result finds it: its code written, its supply fault, age and stale cause cleared. -/
def ChanRec.seen (raw code : Nat) (r : ChanRec) : ChanRec :=
  { r with raw := raw, corrected := code, supplyFault := false, age := 0, stale := false }

theorem classify_wireLow {c : PinCfg} {code : Nat} (h : code < c.t1) : classify c code false = .candidate .wireLow := by
  simp [classify, h]

theorem classify_inRange {c : PinCfg} {code : Nat} (hs : c.switch = false) (h1 : c.t1 ≤ code) (h4 : code < c.t4) :
    classify c code false = .inRange := by
  simp [classify, hs, Nat.not_lt.mpr h1, Nat.not_le.mpr h4]

theorem classify_low {c : PinCfg} {code : Nat} (hs : c.switch = true) (h1 : c.t1 ≤ code) (h2 : code < c.t2)
    (h4 : code < c.t4) : classify c code false = .level (!c.invert) := by
  simp [classify, hs, Nat.not_lt.mpr h1, Nat.not_le.mpr h4, h2]

theorem classify_high {c : PinCfg} {code : Nat} (hs : c.switch = true) (h1 : c.t1 ≤ code) (h2 : c.t2 ≤ code)
    (h3 : c.t3 ≤ code) (h4 : code < c.t4) : classify c code false = .level c.invert := by
  simp [classify, hs, Nat.not_lt.mpr h1, Nat.not_le.mpr h4, Nat.not_lt.mpr h2, Nat.not_lt.mpr h3]

theorem acceptPin_candidate {c : PinCfg} {raw code : Nat} {ov : Bool} {f : WiringFault}
    (h : classify c code ov = .candidate f) (r : ChanRec) :
    acceptPin c code ov { r with raw := raw } = takeCandidate c f (r.seen raw code) := by
  unfold acceptPin
  simp only [h]
  rfl

theorem acceptPin_inRange {c : PinCfg} {raw code : Nat} {ov : Bool} (h : classify c code ov = .inRange) (r : ChanRec) :
    acceptPin c code ov { r with raw := raw } = takeNormal c .inRange (r.seen raw code) := by
  unfold acceptPin
  simp only [h]
  rfl

theorem acceptPin_level {c : PinCfg} {raw code : Nat} {ov b : Bool} (h : classify c code ov = .level b) (r : ChanRec) :
    acceptPin c code ov { r with raw := raw } = takeNormal c (.level b) (r.seen raw code) := by
  unfold acceptPin
  simp only [h]
  rfl

theorem takeNormal_clear {c : PinCfg} {r : ChanRec} (k : Classified) (h : r.wiring = none) :
    takeNormal c k r = useResult c k { r with pendingFault := none } [] := by
  unfold takeNormal
  simp only [h]

theorem takeNormal_faulty {c : PinCfg} {r : ChanRec} {x : WiringFault} (k : Classified) (h : r.wiring = some x) :
    takeNormal c k r =
      if c.healLimit ≤ r.heal.getD 0 + 1 then
        useResult c k { r with pendingFault := none, wiring := none, heal := none, primed := false } [(x, false)]
      else ⟨{ r with pendingFault := none, heal := some (r.heal.getD 0 + 1) }, [], none, false⟩ := by
  unfold takeNormal
  simp only [h]

theorem takeCandidate_clear {c : PinCfg} {f : WiringFault} {r : ChanRec} (h : r.wiring = none) :
    takeCandidate c f r = if c.setCount ≤ pendingCount r f then confirmFault c f r
      else ⟨{ r with pendingFault := some (f, pendingCount r f) }, [], none, false⟩ := by
  unfold takeCandidate
  simp only [h]

theorem takeCandidate_faulty {c : PinCfg} {f x : WiringFault} {r : ChanRec} (h : r.wiring = some x) :
    takeCandidate c f r =
      if f = x then ⟨{ r with heal := some 0, pendingFault := none }, [], none, false⟩
      else if c.setCount ≤ pendingCount r f then
        ⟨{ r with heal := some 0, wiring := some f, pendingFault := none }, [(x, false), (f, true)], none, false⟩
      else ⟨{ r with heal := some 0, pendingFault := some (f, pendingCount r f) }, [], none, false⟩ := by
  unfold takeCandidate
  simp only [h]

theorem confirmFault_record (c : PinCfg) (f : WiringFault) (r : ChanRec) : (confirmFault c f r).record =
    if c.substitute then { r with
      wiring := some f, pendingFault := none, heal := some 0, value := c.default, instant := c.default }
    else { r with wiring := some f, pendingFault := none, heal := some 0 } := by
  unfold confirmFault
  split <;> rfl

theorem useLevel_primed {r : ChanRec} (n : Nat) (b : Bool) (l : List (WiringFault × Bool)) (h : r.primed = true) :
    (useLevel n b r l).record =
      if levelValue b = r.value then { r with instant := levelValue b, stale := false, notYet := false, debounce := 0 }
      else if n ≤ r.debounce + 1 then { r with
        instant := levelValue b, stale := false, notYet := false, value := levelValue b, debounce := 0 }
      else { r with instant := levelValue b, stale := false, notYet := false, debounce := r.debounce + 1 } := by
  unfold useLevel
  simp only [h, Bool.not_true, Bool.false_eq_true, if_false]
  split
  · rfl
  · split <;> rfl

theorem useLevel_unprimed {r : ChanRec} (n : Nat) (b : Bool) (l : List (WiringFault × Bool)) (h : r.primed = false) :
    (useLevel n b r l).reports = l := by
  unfold useLevel
  simp [h]

/-- The filter starts from the first result that it uses (R33). -/
theorem useResult_afresh {r : ChanRec} (c : PinCfg) (l : List (WiringFault × Bool)) (h : r.primed = false) :
    (useResult c .inRange r l).record = { r with
      acc := curve c.points r.corrected * 256, value := curve c.points r.corrected
      instant := curve c.points r.corrected, primed := true, stale := false, notYet := false } := by
  have value (y : Int) : filterValue (y * 256) = y := by
    unfold filterValue
    omega
  show useValue c.k (curve c.points r.corrected) r = _
  unfold useValue filterAcc
  simp only [h, Bool.false_eq_true, if_false, value]

/-- Settles O16: the pin's result is normal, and its curve value goes through the filter. -/
theorem analogScanResultIsUsed : Obligations.AnalogScanResultIsUsed := by
  intro s c t k sample peak hc hs hch p r raw ref code y acc hf hsw hov hw hratio h1 h4
  have coded : CodeOf s.dev c.channel raw code := by
    by_cases hr : p.ratiometric = true
    · exact .inr ⟨hr, ref, (hratio hr).1, (hratio hr).2, if_pos hr⟩
    · exact .inl ⟨by simpa using hr, if_neg hr⟩
  obtain ⟨e, runs, next, demand, cal, chan⟩ := scanResult_outcome sample peak hc hs hch hf coded
  refine ⟨e, runs, next, demand, cal, fun ch => (chan ch).trans ?_⟩
  rw [hov, acceptPin_inRange (classify_inRange hsw h1 h4), takeNormal_clear _ (by exact hw)]
  rfl

/-- Settles O17: the pin's result is a level, and a primed switch debounces it. -/
theorem switchScanResultIsDebounced : Obligations.SwitchScanResultIsDebounced := by
  intro s c t k sample peak v hc hs hch p r raw hf hsw hratio hov hw hprimed hlevel
  obtain ⟨e, runs, -, -, -, chan⟩ := scanResult_outcome sample peak hc hs hch hf (code := raw) (.inl ⟨hratio, rfl⟩)
  obtain ⟨b, level, hv⟩ : ∃ b, classify p raw false = .level b ∧ v = levelValue b := by
    rcases hlevel with ⟨h1, h2, h4, hv⟩ | ⟨h1, h2, h3, h4, hv⟩
    · refine ⟨_, classify_low hsw h1 h2 h4, hv.trans ?_⟩
      cases p.invert <;> rfl
    · refine ⟨_, classify_high hsw h1 h2 h3 h4, hv.trans ?_⟩
      cases p.invert <;> rfl
  refine ⟨e, runs, fun ch => (chan ch).trans ?_⟩
  rw [hov, acceptPin_level level, takeNormal_clear _ (by exact hw), hv]
  refine congrArg (fun x => if ch = c.channel then x else s.dev.chan ch) ?_
  exact useLevel_primed p.debounce b [] (r := { r.seen raw raw with pendingFault := none }) hprimed

/-- Settles O18: the result is a fault candidate, or a normal result that counts toward the healing. -/
theorem wireLowIsCountedAndConfirmed : Obligations.WireLowIsCountedAndConfirmed := by
  constructor
  case left =>
    intro s c t k sample peak hc hs hch p r raw n seen becomes hf hratio hov
    obtain ⟨e, runs, -, -, -, chan⟩ := scanResult_outcome sample peak hc hs hch hf (code := raw) (.inl ⟨hratio, rfl⟩)
    rw [hov] at chan
    have taken {after : ChanRec} (h : (acceptPin p raw false { r with raw := raw }).record = after) : becomes after :=
      ⟨e, runs, fun ch => (chan ch).trans (by rw [← h])⟩
    have count : pendingCount (r.seen raw raw) .wireLow = n := by
      show pendingCount r .wireLow = n
      unfold pendingCount
      show _ = match r.pendingFault with
        | some (.wireLow, m) => m + 1
        | _ => 1
      rcases r.pendingFault with _ | ⟨_ | _, m⟩ <;> rfl
    refine ⟨fun hw low => taken ?_, fun x hw low => taken ?_, fun x hw hsw h1 h4 => taken ?_⟩
    · rw [acceptPin_candidate (classify_wireLow low), takeCandidate_clear (by exact hw), count]
      by_cases hn : n < p.setCount
      · rw [if_neg (Nat.not_le.mpr hn), if_pos hn]
        rfl
      · rw [if_pos (Nat.not_lt.mp hn), if_neg hn, confirmFault_record]
        rfl
    · rw [acceptPin_candidate (classify_wireLow low), takeCandidate_faulty (by exact hw), count]
      by_cases same : x = .wireLow
      · rw [if_pos same.symm, if_pos same]
        rfl
      rw [if_neg (Ne.symm same), if_neg same]
      by_cases hn : n < p.setCount
      · rw [if_neg (Nat.not_le.mpr hn), if_pos hn]
        rfl
      · rw [if_pos (Nat.not_lt.mp hn), if_neg hn]
        rfl
    · rw [acceptPin_inRange (classify_inRange hsw h1 h4), takeNormal_faulty _ (by exact hw)]
      by_cases hn : r.heal.getD 0 + 1 < p.healLimit
      · rw [if_neg (by exact Nat.not_le.mpr hn), if_pos hn]
        rfl
      · rw [if_pos (by exact Nat.not_lt.mp hn), if_neg hn]
        exact useResult_afresh p _ rfl
  case right =>
    intro p r x y level hw
    refine ⟨fun hne hn => ?_, fun hne hn => ?_, fun hn => ⟨?_, ?_⟩⟩
    · rw [takeCandidate_faulty hw, if_neg hne, if_pos hn]
    · rw [takeCandidate_faulty hw, if_neg hne, if_neg (Nat.not_le.mpr hn)]
    · rw [takeNormal_faulty _ hw, if_pos hn]
      rfl
    · rw [takeNormal_faulty _ hw, if_pos hn]
      exact useLevel_unprimed p.debounce level [(x, false)] rfl

end Sys2Proof.Machine
end

section
/-! SUPPORT. Changes of many channel records, the expiry of a scan's period and the reference check; with them the
statements `Obligations.ScanExpiryRequestsAndAges` (O12) and `Obligations.ReferenceCheckJudgesAdc` (O15). -/

namespace Sys2Proof.Machine
variable {d e : Dev}

/-! ## Changes of many records (R19, R22, R37) -/

/-- The records 0-43 changed, nothing told yet. -/
def recordsChanged (f : Nat → ChanRec → ChanRec) (d : Dev) : Dev :=
  forEach 44 (fun i d => d.setChan i (f i (d.chan i))) d

theorem recordsChanged_only (f : Nat → ChanRec → ChanRec) (d : Dev) : ∃ w, recordsChanged f d = { d with sig := w } := by
  refine forEach_keeps (P := fun e => ∃ w, e = { d with sig := w }) (fun i e ⟨w, he⟩ => ?_) ⟨d.sig, rfl⟩
  rw [he, Dev.setChan]
  split
  · exact ⟨_, rfl⟩
  · exact ⟨w, rfl⟩

theorem recordsChanged_seq (f : Nat → ChanRec → ChanRec) (d : Dev) : (recordsChanged f d).seq = d.seq := by
  obtain ⟨w, eq⟩ := recordsChanged_only f d
  rw [eq]

theorem recordsChanged_cal (f : Nat → ChanRec → ChanRec) (d : Dev) : (recordsChanged f d).cal = d.cal := by
  obtain ⟨w, eq⟩ := recordsChanged_only f d
  rw [eq]

theorem recordsChanged_clock (f : Nat → ChanRec → ChanRec) (d : Dev) : (recordsChanged f d).clock = d.clock := by
  obtain ⟨w, eq⟩ := recordsChanged_only f d
  rw [eq]

theorem recordsChanged_chan (f : Nat → ChanRec → ChanRec) (d : Dev) (ch : Nat) :
    (recordsChanged f d).chan ch = if ch < 44 then f ch (d.chan ch) else d.chan ch := by
  have other (i : Fin 44) (e : Dev) (h : i.val ≠ ch) : (e.setChan i (f i (e.chan i))).chan ch = e.chan ch := by
    rw [setChan_chan _ _ _ _ (by omega), if_neg h]
  by_cases hch : ch < 44
  · rw [if_pos hch]
    refine forEach_at (before := fun e => e.chan ch = d.chan ch) (after := fun e => e.chan ch = f ch (d.chan ch)) ⟨ch, hch⟩
      (fun j hj e he => (other j e fun same => hj (Fin.ext same)).trans he) (fun e he => ?_)
      (fun j hj e he => (other j e fun same => hj (Fin.ext same)).trans he) rfl
    rw [setChan_chan _ _ _ _ (by omega), if_pos rfl, he]
  · rw [if_neg hch]
    exact forEach_keeps (P := fun e => e.chan ch = d.chan ch) (fun i e he => (other i e (by omega)).trans he) rfl

theorem changeMany_senses (f : Nat → ChanRec → ChanRec) (updates : Nat → ChanRec → ChanRec → Bool) (d : Dev) :
    SensesKept (recordsChanged f d) (changeMany 44 f updates d) := by
  obtain ⟨a, ha⟩ : ∃ a, a = recordsChanged f d := ⟨_, rfl⟩
  have told : Told 0 a (forEach 44 (fun i => qualityIf i (d.chan i).quality) a) :=
    told_forEach (fun i e => told_qualityIf i _) (.refl 0 a)
  have eq : changeMany 44 f updates d =
      forEach 44 (fun i e => if updates i (d.chan i) (a.chan i) then chanUpdate i false e else e)
        (forEach 44 (fun i => qualityIf i (d.chan i).quality) a) := by
    rw [ha]
    rfl
  rw [eq, ← ha]
  refine told.senses.trans (senses_forEach (fun i e => ?_) _)
  split
  · exact senses_chanUpdate ..
  · exact .refl e

/-! ## The expiry of a scan's period (R5, R6, R37) -/

theorem grantAfterExpiry_outcome (d : Dev) : grantAfterExpiry d = d ∨
    d.seq.converter = .idle ∧ grantAfterExpiry d = seqGrant d := by
  unfold grantAfterExpiry seqGrantIfIdle
  split
  · exact .inl rfl
  · split
    next idle => exact .inr ⟨idle, rfl⟩
    next => exact .inl rfl

/-- What a grant after an expiry leaves: all but an idle converter. -/
theorem grantAfterExpiry_kept (d : Dev) : (grantAfterExpiry d).sig = d.sig ∧ (grantAfterExpiry d).cal = d.cal ∧
    (grantAfterExpiry d).clock = d.clock ∧ (grantAfterExpiry d).seq.onDemand = d.seq.onDemand ∧
    (∀ k, (grantAfterExpiry d).scan k = d.scan k) ∧
    (d.seq.converter ≠ .idle → (grantAfterExpiry d).seq.converter = d.seq.converter) := by
  rcases grantAfterExpiry_outcome d with eq | ⟨idle, eq⟩ <;> rw [eq]
  · exact ⟨rfl, rfl, rfl, rfl, fun _ => rfl, fun _ => rfl⟩
  · exact ⟨seqGrant_sig d, seqGrant_cal d, seqGrant_clock d, seqGrant_onDemand d, seqGrant_scan d, fun h => absurd idle h⟩

/-- A class whose request has been raised (R4, R5). -/
def scanRaised (c : ClassState) : ClassState :=
  match c.set with
  | [] => scanJudged { c with late := false }
  | ch :: _ => { c with request := true, position := some ch, late := false }

/-- A judged scan, its fault no longer held at the tenth time on time. -/
theorem scanJudged_eq (c : ClassState) : scanJudged c = { c with
    request := false, position := none, onTime := if c.late then 0 else bump 10 c.onTime
    held := c.held && decide ((if c.late then 0 else bump 10 c.onTime) ≠ 10) } := by
  have held (n : Nat) : (c.held && !(n == 10 && c.held)) = (c.held && decide (n ≠ 10)) := by
    cases c.held
    · rfl
    · rw [Bool.and_true, Bool.true_and, Bool.true_and, Bool.eq_iff_iff, Bool.not_eq_true', beq_eq_false_iff_ne,
        decide_eq_true_eq]
  unfold scanJudged
  simp only [held]

/-- A scan that is not late is judged on time (R7). -/
theorem scanJudged_onTime {c : ClassState} (h : c.late = false) : scanJudged c = { c with
    request := false, position := none, onTime := min 10 (c.onTime + 1)
    held := c.held && decide (min 10 (c.onTime + 1) < 10) } := by
  have below : decide (min 10 (c.onTime + 1) ≠ 10) = decide (min 10 (c.onTime + 1) < 10) :=
    decide_eq_decide.mpr ⟨lt_of_le_of_ne (min_le_left _ _), ne_of_lt⟩
  rw [scanJudged_eq, ← below]
  simp only [h, Bool.false_eq_true, if_false, bump]

theorem scanRaised_empty {c : ClassState} (h : c.set = []) : scanRaised c = scanJudged { c with late := false } := by
  unfold scanRaised
  split
  · rfl
  next some => exact nomatch h.symm.trans some

theorem scanRaised_first {c : ClassState} {ch : Nat} {rest : List Nat} (h : c.set = ch :: rest) :
    scanRaised c = { c with request := true, position := some ch, late := false } := by
  unfold scanRaised
  split
  next none => exact nomatch h.symm.trans none
  next some => rw [(List.cons.inj (h.symm.trans some)).1]

theorem setScan_twice (k : ScanClass) (a b : ClassState) (d : Dev) : (d.setScan k a).setScan k b = d.setScan k b := by
  cases k <;> rfl

theorem raiseScan_senses (k : ScanClass) (d : Dev) : SensesKept (d.setScan k (scanRaised (d.scan k))) (raiseScan k d) := by
  unfold raiseScan
  dsimp only
  split
  next empty =>
    have kept := scanComplete_senses k (d.setScan k { d.scan k with late := false })
    rw [setScan_scan, if_pos rfl, setScan_twice] at kept
    rw [scanRaised_empty empty]
    exact kept
  next ch rest first =>
    rw [scanRaised_first first]
    exact .refl _

/-- A class whose scan an expiry finds unfinished (R6). -/
def scanLate (c : ClassState) : ClassState :=
  { c with overruns := bump 255 c.overruns, late := true, onTime := 0, held := true }

theorem scanOverrun_senses (k : ScanClass) (d : Dev) : SensesKept (d.setScan k (scanLate (d.scan k))) (scanOverrun k d) :=
  (told_fltReportIf _ _ _ _ (Told.refl 0 (d.setScan k (scanLate (d.scan k))))).senses

/-- The records as the expiry of a class ages them. -/
def agedRecord (set : List Nat) (ch : Nat) (r : ChanRec) : ChanRec := if set.contains ch then ageRecord r else r

theorem scanExpire_eq (k : ScanClass) (d : Dev) : ∃ a,
    SensesKept (recordsChanged (agedRecord (d.scan k).set)
      (d.setScan k { d.scan k with timer := d.timerIn (classPeriod k) })) a ∧
    scanExpire k d = if (d.scan k).request then scanOverrun k a else grantAfterExpiry (raiseScan k a) := by
  obtain ⟨b, hb⟩ : ∃ b, b = d.setScan k { d.scan k with timer := d.timerIn (classPeriod k) } := ⟨_, rfl⟩
  have scanB : b.scan k = { d.scan k with timer := d.timerIn (classPeriod k) } := by rw [hb, setScan_scan, if_pos rfl]
  have kept : SensesKept (recordsChanged (agedRecord (b.scan k).set) b) (sigAge (b.scan k).set b) := changeMany_senses _ _ b
  have scanA : (sigAge (b.scan k).set b).scan k = b.scan k :=
    scan_of_seq (kept.seq.trans (recordsChanged_seq _ b)) k
  rw [← hb]
  refine ⟨_, by rw [show (d.scan k).set = (b.scan k).set by rw [scanB]]; exact kept, ?_⟩
  show (if ((sigAge ((d.setScan k { d.scan k with timer := d.timerIn (classPeriod k) }).scan k).set
    (d.setScan k { d.scan k with timer := d.timerIn (classPeriod k) })).scan k).request then _ else _) = _
  rw [← hb, scanA, scanB]

/-- Settles O12: the expiry's records and class, and then the grant that may follow it. -/
theorem scanExpiryRequestsAndAges : Obligations.ScanExpiryRequestsAndAges := by
  intro s k t ht c now period onTime
  obtain ⟨d, hd⟩ : ∃ d, d = s.dev.advanceTo t := ⟨_, rfl⟩
  have scanD (k : ScanClass) : d.scan k = s.dev.scan k := by rw [hd]; cases k <;> rfl
  have timerD : d.timerIn (classPeriod k) = some (now + period) := by
    rw [hd]
    cases k <;> rfl
  obtain ⟨a, kept, expire⟩ := scanExpire_eq k d
  rw [scanD, timerD] at kept
  rw [scanD] at expire
  have seqA := kept.seq.trans (recordsChanged_seq _ _)
  have scanA (k' : ScanClass) : a.scan k' =
      if k = k' then { c with timer := some (now + period) } else s.dev.scan k' := by
    rw [scan_of_seq seqA, setScan_scan, scanD]
  have convA : a.seq.converter = s.dev.seq.converter := by rw [seqA, setScan_converter, hd]; rfl
  have demandA : a.seq.onDemand = s.dev.seq.onDemand := by rw [seqA, setScan_onDemand, hd]; rfl
  have clockA : a.clock = now := by rw [kept.clock, recordsChanged_clock, setScan_clock, hd]; rfl
  have calA : a.cal = s.dev.cal := by rw [kept.cal, recordsChanged_cal, setScan_cal, hd]; rfl
  have chanA (ch : Nat) : a.chan ch = if ch < 44 ∧ ch ∈ c.set then ageRecord (s.dev.chan ch) else s.dev.chan ch := by
    rw [kept.chan, recordsChanged_chan, chan_of_sig (setScan_sig _ _ _), hd]
    by_cases small : ch < 44
    · rw [if_pos small, agedRecord]
      refine if_congr ?_ rfl rfl
      rw [List.contains_iff_mem]
      exact (and_iff_right small).symm
    · rw [if_neg small, if_neg fun h => small h.1]
      rfl
  have aged (ch : Nat) : ageRecord (s.dev.chan ch) = { s.dev.chan ch with
      age := min 255 ((s.dev.chan ch).age + 1)
      stale := (s.dev.chan ch).stale || decide (min 255 ((s.dev.chan ch).age + 1) = 3) } := rfl
  simp only [aged] at chanA
  have run : onExpiry (s.dev.scan k).timer (scanExpire k) s.dev = scanExpire k d := by
    rw [ht, onExpiry_some, hd]
  by_cases hr : c.request = true
  · have late := scanOverrun_senses k a
    refine ⟨_, .of_event (f := onExpiry (s.dev.scan k).timer (scanExpire k)) rfl (run.trans (expire.trans (if_pos hr))),
      ?_, fun _ => ?_, ?_, fun k' hk => ?_, ?_, ?_, fun ch => ?_⟩
    · rw [scan_of_seq late.seq, setScan_scan, if_pos rfl, scanA, if_pos rfl, if_pos hr]
      rfl
    · rw [late.seq, setScan_converter, convA]
    · rw [late.seq, setScan_onDemand, demandA]
    · rw [scan_of_seq late.seq, setScan_scan, if_neg hk.symm, scanA, if_neg hk.symm]
    · rw [late.clock, setScan_clock, clockA]
    · rw [late.cal, setScan_cal, calA]
    · rw [late.chan, chan_of_sig (setScan_sig _ _ _), chanA]
  · have raised := raiseScan_senses k a
    obtain ⟨sig, cal, clock, demand, scan, conv⟩ := grantAfterExpiry_kept (raiseScan k a)
    refine ⟨_, .of_event (f := onExpiry (s.dev.scan k).timer (scanExpire k)) rfl (run.trans (expire.trans (if_neg hr))),
      ?_, fun hc => ?_, ?_, fun k' hk => ?_, ?_, ?_, fun ch => ?_⟩
    · rw [scan, scan_of_seq raised.seq, setScan_scan, if_pos rfl, scanA, if_pos rfl, if_neg hr]
      split
      next empty =>
        rw [scanRaised_empty (by exact empty), scanJudged_onTime (by rfl)]
        show ({ c with
          timer := some (now + period), request := false, position := none, late := false, onTime := onTime
          held := c.held && decide (onTime < 10) } : ClassState) = _
        rw [← eq_false_of_ne_true hr]
      next ch rest first =>
        rw [scanRaised_first (by exact first)]
    · have held : (raiseScan k a).seq.converter = s.dev.seq.converter := by rw [raised.seq, setScan_converter, convA]
      rw [conv (by rw [held]; exact hc.resolve_left hr), held]
    · rw [demand, raised.seq, setScan_onDemand, demandA]
    · rw [scan, scan_of_seq raised.seq, setScan_scan, if_neg hk.symm, scanA, if_neg hk.symm]
    · rw [clock, raised.clock, setScan_clock, clockA]
    · rw [cal, raised.cal, setScan_cal, calA]
    · rw [chan_of_sig sig, raised.chan, chan_of_sig (setScan_sig _ _ _), chanA]

/-! ## The reference check (R15, R16, R22) -/

/-- From `d` to `e` the ADC fault has been judged: `fault` and `refs` stand in SEQ, `f` has changed the records 0-43,
and all else of the sensing side but the supply reference is as it was. -/
structure RefJudged (fault : Bool) (refs : Nat) (f : ChanRec → ChanRec) (d e : Dev) : Prop where
  clock : e.clock = d.clock
  cal : e.cal = d.cal
  seq : e.seq = { d.seq with adcFault := fault, goodRefs := refs }
  chan (ch : Nat) : e.chan ch = if ch < 44 then f (d.chan ch) else d.chan ch

/-- A judgement that leaves the ADC fault as it is. -/
theorem refJudged_counted (refs : Nat) (d : Dev) :
    RefJudged d.seq.adcFault refs id d { d with seq := { d.seq with goodRefs := refs } } where
  clock := rfl
  cal := rfl
  seq := rfl
  chan ch := by
    show d.chan ch = _
    split <;> rfl

/-- A change of the ADC fault: reported, then told to SIG, then to the host and WRN. -/
theorem refJudged_changed {fault : Bool} {refs : Nat} {f : ChanRec → ChanRec} {x y : Dev}
    (hx : Told 0 { d with seq := { d.seq with adcFault := fault, goodRefs := refs } } x)
    (hy : y.seq = x.seq ∧ y.cal = x.cal ∧ y.clock = x.clock ∧ y.sig.table = x.sig.table)
    (hk : SensesKept (recordsChanged (fun _ => f) y) e) :
    RefJudged fault refs f d (wrnSystem .adcFault (postSystem e)) := by
  have kept := hk.trans (told_wrnSystem .adcFault (told_postSystem (Told.refl 1 e))).senses
  obtain ⟨seq, cal, clock, table⟩ := hy
  refine ⟨?_, ?_, ?_, fun ch => ?_⟩
  · rw [kept.clock, recordsChanged_clock, clock, hx.clock]
  · rw [kept.cal, recordsChanged_cal, cal, hx.cal]
  · rw [kept.seq, recordsChanged_seq, seq, hx.seq]
  · have same : y.chan ch = d.chan ch := by
      have tables : y.sig.table = d.sig.table := table.trans (congrArg SigState.table hx.sig)
      unfold Dev.chan
      rw [tables]
    rw [kept.chan, recordsChanged_chan, same]

/-- A record when the ADC fault has been set (R22). -/
def ChanRec.adcFaulted (r : ChanRec) : ChanRec :=
  { r with adcFault := true, primed := false, debounce := 0, pendingFault := none, heal := r.heal.map fun _ => 0 }

/-- The judgement of a reference code: what becomes of the fault, of the count of good references and of the
records. -/
theorem judgeReference_outcome (code : Nat) (d : Dev) : ∃ fault refs f, RefJudged fault refs f d (judgeReference code d) ∧
    (¬(1980 ≤ code ∧ code ≤ 2020) → fault = true ∧ refs = 0) ∧
    (1980 ≤ code ∧ code ≤ 2020 → d.seq.adcFault = false → fault = false ∧ refs = d.seq.goodRefs) ∧
    (1980 ≤ code ∧ code ≤ 2020 → d.seq.adcFault = true → d.seq.goodRefs < 2 →
      fault = true ∧ refs = d.seq.goodRefs + 1) ∧
    (1980 ≤ code ∧ code ≤ 2020 → d.seq.adcFault = true → 2 ≤ d.seq.goodRefs → fault = false ∧ refs = 0) ∧
    (d.seq.adcFault ≠ fault → ∀ r, (f r).adcFault = fault) ∧
    (d.seq.adcFault = false → ¬(1980 ≤ code ∧ code ≤ 2020) → ∀ r, (f r).primed = false) := by
  have judged : goodReference code = true ↔ 1980 ≤ code ∧ code ≤ 2020 := by
    rw [goodReference, Bool.and_eq_true, decide_eq_true_eq, decide_eq_true_eq]
  unfold judgeReference
  by_cases good : 1980 ≤ code ∧ code ≤ 2020
  · rw [if_pos (judged.mpr good)]
    cases hf : d.seq.adcFault with
    | false =>
      exact ⟨_, _, _, refJudged_counted d.seq.goodRefs d, fun h => absurd good h, fun _ _ => ⟨hf, rfl⟩, nofun, nofun,
        fun h => absurd hf.symm h, fun _ h => absurd good h⟩
    | true =>
      by_cases third : 3 ≤ d.seq.goodRefs + 1
      · rw [if_pos rfl, if_pos third]
        refine ⟨false, 0, fun r => { r with adcFault := false },
          refJudged_changed (told_fltReport _ _ _ (.refl 0 _)) ⟨rfl, rfl, rfl, rfl⟩ (changeMany_senses _ _ _),
          fun h => absurd good h, nofun, fun _ _ h => absurd third (by omega), fun _ _ _ => ⟨rfl, rfl⟩, fun _ _ => rfl,
          nofun⟩
      · rw [if_pos rfl, if_neg third]
        exact ⟨_, _, _, refJudged_counted (d.seq.goodRefs + 1) d, fun h => absurd good h, nofun, fun _ _ _ => ⟨hf, rfl⟩,
          fun _ _ h => absurd h (by omega), fun h => absurd hf.symm h, nofun⟩
  · rw [if_neg (judged.not.mpr good)]
    cases hf : d.seq.adcFault with
    | true =>
      exact ⟨_, _, _, refJudged_counted 0 d, fun _ => ⟨hf, rfl⟩, fun h => absurd h good, fun h => absurd h good,
        fun h => absurd h good, fun h => absurd hf.symm h, nofun⟩
    | false =>
      obtain ⟨x, hx⟩ : ∃ x, x = fltReport 0x43 0 true
        { d with seq := { d.seq with adcFault := true, goodRefs := 0 } } := ⟨_, rfl⟩
      have told : Told 0 { d with seq := { d.seq with adcFault := true, goodRefs := 0 } } x :=
        hx ▸ told_fltReport _ _ _ (.refl 0 _)
      have set : RefJudged true 0 ChanRec.adcFaulted d (wrnSystem .adcFault (postSystem (sigAdcSet x))) :=
        refJudged_changed (y := { x with sig := { x.sig with refSsup := none } }) told ⟨rfl, rfl, rfl, rfl⟩
          (changeMany_senses _ _ _)
      rw [hx] at set
      exact ⟨true, 0, _, set,
        fun _ => ⟨rfl, rfl⟩, fun h => absurd h good, fun h => absurd h good, fun h => absurd h good, fun _ _ => rfl,
        fun _ _ _ => rfl⟩

theorem setChan_twice (ch : Nat) (a b : ChanRec) (d : Dev) : (d.setChan ch a).setChan ch b = d.setChan ch b := by
  unfold Dev.setChan
  split
  · simp
  · rfl

/-- A result of a SUPPLY channel that is not SSUP (R34). -/
theorem supplyResult_other {ch : Nat} (raw : Nat) (h : ch ≠ 41) (hch : ch < 46) : supplyResult ch raw d =
    chanUpdate ch false (qualityIf ch (d.chan ch).quality (d.setChan ch (acceptSupply raw (d.chan ch)))) := by
  have same : ((d.setChan ch (acceptSupply raw (d.chan ch))).sig.supplyFault != d.sig.supplyFault) = false := by
    rw [Dev.setChan, dif_pos hch]
    exact bne_self_eq_false _
  unfold supplyResult
  simp only [h, if_false, same, Bool.false_eq_true]

/-- The result of REFCHK at SIG: its record keeps the ADC-fault cause, and under it the primed flag. -/
theorem sigResult_reference (raw : Nat) (ov : Bool) (d : Dev) : ∃ r, SensesKept (d.setChan 43 r) (sigResult 43 raw ov d) ∧
    r.adcFault = (d.chan 43).adcFault ∧ ((d.chan 43).adcFault = true → r.primed = (d.chan 43).primed) := by
  obtain ⟨a, ha⟩ : ∃ a, a = d.setChan 43 { d.chan 43 with raw := raw } := ⟨_, rfl⟩
  have record : a.chan 43 = { d.chan 43 with raw := raw } := by rw [ha, setChan_chan _ _ _ _ (by omega), if_pos rfl]
  cases hf : (d.chan 43).adcFault with
  | true =>
    have only : sigResult 43 raw ov d = a := by
      unfold sigResult
      dsimp only
      rw [← ha, record]
      exact if_pos hf
    rw [only, ha]
    exact ⟨_, .refl _, hf, fun _ => rfl⟩
  | false =>
    obtain ⟨b, hb⟩ : ∃ b, b = a.setChan 43 (acceptSupply raw (a.chan 43)) := ⟨_, rfl⟩
    have used : sigResult 43 raw ov d = chanUpdate 43 false (qualityIf 43 (a.chan 43).quality b) := by
      rw [hb, ← supplyResult_other raw (by omega) (by omega)]
      unfold sigResult
      dsimp only
      rw [← ha, record]
      exact (if_neg (by simp [hf])).trans (if_pos (by omega))
    rw [used]
    refine ⟨acceptSupply raw (a.chan 43), ?_, ?_, nofun⟩
    · have twice : b = d.setChan 43 (acceptSupply raw (a.chan 43)) := by
        rw [hb, ha, setChan_twice]
      rw [← twice]
      exact (told_qualityIf _ _ (Told.refl 0 b)).senses.trans (senses_chanUpdate ..)
    · rw [record]
      exact hf

/-- After an absent report no slot that a search finds first holds its code ACTIVE (R136). -/
theorem fltAbsent_passive {code : BitVec 16} {i : Fin 40} {r : FaultRec}
    (hr : ((fltAbsent code d).slot i).record = some r) (hc : r.code = code)
    (first : ∀ k r', k < i → ((fltAbsent code d).slot k).record = some r' → r'.code ≠ code) : r.active = false := by
  cases found : findCode d code with
  | none =>
    have same : fltAbsent code d = d := by
      unfold fltAbsent
      rw [found]
    rw [same] at hr
    exact absurd ⟨r, hr, hc⟩ (findCode_eq_none_iff.mp found i)
  | some j =>
    obtain ⟨⟨x, hx, hxc⟩, before⟩ := findCode_eq_some_iff.mp found
    cases active : x.active with
    | true =>
      rw [fltAbsent_active found hx active] at hr first
      by_cases same : j = i
      · rw [commitRecord_slot, if_pos same] at hr
        rw [← Option.some.inj hr]
      · rw [commitRecord_slot, if_neg same] at hr
        rcases lt_or_gt_of_ne same with below | above
        · exact absurd hxc (first j { x with active := false } below (by rw [commitRecord_slot, if_pos rfl]))
        · exact absurd ⟨r, hr, hc⟩ (before i above)
    | false =>
      have same : fltAbsent code d = d := by
        unfold fltAbsent
        simp [found, hx, active]
      rw [same] at hr first
      rcases lt_trichotomy j i with below | rfl | above
      · exact absurd hxc (first j x below hx)
      · rw [← Option.some.inj (hx.symm.trans hr)]
        exact active
      · exact absurd ⟨r, hr, hc⟩ (before i above)

/-- Settles O15: the judgement, the result at SIG, the end of the scan, in that order. -/
theorem referenceCheckJudgesAdc : Obligations.ReferenceCheckJudgesAdc := by
  intro s c t sample peak hc hs hch q code good onTime
  obtain ⟨x, hx⟩ : ∃ x, x = setConverter .idle (s.dev.advanceTo t) := ⟨_, rfl⟩
  have seqX : x.seq = { q with converter := .idle } := by rw [hx]; rfl
  have faultX : x.seq.adcFault = q.adcFault := by rw [seqX]
  have refsX : x.seq.goodRefs = q.goodRefs := by rw [seqX]
  obtain ⟨fault, refs, f, judged, bad, kept, counts, clears, told, unprimed⟩ := judgeReference_outcome code x
  rw [faultX] at kept counts clears told unprimed
  rw [refsX] at kept counts clears
  obtain ⟨j, hj⟩ : ∃ j, j = judgeReference code x := ⟨_, rfl⟩
  rw [← hj] at judged
  obtain ⟨r, result, rFault, rPrimed⟩ := sigResult_reference code false j
  obtain ⟨y, hy⟩ : ∃ y, y = sigResult 43 code false j := ⟨_, rfl⟩
  rw [← hy] at result
  have advanced := advanceScan_senses .slow 43 y
  have ran : conversionEnd sample peak s.dev = seqGrant (advanceScan .slow 43 y) := by
    rw [conversionEnd_converting _ _ hc, seqComplete, hs, ← hx, conversionResult, hch, if_neg (by omega)]
    show seqGrant (deliverScan .slow 43 (code, false) x) = _
    rw [deliverScan, hy, hj]
    rfl
  have seqY : y.seq = { q with converter := .idle, adcFault := fault, goodRefs := refs } := by
    rw [result.seq, setChan_seq, judged.seq, seqX]
  have slowY : y.scan .slow = q.slow := by
    show y.seq.slow = _
    rw [seqY]
  have chanJ (ch : Nat) (small : ch < 44) : j.chan ch = f (x.chan ch) := by rw [judged.chan, if_pos small]
  have chanY (ch : Nat) (small : ch < 44) : (y.chan ch).adcFault = (f (x.chan ch)).adcFault ∧
      ((f (x.chan ch)).adcFault = true → (y.chan ch).primed = (f (x.chan ch)).primed) := by
    rw [result.chan, setChan_chan _ _ _ _ (by omega), ← chanJ ch small]
    by_cases same : 43 = ch
    · subst same
      rw [if_pos rfl]
      exact ⟨rFault, rPrimed⟩
    · rw [if_neg same]
      exact ⟨rfl, fun _ => rfl⟩
  obtain ⟨e, he⟩ : ∃ e, e = seqGrant (advanceScan .slow 43 y) := ⟨_, rfl⟩
  have chanE (ch : Nat) : e.chan ch = y.chan ch := by
    rw [he, chan_of_sig (seqGrant_sig _), advanced.chan, chan_of_sig (setScan_sig _ _ _)]
  have faultE : e.seq.adcFault = fault := by
    rw [he, seqGrant_adcFault, advanced.seq, setScan_adcFault, seqY]
  have refsE : e.seq.goodRefs = refs := by
    rw [he, seqGrant_goodRefs, advanced.seq, setScan_goodRefs, seqY]
  rw [← he] at ran
  refine ⟨e, .of_event (f := conversionEnd sample peak) rfl ran, ?_, ?_, ?_, ?_, ?_, fun changed ch small => ?_,
    fun hf hbad ch small => ?_, fun before hset hnot => ⟨?_, fun h10 hheld i r' hr hcode first => ?_⟩, ?_, ?_⟩
  · rw [he, seqGrant_clock, advanced.clock, setScan_clock, result.clock, setChan_clock, judged.clock, hx]
    rfl
  · rw [faultE, refsE]
    exact bad
  · rw [faultE, refsE]
    exact kept
  · rw [faultE, refsE]
    exact counts
  · rw [faultE, refsE]
    exact clears
  · rw [faultE] at changed ⊢
    rw [chanE, (chanY ch small).1]
    exact told changed _
  · have set : (f (x.chan ch)).adcFault = true := by
      rw [told (by rw [hf, (bad hbad).1]; exact nofun), (bad hbad).1]
    rw [chanE, (chanY ch small).2 set]
    exact unprimed hf hbad _
  · have slow : e.seq.slow = scanJudged q.slow := by
      show e.scan .slow = _
      rw [he, seqGrant_scan, scan_of_seq advanced.seq, setScan_scan, if_pos rfl, slowY, scanAdvanced, hset,
        nextInSet_last hnot]
    rw [slow, scanJudged_eq]
    rfl
  · have complete : advanceScan .slow 43 y = fltAbsent 0x6102#16 (y.setScan .slow (scanJudged q.slow)) := by
      rw [advanceScan, slowY, hset, nextInSet_last hnot]
      show scanComplete .slow y = _
      rw [scanComplete_eq, slowY, hheld, Bool.and_true, beq_iff_eq.mpr (by exact h10)]
      rfl
    have slots (k : Fin 40) : e.slot k = (fltAbsent 0x6102#16 (y.setScan .slow (scanJudged q.slow))).slot k := by
      rw [he, complete]
      exact slot_of_flt (congrArg FltState.slots (seqGrant_flt _)) k
    rw [slots] at hr
    refine fltAbsent_passive hr hcode fun k r' hk hr' => ?_
    rw [← slots] at hr'
    exact first k r' hk hr'
  · rw [he, seqGrant_onDemand, advanced.seq, setScan_onDemand, seqY]
  · rw [he, seqGrant_cal, advanced.cal, setScan_cal, result.cal, setChan_cal, judged.cal, hx]
    rfl

end Sys2Proof.Machine
end
